-- ==== Sys2Proof/Word.lean ====
section
/-! DEFINITION. The plain number types of the model: bytes as shared memory holds them, and the numbers of
channels, rate generators, trigger lines and marker lines (00_scope.md, "Numbering"). -/

namespace Sys2Proof

/-- One byte of a shared structure. -/
abbrev Byte := BitVec 8

/-- A channel number, 0 to 7; channel k drives output lane k. -/
abbrev Chan := Fin 8

/-- A rate generator number, 0 to 3. -/
abbrev GenIx := Fin 4

/-- A trigger line number, 0 to 3. -/
abbrev LineIx := Fin 4

/-- A marker number of a lane, 0 or 1. -/
abbrev MarkIx := Fin 2

/-- The channels in channel order. -/
def allChans : List Chan := [0, 1, 2, 3, 4, 5, 6, 7]

/-- The trigger lines in line order. -/
def allLines : List LineIx := [0, 1, 2, 3]

/-- The rate generators in order. -/
def allGens : List GenIx := [0, 1, 2, 3]

/-- Eight values, one per channel. -/
def vec8 {α : Type} (f : Chan → α) : Vector α 8 :=
  #v[f 0, f 1, f 2, f 3, f 4, f 5, f 6, f 7]

/-- Four values, one per generator or line. -/
def vec4 {α : Type} (f : Fin 4 → α) : Vector α 4 := #v[f 0, f 1, f 2, f 3]

end Sys2Proof
end

