-- ==== Sys2Proof/Syntax.lean ====
section
/-! DEFINITION. The commands of the block: one constructor of `Instr` per row of spec/opcode_table.json. -/

namespace Sys2Proof

/-- What memory answers to a read (R154): the data asked for, or an error. -/
inductive ReadAnswer where
  | data (bytes : List Byte)
  | error
  deriving DecidableEq, Repr

/-- What memory answers to a write (R154): confirmation, or an error. -/
inductive WriteAnswer where
  | confirmed
  | error
  deriving DecidableEq, Repr

/-- The commands (opcode_table.json). Register writes carry the value written; an order carries the edition of its slot
and its parameters as the slot's bytes give them (11.6, log 7); a completion carries memory's answer (log 2); an event
inside an expiry or a trigger sample names where it falls (log 6). -/
inductive Instr where
  /-- POWER_ON. -/
  | powerOn
  /-- RESET: an ENGINE write with the RESET command. -/
  | reset
  /-- GO: an ENGINE write with the GO command. -/
  | go
  /-- HALT: an ENGINE write with the HALT command. -/
  | halt
  /-- PAGE: a write of the PAGE register. -/
  | page (value : BitVec 32)
  /-- CHANNEL_NUDGE: a NUDGE write whose bits 0 to 7 are `channels`. -/
  | channelNudge (channels : BitVec 8)
  /-- ORDER_NUDGE: a NUDGE write with bit 8 set. -/
  | orderNudge
  /-- REPORT_ROOM_NUDGE: a NUDGE write with bit 9 set. -/
  | reportRoomNudge
  /-- STRIKE: a write of the STRIKE register. -/
  | strike (value : BitVec 32)
  /-- ATTN: a write of the ATTN register. -/
  | attn (value : BitVec 32)
  /-- REGISTER_WRITE_IGNORED: a register write that R192 and R182 ignore. -/
  | registerWriteIgnored (offset value : BitVec 32)
  /-- GO_CONFIG_READ_COMPLETE. -/
  | goConfigReadComplete (answer : ReadAnswer)
  /-- ORDER_SLOT_READ_COMPLETE. -/
  | orderSlotReadComplete (answer : ReadAnswer)
  /-- UNKNOWN_ORDER_KIND: an accepted order whose kind byte is `kind`. -/
  | unknownOrderKind (edition : BitVec 32) (kind : Byte)
  /-- CONFIGURE. -/
  | configure (edition : BitVec 32)
  /-- CONFIGURE_READ_COMPLETE. -/
  | configureReadComplete (answer : ReadAnswer)
  /-- START: mask, start condition byte, and each channel's generator byte and start slot. -/
  | start (edition : BitVec 32) (mask condition : Byte) (generators : Vector Byte 8) (slots : Vector (BitVec 16) 8)
  /-- STOP: mask and mode byte. -/
  | stop (edition : BitVec 32) (mask mode : Byte)
  /-- SET_RATE: generator and action bytes, divisor. -/
  | setRate (edition : BitVec 32) (generator action : Byte) (divisor : BitVec 16)
  /-- SET_LEVELS: mask, apply flags, default gain, default offset, idle level. -/
  | setLevels (edition : BitVec 32) (mask flags : Byte) (gain offset idle : BitVec 16)
  /-- TRIGGER_SETUP: line, edge mode, qualifier and capture bytes, delay word. -/
  | triggerSetup (edition : BitVec 32) (line mode qualifier capture : Byte) (delay : BitVec 32)
  /-- MIRROR_SETUP: channel and source bytes, mirror gain and offset, marker copy byte. -/
  | mirrorSetup (edition : BitVec 32) (channel source : Byte) (gain offset : BitVec 16) (copy : Byte)
  /-- CLEAR_CONDITIONS: mask and engine flag byte. -/
  | clearConditions (edition : BitVec 32) (mask flag : Byte)
  /-- SNAPSHOT: the snapshot address. -/
  | snapshot (edition : BitVec 32) (address : BitVec 64)
  /-- SNAPSHOT_WRITE_COMPLETE. -/
  | snapshotWriteComplete (answer : WriteAnswer)
  /-- ORDER_RESULT_WRITE_COMPLETE. -/
  | orderResultWriteComplete (answer : WriteAnswer)
  /-- ORDER_HEAD_WRITE_COMPLETE. -/
  | orderHeadWriteComplete (answer : WriteAnswer)
  /-- STEP_SLOT_READ_COMPLETE. -/
  | stepSlotReadComplete (answer : ReadAnswer)
  /-- SEGMENT_ENTRY_READ_COMPLETE. -/
  | segmentEntryReadComplete (answer : ReadAnswer)
  /-- STREAM_REQUEST_COMPLETE. -/
  | streamRequestComplete (answer : ReadAnswer)
  /-- BANK_LOAD_COMPLETE. -/
  | bankLoadComplete (answer : ReadAnswer)
  /-- SLOT_RETIRE_WRITE_COMPLETE. -/
  | slotRetireWriteComplete (answer : WriteAnswer)
  /-- REPORT_RECORD_WRITE_COMPLETE. -/
  | reportRecordWriteComplete (answer : WriteAnswer)
  /-- REPORTS_WRITTEN_WRITE_COMPLETE. -/
  | reportsWrittenWriteComplete (answer : WriteAnswer)
  /-- STATUS_BLOCK_WRITE_COMPLETE. -/
  | statusBlockWriteComplete (answer : WriteAnswer)
  /-- ENGINE_CONDITIONS_WRITE_COMPLETE. -/
  | engineConditionsWriteComplete (answer : WriteAnswer)
  /-- REPORTS_TAKEN_READ_COMPLETE. -/
  | reportsTakenReadComplete (answer : ReadAnswer)
  /-- COMPLETION_AFTER_RESET: memory answers a transfer granted before a RESET. -/
  | completionAfterReset
  /-- EXPIRY of a rate generator. -/
  | expiry (generator : GenIx)
  /-- PASS_END of a channel's playing step. -/
  | passEnd (channel : Chan)
  /-- STEP_BOUNDARY of a channel's playing step. -/
  | stepBoundary (channel : Chan)
  /-- WAIT_TIMEOUT of a channel's waiting decision step. -/
  | waitTimeout (channel : Chan)
  /-- FRONTIER_POLL of a channel. -/
  | frontierPoll (channel : Chan)
  /-- MARKER_DELAY_ELAPSED of a marker one-shot. -/
  | markerDelayElapsed (channel : Chan) (marker : MarkIx)
  /-- MARKER_WIDTH_ELAPSED of a marker one-shot. -/
  | markerWidthElapsed (channel : Chan) (marker : MarkIx)
  /-- QUALIFIED_EDGE of a trigger line. -/
  | qualifiedEdge (line : LineIx)
  /-- TRIGGER_EVENT of a trigger line. -/
  | triggerEvent (line : LineIx)
  /-- TRIGGER_SAMPLE, with the four pins' present levels (bit k: line k high). -/
  | triggerSample (levels : BitVec 4)
  deriving DecidableEq, Repr

end Sys2Proof
end

