-- ==== Sys2Proof/Machine/Bytes.lean ====
section
/-! DEFINITION. How fields lie in bytes (R191): little-endian, two's-complement where signed. -/

namespace Sys2Proof.Machine

open Sys2Proof

/-- The byte at an offset. -/
def byteAt (b : List Byte) (i : Nat) : Nat := (b.getD i 0).toNat

/-- A 2-byte field (R191). -/
def le16 (b : List Byte) (i : Nat) : Nat := byteAt b i + 256 * byteAt b (i + 1)

/-- A 3-byte field (R191). -/
def le24 (b : List Byte) (i : Nat) : Nat := le16 b i + 65536 * byteAt b (i + 2)

/-- A 4-byte field (R191). -/
def le32 (b : List Byte) (i : Nat) : Nat := le16 b i + 65536 * le16 b (i + 2)

/-- An 8-byte field (R191). -/
def le64 (b : List Byte) (i : Nat) : Nat := le32 b i + 4294967296 * le32 b (i + 4)

/-- Bit `k` of a number. -/
def bitOf (v k : Nat) : Bool := v / 2 ^ k % 2 == 1

/-- A 16-bit field read as two's-complement (R191). -/
def signed16 (v : Nat) : Int := if v < 32768 then (v : Int) else (v : Int) - 65536

/-- A byte read as two's-complement (R191). -/
def signed8 (v : Nat) : Int := if v < 128 then (v : Int) else (v : Int) - 256

/-- A number as `n` bytes, least significant first (R191). -/
def toBytes : Nat → Nat → List Byte
  | 0, _ => []
  | n + 1, v => BitVec.ofNat 8 v :: toBytes n (v / 256)

/-- `n` unused bytes, written as zero (R191). -/
def zeros (n : Nat) : List Byte := List.replicate n 0

/-- A number held at the largest value of `n` bytes (R152, R172). -/
def heldBytes (n v : Nat) : List Byte := toBytes n (min v (256 ^ n - 1))

/-- A flag as a bit value. -/
def flagBit (b : Bool) (k : Nat) : Nat := if b then 2 ^ k else 0

/-- The mask of one channel. -/
def maskOf (c : Chan) : BitVec 8 := 1#8 <<< c.val

/-- Whether a channel mask has the channel (11.6). -/
def inMask (m : BitVec 8) (c : Chan) : Bool := m.getLsbD c.val

/-- A channel mask without one channel. -/
def maskDrop (m : BitVec 8) (c : Chan) : BitVec 8 := m &&& ~~~(maskOf c)

/-- The members of a mask in channel order. -/
def members (m : BitVec 8) : List Chan := allChans.filter (inMask m)

end Sys2Proof.Machine
end

