-- ==== Sys2Proof/Config.lean ====
section
/-! DEFINITION. The values the spec leaves open, as constants without a body: no proof can see what they are, so a
claim holds whatever they are. -/

namespace Sys2Proof

/-- FREE VALUE (log 10). The bus address of a transfer whose computed byte address is beyond 64 bits. The spec gives
bases as 64-bit byte addresses (R2, 11.3) and does not say what a sum beyond 64 bits names. -/
opaque Config.addressBeyond : Nat → BitVec 64

/-- FREE VALUE (log 4). Which of several events that fall in one reference period is taken next, by the free-value
counter of the state. R117, R118, R126 and R127 let either of two such events be taken first. -/
opaque Config.tickChoice : Nat → Nat

/-- FREE VALUE (log 29). What a read of the register port returns at a byte offset that is none of the six registers: 11.10
names six offsets, and no rule says what is read elsewhere. -/
opaque Config.unassignedRead : Nat → BitVec 32

/-- FREE VALUE (log 5). How many reference periods of the current group of eight have passed when a GO completes: R120
makes a trigger sample at every eighth period while ONLINE and does not say where the first one falls. -/
opaque Config.samplePhase : Nat → Fin 8

end Sys2Proof
end

