-- ==== Sys2Proof/Machine/State.lean ====
section
/-! DEFINITION. The state of the block, as plain data: what each of the nine blocks owns (00_scope.md), the queue of waiting
commands, and the few fields the model adds (named as such). -/

namespace Sys2Proof.Machine

open Sys2Proof

/-! ## Stops -/

/-- The faults of a step. No command of this block ends in one: what the spec calls a fault or a halt is a state of
the block (R89, R187). -/
inductive Fault where
  deriving DecidableEq, Repr

/-- The refusals of a step. -/
inductive Refusal where
  /-- Raised by an arm of `exec` for a command that has no meaning yet; safe. No arm raises it. -/
  | notModelled (mnemonic : String)
  deriving DecidableEq, Repr

/-! ## Engine Control (R180) -/

/-- The engine states (R180). -/
inductive EngineState where
  | dormant | online | halted
  deriving DecidableEq, Repr

/-- Why the engine last entered HALTED (R180). -/
inductive HaltCause where
  | none | hostHalt | configInvalid | pageReadError | writeError
  deriving DecidableEq, Repr

/-- The requester a WRITE_ERROR halt names (R162). -/
inductive Requester where
  | report | statusBlock | slotRetire | orderResult | snapshot
  deriving DecidableEq, Repr

/-- What the halt cause concerns (R180, R182). -/
inductive HaltDetail where
  | none
  | field (offset : Nat) (channel : Option Chan)
  | configuration
  | taken
  | requester (r : Requester)
  deriving DecidableEq, Repr

/-- A channel's settings: of a Configuration Record as read, or in force (11.3, R46, R49). -/
structure ChannelSettings where
  listBase : Nat
  listSize : Nat
  allotment : Nat
  bankSize : Nat
  lowWater : Nat
  startLevel : Nat
  frontierPoll : Nat
  deriving DecidableEq, Repr

/-- The configuration in force (R180, R185). -/
structure EngineConfig where
  segBase : Nat
  segCount : Nat
  notice : BitVec 12
  ringBase : Nat
  ringCap : Nat
  chan : Vector ChannelSettings 8
  deriving DecidableEq, Repr

/-- Engine Control's state (R180). `goBase` is the page base of the GO in progress (R183). -/
structure EngineControl where
  state : EngineState
  starting : Bool
  cause : HaltCause
  detail : HaltDetail
  page : BitVec 32
  goBase : Option Nat
  pageBase : Option Nat
  config : Option EngineConfig
  nudgeChannels : BitVec 8
  nudgeOrders : Bool
  nudgeRoom : Bool
  deriving DecidableEq, Repr

/-! ## Orders (R132, R136) -/

/-- An order: its kind with the parameters its slot's body holds (11.6). -/
inductive Order where
  | configure
  | start (mask condition : Byte) (generators : Vector Byte 8) (slots : Vector (BitVec 16) 8)
  | stop (mask mode : Byte)
  | setRate (generator action : Byte) (divisor : BitVec 16)
  | setLevels (mask flags : Byte) (gain offset idle : BitVec 16)
  | triggerSetup (line mode qualifier capture : Byte) (delay : BitVec 32)
  | mirrorSetup (channel source : Byte) (gain offset : BitVec 16) (copy : Byte)
  | clearConditions (mask flag : Byte)
  | snapshot (address : BitVec 64)
  | unknown (kind : Byte)
  deriving DecidableEq, Repr

/-- The order in hand: the copy of the accepted slot (R132, R134). -/
structure OrderInHand where
  order : Order
  edition : BitVec 32
  deriving DecidableEq, Repr

/-- The results of an order (R136). -/
inductive ResultCode where
  | ok | busy | invalid | mode | rateMismatch | noPool | memoryError
  deriving DecidableEq, Repr

/-- The result in hand: code, detail channel and detail field (R136). -/
structure OrderResult where
  code : ResultCode
  channel : Option Chan
  field : Option Nat
  deriving DecidableEq, Repr

/-- The Order Unit's states (R132). -/
inductive OrderState where
  | standby | reading | executing | closing
  deriving DecidableEq, Repr

/-- The Order Unit (R132). -/
structure OrderUnit where
  state : OrderState
  next : Fin 16
  recheck : Bool
  inHand : Option OrderInHand
  result : Option OrderResult
  deriving DecidableEq, Repr

/-! ## Steps (chapters 1 and 2) -/

/-- How a segment's samples are stored (R3). -/
inductive SampleFormat where
  | s16 | s8
  deriving DecidableEq, Repr

/-- A segment entry as read (R2); `format` is none for an undefined code. -/
structure SegEntry where
  base : Nat
  length : Nat
  format : Option SampleFormat
  valid : Bool
  deriving DecidableEq, Repr

/-- What a step waits for before its first sample (R8). -/
inductive StepEntry where
  | immediate
  | trigger (line : LineIx)
  | leader
  deriving DecidableEq, Repr

/-- What ends an open repeat (R11). -/
inductive Advance where
  | trigger (line : LineIx)
  | leader
  deriving DecidableEq, Repr

/-- Where a step goes next (R12). -/
inductive NextKind where
  | next | jump | endStep
  deriving DecidableEq, Repr

/-- What drives a marker (R17). -/
inductive MarkerMode where
  | off | pulse | eachPass | gate | endOfPlay
  deriving DecidableEq, Repr

/-- A step's settings for one marker (R17); `mode` is none for an undefined code. -/
structure MarkerSetting where
  mode : Option MarkerMode
  inverted : Bool
  delay : Nat
  width : Nat
  deriving DecidableEq, Repr

/-- The body of a step slot as read (11.5). An undefined code is none (R20, check 7). -/
structure StepBody where
  segment : Nat
  hold : Nat
  windowStart : Nat
  windowLength : Nat
  rep : Nat
  passes : Nat
  waitTimeout : Nat
  branchTarget : Nat
  jumpTarget : Nat
  gain : Int
  offset : Int
  entry : Option StepEntry
  advance : Option Advance
  nextKind : Option NextKind
  waitIdle : Bool
  exitCut : Bool
  consume : Bool
  levelsPresent : Bool
  reportStart : Bool
  reportEnd : Bool
  markers : Vector MarkerSetting 2
  deriving DecidableEq, Repr

/-- The sub-codes of the step validity table (R20). -/
inductive SubCode where
  | memoryError | segmentRange | segmentVoid | segmentEmpty | segmentAlign | windowRange | field
  | targetRange | openStreamed | leaderAlone | loopDepth
  deriving DecidableEq, Repr

/-- The names of a channel's loop banks (R50). -/
inductive BankId where
  | a | b
  deriving DecidableEq, Repr

/-- A step context (R24). `occ` is the model's number of the occurrence (R50). -/
structure StepContext where
  occ : Nat
  slot : Nat
  edition : BitVec 32
  kind : Byte
  body : StepBody
  seg : SegEntry
  wEff : Nat
  hold : Nat
  resident : Bool
  bank : Option BankId
  successor : Option Nat
  decision : Bool
  deriving DecidableEq, Repr

/-- An entry of the step window (R24). -/
inductive WindowEntry where
  | step (ctx : StepContext)
  | invalid (occ : Nat) (slot : Nat) (sub : SubCode)
  deriving DecidableEq, Repr

/-- The reader states (R26). -/
inductive ReaderState where
  | off | slotRead | entryRead | bankWait | windowFull | decisionPause | atFrontier | listEnd | blocked
  deriving DecidableEq, Repr

/-- Where the data cursor stands (R32): on a step with its pass and offset, or on an invalid marker. It keeps the
step's own copy, since a streamed step's samples are asked for after the step retired (R54, R59). -/
inductive DataCursor where
  | step (ctx : StepContext) (pass offset : Nat)
  | invalid (occ : Nat)
  deriving DecidableEq, Repr

/-- The accepted slot whose segment entry is being read (R27). -/
structure AcceptedSlot where
  edition : BitVec 32
  kind : Byte
  body : StepBody
  deriving DecidableEq, Repr

/-- One channel's fetch context (R22). `accepted` and `nextOcc` are the model's (log 13), and so is `owed`: the streamed steps that
retired before the data cursor reached them, in window order, whose samples the cursor has still to go through (log 40). -/
structure Fetch where
  reader : ReaderState
  cursor : Nat
  data : Option DataCursor
  window : List WindowEntry
  held : Option StepContext
  map : List (Nat × Nat)
  epoch : BitVec 8
  frontier : Bool
  nudge : Bool
  poll : Nat
  accepted : Option AcceptedSlot
  nextOcc : Nat
  owed : List StepContext
  deriving DecidableEq, Repr

/-! ## Sample Pool (R50) -/

/-- A loop bank (R56). The loaded count is the number of samples. -/
inductive Bank where
  | free
  | loading (occ : Nat) (samples : List Int)
  | held (occ : Nat) (samples : List Int)
  deriving DecidableEq, Repr

/-- One channel's share of the pool (R50). The fill is the queue's length. -/
structure Pool where
  queue : List Int
  reserve : Nat
  deficit : Nat
  bankA : Bank
  bankB : Bank
  deriving DecidableEq, Repr

/-! ## Playout (R64) -/

/-- The channel states (R65). -/
inductive ChannelState where
  | idle | armed | running | waiting | frontier | faulted | mirroring
  deriving DecidableEq, Repr

/-- Why a WAITING channel waits (R64). -/
inductive WaitReason where
  | none
  | trigger (line : LineIx)
  | leader
  | data (late : Bool)
  deriving DecidableEq, Repr

/-- A stop accepted and not yet completed (R64). -/
inductive PendingStop where
  | none | drain | stepEnd
  deriving DecidableEq, Repr

/-- Stop reasons (R64). -/
inductive StopReason where
  | none | cut | stepEnd | drain | endStep | leaderGone | halt
  deriving DecidableEq, Repr

/-- Fault causes (R64). -/
inductive FaultCause where
  | none
  | stepInvalid (sub : SubCode)
  | memoryError
  deriving DecidableEq, Repr

/-- Start conditions (R139). -/
inductive StartCondition where
  | immediate
  | trigger (line : LineIx)
  deriving DecidableEq, Repr

/-- A group membership (R142). -/
structure Membership where
  mask : BitVec 8
  leader : Chan
  condition : StartCondition
  generator : GenIx
  latch : Bool
  launched : Bool
  leaderLost : Bool
  deriving DecidableEq, Repr

/-- One channel's playout (R64) with its attached generator (R114). `startSlot`, `lastRetired`, `episodeSlot` and
`takeMissed` are the model's (log 13). -/
structure Play where
  state : ChannelState
  wait : WaitReason
  pendingStop : PendingStop
  offset : Nat
  holdCount : Nat
  pass : Nat
  advanceSeen : Bool
  stepExpiries : Nat
  heldRaw : Int
  waitCount : Nat
  episode : Nat
  sampleCount : Nat
  group : Option Membership
  lastStop : StopReason
  faultCause : FaultCause
  retired : Nat
  samplesHeld : Nat
  generator : GenIx
  startSlot : Nat
  lastRetired : Option Nat
  episodeSlot : Nat
  takeMissed : Bool
  deriving DecidableEq, Repr

/-! ## Level and Marker Unit (R97) -/

/-- Marker one-shot phases (R108). -/
inductive Phase where
  | quiet | delaying | pulsing
  deriving DecidableEq, Repr

/-- A marker one-shot (R108); `line` is the level of the marker pin (true: high). -/
structure OneShot where
  mode : MarkerMode
  delay : Nat
  width : Nat
  inverted : Bool
  phase : Phase
  delayCount : Nat
  widthCount : Nat
  latch : Bool
  line : Bool
  deriving DecidableEq, Repr

/-- One channel's Level and Marker Unit (R97). `expiryCode` (log 12) and `idleDue` (log 11: the lane turns to the idle level at
the next expiry of the channel's generator, a mirror's at its source's) are the model's. -/
structure Levels where
  defGain : Int
  defOffset : Int
  idle : Int
  gain : Int
  offset : Int
  lane : Int
  stepClips : Nat
  clipped : Nat
  mirror : Option Chan
  mirrorGain : Int
  mirrorOffset : Int
  markerCopy : Bool
  markers : Vector OneShot 2
  expiryCode : Int
  idleDue : Bool
  deriving DecidableEq, Repr

/-- All that is per channel, with the two condition sets the Report Unit holds for it (R174). -/
structure Channel where
  fetch : Fetch
  pool : Pool
  play : Play
  level : Levels
  perRecord : BitVec 9
  accumulated : BitVec 9
  deriving DecidableEq, Repr

/-! ## Rate Unit and Trigger Unit (R114, R121) -/

/-- A rate generator (R114); the countdown is 0 while STOPPED. -/
structure Gen where
  running : Bool
  divisor : Nat
  pending : Option Nat
  countdown : Nat
  deriving DecidableEq, Repr

/-- Edge modes (R121). -/
inductive EdgeMode where
  | rising | falling | both
  deriving DecidableEq, Repr

/-- A trigger line (R121); levels are true for high. -/
structure TrigLine where
  mode : EdgeMode
  qualifier : Nat
  delay : Nat
  capture : Bool
  delaying : Bool
  registered : Bool
  stable : Bool
  agreement : Nat
  delayCount : Nat
  edgeTime : Nat
  delayApplied : Nat
  ignored : Nat
  deriving DecidableEq, Repr

/-- The Trigger Unit (R120, R121). `firstDue` is the model's: the first trigger sample after GO is still to come. -/
structure TrigUnit where
  lines : Vector TrigLine 4
  refTime : Nat
  firstDue : Bool
  deriving DecidableEq, Repr

/-! ## Report Unit (R164) -/

/-- The record kinds (R173). -/
inductive RecordKind where
  | stepStart | stepEnd | triggerCapture | starved | frontier | frontierLeft | waitTimeout | earlyTrigger
  | launch | channelStopped | channelFault | orderReadError
  deriving DecidableEq, Repr

/-- Who raised a record (R172). -/
inductive Source where
  | channel (c : Chan)
  | line (k : LineIx)
  | engine
  deriving DecidableEq, Repr

/-- A report record as raised (R172). Sequence and Dropped are given at placement (R166). -/
structure Record where
  kind : RecordKind
  source : Source
  slot : Nat
  conditions : BitVec 9
  time : Nat
  detailA : Nat
  detailB : Nat
  deriving DecidableEq, Repr

/-- A record waiting in the report queue with the losses it carries (R169). -/
structure QueuedRecord where
  record : Record
  losses : Nat
  deriving DecidableEq, Repr

/-- The Taken read (R164); `stale` is one outstanding from before the last GO (R179). -/
inductive TakenRead where
  | none | outstanding | stale
  deriving DecidableEq, Repr

/-- The Report Unit (R164). `overrun` is RING_OVERRUN in the engine conditions. -/
structure ReportUnit where
  writePos : Nat
  written : Nat
  seq : Nat
  copy : Nat
  newestDropped : Nat
  losses : Nat
  queue : List QueuedRecord
  taken : TakenRead
  overrun : Bool
  attention : Bool
  deriving DecidableEq, Repr

/-! ## Memory Port (R154, R155) -/

/-- The transfers of R155 with the tags their requester gave them. A record's write carries the record's kind and
whether it overwrites the newest slot; a Reports Written write carries the kind of the record it counts (R178). -/
inductive Transfer where
  | reportRecord (kind : RecordKind) (overwrite : Bool)
  | reportsWritten (counted : Option RecordKind)
  | statusBlock (c : Chan)
  | engineConditions
  | slotRetire (c : Chan)
  | orderResult
  | orderHead
  | streamRequest (c : Chan) (epoch : BitVec 8) (n : Nat) (format : SampleFormat)
  | bankLoad (c : Chan) (epoch : BitVec 8) (occ offset n : Nat) (format : SampleFormat)
  | stepSlotRead (c : Chan) (epoch : BitVec 8) (reread : Bool)
  | segmentEntryRead (c : Chan) (epoch : BitVec 8)
  | orderSlotRead
  | configReadGo
  | configReadOrder
  | reportsTakenRead
  | snapshotWrite
  deriving DecidableEq, Repr

/-- A request (R154): what it is for, its byte address, its size in bytes, and for a write its data. -/
structure Request where
  kind : Transfer
  addr : Nat
  size : Nat
  data : List Byte
  deriving DecidableEq, Repr

/-- The Memory Port (R154, R158): BUSY or IDLE, the transfer in flight while BUSY (none while the completion just made is
being handled, R156), the waiting requests in order of raising; `discard` marks a transfer granted before a RESET (R160). -/
structure Port where
  busy : Bool
  inFlight : Option Request
  discard : Bool
  waiting : List Request
  rr2 : Chan
  rr3 : Chan
  rr4 : Chan
  deriving DecidableEq, Repr

/-! ## The state -/

/-- The whole block. `pins` are the trigger pins' present levels (log 19), `refPhase` the reference periods since the
last trigger sample (log 5), `freeCount` the counter of free values (log 4), `pending` the queue of commands. -/
structure State where
  engine : EngineControl
  orders : OrderUnit
  chans : Vector Channel 8
  port : Port
  gens : Vector Gen 4
  trig : TrigUnit
  report : ReportUnit
  pins : BitVec 4
  refPhase : Nat
  freeCount : Nat
  pending : List Instr
  deriving DecidableEq, Repr

/-! ## The values after power-on -/

/-- Engine Control after power-on (R189). -/
def EngineControl.reset : EngineControl where
  state := .dormant
  starting := false
  cause := .none
  detail := .none
  page := 0
  goBase := none
  pageBase := none
  config := none
  nudgeChannels := 0
  nudgeOrders := false
  nudgeRoom := false

/-- The Order Unit after power-on (R153). -/
def OrderUnit.reset : OrderUnit where
  state := .standby
  next := 0
  recheck := false
  inHand := none
  result := none

/-- A fetch context after power-on (R45). -/
def Fetch.reset : Fetch where
  reader := .off
  cursor := 0
  data := none
  window := []
  held := none
  map := []
  epoch := 0
  frontier := false
  nudge := false
  poll := 0
  accepted := none
  nextOcc := 0
  owed := []

/-- A pool share after power-on (R63). -/
def Pool.reset : Pool where
  queue := []
  reserve := 0
  deficit := 0
  bankA := .free
  bankB := .free

/-- A playout after power-on (R96, R119). -/
def Play.reset : Play where
  state := .idle
  wait := .none
  pendingStop := .none
  offset := 0
  holdCount := 0
  pass := 1
  advanceSeen := false
  stepExpiries := 0
  heldRaw := 0
  waitCount := 0
  episode := 0
  sampleCount := 0
  group := none
  lastStop := .none
  faultCause := .none
  retired := 0
  samplesHeld := 0
  generator := 0
  startSlot := 0
  lastRetired := none
  episodeSlot := 0
  takeMissed := false

/-- A marker one-shot after power-on (R113). -/
def OneShot.reset : OneShot where
  mode := .off
  delay := 0
  width := 0
  inverted := false
  phase := .quiet
  delayCount := 0
  widthCount := 0
  latch := false
  line := false

/-- A Level and Marker Unit after power-on (R113). -/
def Levels.reset : Levels where
  defGain := 16384
  defOffset := 0
  idle := 0
  gain := 16384
  offset := 0
  lane := 0
  stepClips := 0
  clipped := 0
  mirror := none
  mirrorGain := 16384
  mirrorOffset := 0
  markerCopy := false
  markers := #v[OneShot.reset, OneShot.reset]
  expiryCode := 0
  idleDue := false

/-- A channel after power-on. -/
def Channel.reset : Channel where
  fetch := Fetch.reset
  pool := Pool.reset
  play := Play.reset
  level := Levels.reset
  perRecord := 0
  accumulated := 0

/-- A rate generator after power-on (R119). -/
def Gen.reset : Gen where
  running := false
  divisor := 200
  pending := none
  countdown := 0

/-- A trigger line after power-on (R130). -/
def TrigLine.reset : TrigLine where
  mode := .rising
  qualifier := 2
  delay := 0
  capture := false
  delaying := false
  registered := false
  stable := false
  agreement := 0
  delayCount := 0
  edgeTime := 0
  delayApplied := 0
  ignored := 0

/-- The Trigger Unit after power-on (R130). -/
def TrigUnit.reset : TrigUnit where
  lines := vec4 (fun _ => TrigLine.reset)
  refTime := 0
  firstDue := false

/-- The Report Unit after power-on (R179). -/
def ReportUnit.reset : ReportUnit where
  writePos := 0
  written := 0
  seq := 1
  copy := 0
  newestDropped := 0
  losses := 0
  queue := []
  taken := .none
  overrun := false
  attention := false

/-- The Memory Port after power-on (R163). -/
def Port.reset : Port where
  busy := false
  inFlight := none
  discard := false
  waiting := []
  rr2 := 0
  rr3 := 0
  rr4 := 0

/-- The block after power-on (R189), with an empty queue. -/
def State.reset : State where
  engine := EngineControl.reset
  orders := OrderUnit.reset
  chans := vec8 (fun _ => Channel.reset)
  port := Port.reset
  gens := vec4 (fun _ => Gen.reset)
  trig := TrigUnit.reset
  report := ReportUnit.reset
  pins := 0
  refPhase := 0
  freeCount := 0
  pending := []

end Sys2Proof.Machine
end

