-- ==== Sys2Proof/Machine/Flags.lean ====
section
/-! DEFINITION. The level computation with its clip (R98, R99), the conditions as bits (11.7), and the levels of marker
lines (R108). -/

namespace Sys2Proof.Machine

open Sys2Proof

/-! ## The level computation (R98) -/

/-- V = floor((s * G + 8192) / 16384) (R98, steps 2 and 3): Lean's integer division by a positive number is the floor. -/
def scaleSample (s g : Int) : Int := (s * g + 8192) / 16384

/-- Y = V + O (R98, step 4). -/
def levelSum (s g o : Int) : Int := scaleSample s g + o

/-- Saturation to the code range (R98, step 5). -/
def saturate (y : Int) : Int := max (-32768) (min 32767 y)

/-- The output code of a raw sample under a gain and an offset (R98). -/
def levelCode (s g o : Int) : Int := saturate (levelSum s g o)

/-- The computation clips: Y lies outside the code range (R99). -/
def levelClips (s g o : Int) : Bool := decide (levelSum s g o < -32768) || decide (32767 < levelSum s g o)

/-! ## Conditions (R174, 11.7) -/

/-- The conditions of a channel (R174). -/
inductive Condition where
  | starved | clipped | frontier | earlyTrigger | timeout | stepInvalid | memoryError | leaderGone | edgeIgnored
  deriving DecidableEq, Repr

/-- A condition's bit (11.7). -/
def Condition.bit : Condition → BitVec 9
  | .starved => 0x001
  | .clipped => 0x002
  | .frontier => 0x004
  | .earlyTrigger => 0x008
  | .timeout => 0x010
  | .stepInvalid => 0x020
  | .memoryError => 0x040
  | .leaderGone => 0x080
  | .edgeIgnored => 0x100

/-! ## Marker lines (R108, R110) -/

/-- A marker is active at an expiry or moment (R108); `running` says that the moment is a RUNNING expiry. -/
def OneShot.active (running : Bool) (m : OneShot) : Bool :=
  decide (m.phase = .pulsing) || (decide (m.mode = .gate) && running) || m.latch

/-- The level of the line: active is high under NORMAL and low under INVERTED (R108). -/
def OneShot.level (running : Bool) (m : OneShot) : Bool := m.active running != m.inverted

/-- Presents the line's level (R112). -/
def OneShot.present (running : Bool) (m : OneShot) : OneShot := { m with line := m.level running }

/-- A one-shot start (R109). -/
def OneShot.start (m : OneShot) : OneShot :=
  if m.width = 0 then { m with phase := .quiet }
  else if m.delay = 0 then { m with phase := .pulsing, widthCount := m.width }
  else { m with phase := .delaying, delayCount := m.delay }

/-- The delay count has reached 0: the one-shot becomes PULSING with width count Width (R109). -/
def OneShot.delayElapsed (m : OneShot) : OneShot := { m with phase := .pulsing, widthCount := m.width }

/-- The width count has reached 0: the one-shot becomes QUIET (R109). -/
def OneShot.widthElapsed (m : OneShot) : OneShot := { m with phase := .quiet }

/-- The count after the evaluation at a RUNNING expiry (R109). -/
def OneShot.count (m : OneShot) : OneShot :=
  match m.phase with
  | .quiet => m
  | .delaying =>
    let m' := { m with delayCount := m.delayCount - 1 }
    if m'.delayCount = 0 then m'.delayElapsed else m'
  | .pulsing =>
    let m' := { m with widthCount := m.widthCount - 1 }
    if m'.widthCount = 0 then m'.widthElapsed else m'

/-- Ends a pulse: the phase becomes QUIET (R108, R109, R112). -/
def OneShot.quiet (m : OneShot) : OneShot := { m with phase := .quiet }

/-- A step's settings for the marker are taken in at its start, ending any pulse (R108), and a one-shot start is made
for PULSE and EACH_PASS (R109). An undefined mode never stands in a step context (R20, check 7). -/
def OneShot.takeSetting (m : OneShot) (t : MarkerSetting) : OneShot :=
  let m' := { m with mode := t.mode.getD .off, delay := t.delay, width := t.width, inverted := t.inverted, phase := .quiet }
  if m'.mode = .pulse ∨ m'.mode = .eachPass then m'.start else m'

/-- The start of a later pass: a one-shot start for EACH_PASS (R109). -/
def OneShot.passStart (m : OneShot) : OneShot := if m.mode = .eachPass then m.start else m

/-- The end-of-play latch is set when the mode in force is END_OF_PLAY (R111). -/
def OneShot.endOfPlay (m : OneShot) : OneShot := if m.mode = .endOfPlay then { m with latch := true } else m

/-- Both markers of a lane, changed alike. -/
def bothMarkers (f : OneShot → OneShot) (v : Vector OneShot 2) : Vector OneShot 2 := #v[f v[0], f v[1]]

end Sys2Proof.Machine
end

