-- ==== Sys2Proof/Machine/Operands.lean ====
section
/-! DEFINITION. What the structures the engine reads say: slots, step bodies, order bodies, segment entries and the
Configuration Record, at the positions of chapter 11; and the checks and clamps of the Configuration Record. -/

namespace Sys2Proof.Machine

open Sys2Proof

/-! ## Slots (11.4) -/

/-- The head and tail of a slot as read. -/
structure SlotBracket where
  state : Byte
  kind : Byte
  headEdition : BitVec 32
  tailEdition : BitVec 32
  deriving DecidableEq, Repr

/-- The bracket of a 64-byte slot (11.4). -/
def slotBracket (b : List Byte) : SlotBracket where
  state := b.getD 0 0
  kind := b.getD 1 0
  headEdition := BitVec.ofNat 32 (le32 b 0x04)
  tailEdition := BitVec.ofNat 32 (le32 b 0x38)

/-- A slot is accepted when its head is POSTED under the tail's edition (R23, R131). -/
def SlotBracket.accepted (s : SlotBracket) : Bool := s.state == 1 && s.headEdition == s.tailEdition

/-! ## Step bodies (11.5) -/

/-- The Entry byte (11.5). -/
def entryOfByte (v : Nat) : Option StepEntry :=
  match v % 8 with
  | 0 => some .immediate
  | 1 => some (.trigger (Fin.ofNat 4 (v / 16)))
  | 2 => some .leader
  | _ => none

/-- The Advance byte (11.5). -/
def advanceOfByte (v : Nat) : Option Advance :=
  match v % 8 with
  | 1 => some (.trigger (Fin.ofNat 4 (v / 16)))
  | 2 => some .leader
  | _ => none

/-- The Next byte (11.5). -/
def nextOfByte (v : Nat) : Option NextKind :=
  match v % 4 with
  | 0 => some .next
  | 1 => some .jump
  | 2 => some .endStep
  | _ => none

/-- A marker's Mode code (11.5). -/
def markerModeOfCode (v : Nat) : Option MarkerMode :=
  match v with
  | 0 => some .off
  | 1 => some .pulse
  | 2 => some .eachPass
  | 3 => some .gate
  | 4 => some .endOfPlay
  | _ => none

/-- A marker's eight bytes (11.5). -/
def markerSettingAt (b : List Byte) (i : Nat) : MarkerSetting where
  mode := markerModeOfCode (byteAt b i % 8)
  inverted := bitOf (byteAt b i) 7
  delay := le24 b (i + 1)
  width := le24 b (i + 4)

/-- The body of a step slot, offsets from the start of the slot (11.5). -/
def stepBodyOf (b : List Byte) : StepBody where
  segment := le16 b 0x08
  hold := le16 b 0x0A
  windowStart := le32 b 0x0C
  windowLength := le32 b 0x10
  rep := le16 b 0x14
  passes := le16 b 0x16
  waitTimeout := le32 b 0x18
  branchTarget := le16 b 0x1C
  jumpTarget := le16 b 0x1E
  gain := signed16 (le16 b 0x20)
  offset := signed16 (le16 b 0x22)
  entry := entryOfByte (byteAt b 0x24)
  advance := advanceOfByte (byteAt b 0x25)
  nextKind := nextOfByte (byteAt b 0x26)
  waitIdle := bitOf (byteAt b 0x27) 0
  exitCut := bitOf (byteAt b 0x27) 1
  consume := bitOf (byteAt b 0x27) 2
  levelsPresent := bitOf (byteAt b 0x27) 3
  reportStart := bitOf (byteAt b 0x27) 4
  reportEnd := bitOf (byteAt b 0x27) 5
  markers := #v[markerSettingAt b 0x28, markerSettingAt b 0x30]

/-- A segment entry (11.7, R2): Length in the low 28 bits, Valid in bit 0. -/
def segEntryOf (b : List Byte) : SegEntry where
  base := le64 b 0x00
  length := le32 b 0x08 % 268435456
  format := match byteAt b 0x0C with
    | 0 => some .s16
    | 1 => some .s8
    | _ => none
  valid := bitOf (byteAt b 0x0D) 0

/-! ## Orders (11.6) -/

/-- A byte of a slot. -/
def slotByte (b : List Byte) (i : Nat) : Byte := b.getD i 0

/-- A 2-byte field of a slot as bits. -/
def slotWord16 (b : List Byte) (i : Nat) : BitVec 16 := BitVec.ofNat 16 (le16 b i)

/-- The order an accepted order slot holds (11.6). -/
def orderOf (b : List Byte) : Order :=
  match byteAt b 0x01 with
  | 1 => .configure
  | 2 => .start (slotByte b 0x10) (slotByte b 0x11) (vec8 fun c => slotByte b (0x18 + c.val))
      (vec8 fun c => slotWord16 b (0x20 + 2 * c.val))
  | 3 => .stop (slotByte b 0x10) (slotByte b 0x11)
  | 4 => .setRate (slotByte b 0x10) (slotByte b 0x11) (slotWord16 b 0x12)
  | 5 => .setLevels (slotByte b 0x10) (slotByte b 0x11) (slotWord16 b 0x12) (slotWord16 b 0x14) (slotWord16 b 0x16)
  | 6 => .triggerSetup (slotByte b 0x10) (slotByte b 0x11) (slotByte b 0x12) (slotByte b 0x13)
      (BitVec.ofNat 32 (le32 b 0x14))
  | 7 => .mirrorSetup (slotByte b 0x10) (slotByte b 0x11) (slotWord16 b 0x12) (slotWord16 b 0x14) (slotByte b 0x16)
  | 8 => .clearConditions (slotByte b 0x10) (slotByte b 0x11)
  | 9 => .snapshot (BitVec.ofNat 64 (le64 b 0x10))
  | _ => .unknown (slotByte b 0x01)

/-- The kind byte of an order (11.6). -/
def Order.kindByte : Order → Byte
  | .configure => 1
  | .start _ _ _ _ => 2
  | .stop _ _ => 3
  | .setRate _ _ _ => 4
  | .setLevels _ _ _ _ _ => 5
  | .triggerSetup _ _ _ _ _ => 6
  | .mirrorSetup _ _ _ _ _ => 7
  | .clearConditions _ _ => 8
  | .snapshot _ => 9
  | .unknown kind => kind

/-! ## The Configuration Record (11.3) -/

/-- A Configuration Record as read. -/
structure ConfigRecord where
  format : Nat
  segBase : Nat
  segCount : Nat
  notice : BitVec 12
  ringBase : Nat
  ringCap : Nat
  chan : Vector ChannelSettings 8
  deriving DecidableEq, Repr

/-- The offset of a channel's settings in the record (11.3). -/
def settingsOffset (c : Chan) : Nat := 0x40 + 24 * c.val

/-- A channel's settings as read (11.3). -/
def settingsAt (b : List Byte) (c : Chan) : ChannelSettings where
  listBase := le64 b (settingsOffset c)
  listSize := le32 b (settingsOffset c + 8)
  allotment := le32 b (settingsOffset c + 12)
  bankSize := le16 b (settingsOffset c + 16)
  lowWater := le16 b (settingsOffset c + 18)
  startLevel := le16 b (settingsOffset c + 20)
  frontierPoll := le16 b (settingsOffset c + 22)

/-- The Configuration Record (11.3). -/
def configRecordOf (b : List Byte) : ConfigRecord where
  format := le32 b 0x00
  segBase := le64 b 0x08
  segCount := le32 b 0x10
  notice := BitVec.ofNat 12 (le32 b 0x14)
  ringBase := le64 b 0x18
  ringCap := le32 b 0x20
  chan := vec8 (settingsAt b)

/-- The record selects the default division (R47): all eight allotments are 0. -/
def ConfigRecord.isDefault (r : ConfigRecord) : Bool := allChans.all fun c => r.chan[c].allotment == 0

/-- A channel's allotment after the default division (R47, R184). -/
def ConfigRecord.allotmentOf (r : ConfigRecord) (c : Chan) : Nat :=
  if r.isDefault then 8192 else r.chan[c].allotment

/-- One check of the record: whether it refuses, the field and the channel it names. -/
structure RecordCheck where
  refused : Bool
  field : Nat
  channel : Option Chan
  deriving DecidableEq, Repr

/-- The pool checks 1 to 3 of one channel (R48). -/
def poolChecks (s : ChannelSettings) (c : Chan) : List RecordCheck :=
  [ ⟨s.allotment % 256 != 0, settingsOffset c + 12, some c⟩,
    ⟨decide (0 < s.allotment) && (s.bankSize % 256 != 0 || decide (8192 < s.bankSize)), settingsOffset c + 16, some c⟩,
    ⟨decide (0 < s.allotment) && decide (s.allotment < 2 * s.bankSize + 256), settingsOffset c + 16, some c⟩ ]

/-- The sum of the allotments of channels 0 to `c` (R48, check 4). -/
def ConfigRecord.runningSum (r : ConfigRecord) (c : Chan) : Nat :=
  ((allChans.filter fun d => d.val ≤ c.val).map fun d => r.chan[d].allotment).sum

/-- Check 4 of R48 at one channel: the running sum exceeds the pool. -/
def sumCheck (r : ConfigRecord) (c : Chan) : RecordCheck :=
  ⟨decide (65536 < r.runningSum c), settingsOffset c + 12, some c⟩

/-- A number is a power of two from 16 to 1024 (R4). -/
def listSizeOk (n : Nat) : Bool := [16, 32, 64, 128, 256, 512, 1024].contains n

/-- Checks 7 and 8 of R184 for one channel. -/
def listChecks (r : ConfigRecord) (c : Chan) : List RecordCheck :=
  [ ⟨decide (0 < r.allotmentOf c) && !listSizeOk r.chan[c].listSize, settingsOffset c + 8, some c⟩,
    ⟨decide (0 < r.allotmentOf c) && r.chan[c].listBase % 64 != 0, settingsOffset c, some c⟩ ]

/-- All checks of R184 in their order, the pool checks of R48 in their place. -/
def recordChecks (r : ConfigRecord) : List RecordCheck :=
  [ ⟨r.format != 1, 0x00, none⟩,
    ⟨r.segCount == 0 || decide (4096 < r.segCount), 0x10, none⟩,
    ⟨r.segBase % 16 != 0, 0x08, none⟩,
    ⟨decide (r.ringCap < 64) || decide (65536 < r.ringCap) || r.ringCap % 64 != 0, 0x20, none⟩,
    ⟨r.ringBase % 32 != 0, 0x18, none⟩ ]
  ++ (if r.isDefault then [] else
        (allChans.flatMap fun c => poolChecks r.chan[c] c) ++ allChans.map (sumCheck r))
  ++ allChans.flatMap (listChecks r)

/-- The first check that refuses the record, if any (R184). -/
def firstRefusal (r : ConfigRecord) : Option RecordCheck := (recordChecks r).find? (·.refused)

/-- Stream capacity C = A - 2L (R46, 3.1). -/
def ChannelSettings.capacity (s : ChannelSettings) : Nat := s.allotment - 2 * s.bankSize

/-- A channel's settings as taken into force (R46, R47, R49). -/
def settingsInForce (dflt : Bool) (s : ChannelSettings) : ChannelSettings :=
  if dflt then
    { s with allotment := 8192, bankSize := 2048, lowWater := 1024, startLevel := 512 }
  else if s.allotment = 0 then
    { s with bankSize := 0, lowWater := 0, startLevel := 0 }
  else
    { s with lowWater := min s.lowWater s.capacity, startLevel := max 64 (min s.startLevel s.capacity) }

/-- The configuration an accepted record brings into force at GO (R185). -/
def configOf (r : ConfigRecord) : EngineConfig where
  segBase := r.segBase
  segCount := r.segCount
  notice := r.notice
  ringBase := r.ringBase
  ringCap := r.ringCap
  chan := vec8 fun c => settingsInForce r.isDefault r.chan[c]

/-- The Frontier Poll value in use: 0 is off, 1 to 63 are taken as 64 (R38). -/
def frontierPollValue (n : Nat) : Nat := if n = 0 then 0 else max 64 n

/-! ## Degrades of a step (R6, R21) -/

/-- The effective Hold (R6). -/
def effectiveHold (h : Nat) : Nat := if h = 0 then 1 else min h 256

/-- W_eff of a window (R5); `start` is less than `length`. -/
def effectiveLength (length start window : Nat) : Nat :=
  if window = 0 then length - start else min window (length - start)

/-- A step is a decision point (R10). -/
def StepBody.isDecision (b : StepBody) : Bool :=
  match b.entry with
  | some .immediate => false
  | some (.trigger _) => decide (1 ≤ b.waitTimeout)
  | some .leader => decide (1 ≤ b.waitTimeout)
  | none => false

/-- A divisor as a SET_RATE order takes it: 0 and 1 are taken as 2 (R116). -/
def clampDivisor (d : Nat) : Nat := max 2 d

/-- A qualifier as a TRIGGER_SETUP order takes it: 0 is taken as 1 (R127). -/
def clampQualifier (q : Nat) : Nat := max 1 q

/-- A sample as the pool holds it (R3): S16 as stored, S8 times 256. -/
def widenSample (f : SampleFormat) (b : List Byte) (i : Nat) : Int :=
  match f with
  | .s16 => signed16 (le16 b (2 * i))
  | .s8 => 256 * signed8 (byteAt b i)

/-- The `n` samples of an arrival, widened (R3, R53). -/
def widenSamples (f : SampleFormat) (n : Nat) (b : List Byte) : List Int :=
  (List.range n).map (widenSample f b)

/-- The bytes one sample takes (R3). -/
def SampleFormat.bytes : SampleFormat → Nat
  | .s16 => 2
  | .s8 => 1

end Sys2Proof.Machine
end

