-- ==== Sys2Proof/Machine/Formats.lean ====
section
/-! DEFINITION. The bytes of what the engine writes: head words, result words, report records, status blocks, the Engine
Snapshot (chapter 11), and what the six registers read as. -/

namespace Sys2Proof.Machine

open Sys2Proof

/-! ## Reading the state -/

/-- The window entry at the head (R24). -/
def Channel.head (ch : Channel) : Option WindowEntry := ch.fetch.window.head?

/-- The slot index of a window entry. -/
def WindowEntry.slot : WindowEntry → Nat
  | .step ctx => ctx.slot
  | .invalid _ slot _ => slot

/-- The occurrence number of a window entry. -/
def WindowEntry.occ : WindowEntry → Nat
  | .step ctx => ctx.occ
  | .invalid occ _ _ => occ

/-- The step context at the head of the window. -/
def Channel.headStep (ch : Channel) : Option StepContext :=
  match ch.head with
  | some (.step ctx) => some ctx
  | _ => none

/-- The playing slot a status block shows (R177). -/
def Channel.playingSlot (ch : Channel) : Nat :=
  let slot := (ch.headStep.map (·.slot)).getD 0
  match ch.play.state, ch.play.wait with
  | .running, _ => slot
  | .waiting, .trigger _ => slot
  | .waiting, .leader => slot
  | _, _ => 0

/-! ## Codes (11.7, 11.9, 11.10) -/

/-- Record kind codes (11.7). -/
def RecordKind.code : RecordKind → Nat
  | .stepStart => 0
  | .stepEnd => 1
  | .triggerCapture => 2
  | .starved => 3
  | .frontier => 4
  | .frontierLeft => 5
  | .waitTimeout => 6
  | .earlyTrigger => 7
  | .launch => 8
  | .channelStopped => 9
  | .channelFault => 10
  | .orderReadError => 11

/-- Source codes (11.7). -/
def Source.code : Source → Nat
  | .channel c => c.val
  | .line k => 0x10 + k.val
  | .engine => 0x20

/-- Stop reason codes (11.7). -/
def StopReason.code : StopReason → Nat
  | .none => 0
  | .cut => 1
  | .stepEnd => 2
  | .drain => 3
  | .endStep => 4
  | .leaderGone => 5
  | .halt => 6

/-- Sub-codes (11.7). -/
def SubCode.code : SubCode → Nat
  | .memoryError => 1
  | .segmentRange => 2
  | .segmentVoid => 3
  | .segmentEmpty => 4
  | .segmentAlign => 5
  | .windowRange => 6
  | .field => 7
  | .targetRange => 8
  | .openStreamed => 9
  | .leaderAlone => 10
  | .loopDepth => 11

/-- Fault cause codes (11.7). -/
def FaultCause.code : FaultCause → Nat
  | .none => 0
  | .stepInvalid _ => 1
  | .memoryError => 2

/-- The sub-code a fault cause carries, 0 unless STEP_INVALID (11.8, R173). -/
def FaultCause.subCode : FaultCause → Nat
  | .stepInvalid sub => sub.code
  | _ => 0

/-- Channel state codes (11.7). -/
def ChannelState.code : ChannelState → Nat
  | .idle => 0
  | .armed => 1
  | .running => 2
  | .waiting => 3
  | .frontier => 4
  | .faulted => 5
  | .mirroring => 6

/-- The wait reason byte (11.7). -/
def WaitReason.code : WaitReason → Nat
  | .none => 0
  | .trigger k => 1 + 16 * k.val
  | .leader => 2
  | .data late => 3 + flagBit late 7

/-- Pending stop codes (11.7). -/
def PendingStop.code : PendingStop → Nat
  | .none => 0
  | .drain => 1
  | .stepEnd => 2

/-- Result codes (11.6). -/
def ResultCode.code : ResultCode → Nat
  | .ok => 0
  | .busy => 1
  | .invalid => 2
  | .mode => 3
  | .rateMismatch => 4
  | .noPool => 5
  | .memoryError => 6

/-- Engine state codes (11.9). -/
def EngineState.code : EngineState → Nat
  | .dormant => 0
  | .online => 1
  | .halted => 2

/-- Halt cause codes (11.10). -/
def HaltCause.code : HaltCause → Nat
  | .none => 0
  | .hostHalt => 1
  | .configInvalid => 2
  | .pageReadError => 3
  | .writeError => 4

/-- Halt detail codes of PAGE_READ_ERROR and WRITE_ERROR (11.10). -/
def HaltDetail.code : HaltDetail → Nat
  | .configuration => 1
  | .taken => 2
  | .requester .report => 1
  | .requester .statusBlock => 2
  | .requester .slotRetire => 3
  | .requester .orderResult => 4
  | .requester .snapshot => 5
  | .none => 0
  | .field _ _ => 0

/-- Order Unit state codes (11.9). -/
def OrderState.code : OrderState → Nat
  | .standby => 0
  | .reading => 1
  | .executing => 2
  | .closing => 3

/-- Edge mode codes (11.6). -/
def EdgeMode.code : EdgeMode → Nat
  | .rising => 0
  | .falling => 1
  | .both => 2

/-- Reader state codes (11.9). -/
def ReaderState.code : ReaderState → Nat
  | .off => 0
  | .slotRead => 1
  | .entryRead => 2
  | .bankWait => 3
  | .windowFull => 4
  | .decisionPause => 5
  | .atFrontier => 6
  | .listEnd => 7
  | .blocked => 8

/-- Bank state codes (11.9). -/
def Bank.code : Bank → Nat
  | .free => 0
  | .loading _ _ => 1
  | .held _ _ => 2

/-! ## Structures the engine writes -/

/-- A slot's head word (11.4): state, kind, edition. -/
def headWordBytes (state : Nat) (kind : Byte) (edition : BitVec 32) : List Byte :=
  toBytes 1 state ++ [kind] ++ zeros 2 ++ toBytes 4 edition.toNat

/-- The result word (11.6). -/
def resultWordBytes (r : OrderResult) : List Byte :=
  toBytes 1 r.code.code ++ toBytes 1 ((r.channel.map Fin.val).getD 0xFF) ++ toBytes 2 (r.field.getD 0xFFFF) ++ zeros 4

/-- A report record (11.7) with the Sequence and Dropped of its placement; a detail is held at 32 bits (R172). -/
def recordBytes (r : Record) (seq dropped : Nat) : List Byte :=
  toBytes 4 seq ++ toBytes 1 r.kind.code ++ toBytes 1 r.source.code ++ toBytes 2 dropped ++ toBytes 2 r.slot
    ++ toBytes 2 r.conditions.toNat ++ toBytes 6 r.time ++ zeros 2 ++ heldBytes 4 r.detailA ++ heldBytes 4 r.detailB
    ++ zeros 4

/-- A count word of the Control Page (11.2): four bytes of count, four unused. -/
def countWordBytes (n : Nat) : List Byte := toBytes 4 n ++ zeros 4

/-- The engine conditions word (11.2). -/
def conditionsWordBytes (overrun : Bool) : List Byte := toBytes 8 (flagBit overrun 0)

/-- A channel's status block (11.8, R177). -/
def statusBlockBytes (ch : Channel) : List Byte :=
  toBytes 1 ch.play.state.code ++ toBytes 1 ch.play.wait.code ++ toBytes 1 ch.play.pendingStop.code
    ++ toBytes 1 ch.play.lastStop.code ++ toBytes 1 ch.play.faultCause.code ++ toBytes 1 ch.play.faultCause.subCode
    ++ toBytes 2 ch.playingSlot ++ toBytes 4 ch.play.retired ++ toBytes 4 ch.play.samplesHeld
    ++ toBytes 4 ch.level.clipped ++ toBytes 2 ch.accumulated.toNat ++ zeros 2 ++ toBytes 6 ch.play.sampleCount
    ++ zeros 34

/-- A generator's eight bytes of the snapshot (11.9). -/
def genSnapshotBytes (g : Gen) : List Byte :=
  toBytes 1 (flagBit g.running 0) ++ zeros 1 ++ heldBytes 2 g.divisor ++ heldBytes 2 (g.pending.getD 0)
    ++ heldBytes 2 (if g.running then g.countdown else 0)

/-- A trigger line's sixteen bytes of the snapshot (11.9). An IDLE line's delay count is written as it stands, which after a
TRIGGER_SETUP that abandoned a delay is the count it had left (DEDUCED, log 35). -/
def lineSnapshotBytes (l : TrigLine) : List Byte :=
  toBytes 1 l.mode.code ++ heldBytes 1 l.qualifier
    ++ toBytes 1 (flagBit l.capture 0 + flagBit l.delaying 1 + flagBit l.registered 2 + flagBit l.stable 3)
    ++ heldBytes 1 l.agreement ++ heldBytes 4 l.delay ++ heldBytes 4 l.delayCount ++ heldBytes 4 l.ignored

/-- A channel's thirty-two bytes of the snapshot (11.9). -/
def channelSnapshotBytes (ch : Channel) : List Byte :=
  toBytes 1 ch.play.state.code ++ toBytes 1 ch.play.wait.code ++ toBytes 1 ch.play.pendingStop.code
    ++ toBytes 1 ch.fetch.reader.code ++ heldBytes 1 ch.fetch.window.length ++ heldBytes 1 ch.fetch.map.length
    ++ toBytes 1 ch.fetch.epoch.toNat ++ toBytes 1 (ch.pool.bankA.code + 4 * ch.pool.bankB.code)
    ++ heldBytes 2 ch.fetch.cursor ++ heldBytes 2 ch.playingSlot ++ heldBytes 4 ch.pool.queue.length
    ++ heldBytes 4 ch.pool.deficit ++ heldBytes 1 ch.pool.reserve
    ++ toBytes 1 ((ch.play.group.map fun m => m.leader.val).getD 0xFF)
    ++ toBytes 1 ((ch.play.group.map fun m => m.mask.toNat).getD 0) ++ toBytes 1 ch.play.generator.val
    ++ heldBytes 6 ch.play.sampleCount
    ++ toBytes 1 (flagBit ch.fetch.frontier 0 + flagBit ch.fetch.nudge 1
        + flagBit ((ch.play.group.map (·.launched)).getD false) 2
        + flagBit ((ch.play.group.map (·.leaderLost)).getD false) 3
        + flagBit ((ch.play.group.map (·.latch)).getD false) 4)
    ++ toBytes 1 ((ch.level.mirror.map Fin.val).getD 0xFF)

/-- The Engine Snapshot, 512 bytes (11.9, R152). -/
def snapshotBytes (s : State) : List Byte :=
  toBytes 1 s.engine.state.code ++ toBytes 1 s.orders.state.code ++ toBytes 1 s.orders.next.val
    ++ toBytes 1 (flagBit s.report.attention 0) ++ toBytes 1 (flagBit s.report.overrun 0)
    ++ toBytes 1 (flagBit s.port.busy 0) ++ toBytes 1 s.port.rr2.val ++ toBytes 1 s.port.rr3.val
    ++ toBytes 1 s.port.rr4.val ++ heldBytes 1 s.report.queue.length ++ heldBytes 6 s.trig.refTime
    ++ heldBytes 4 s.report.writePos ++ heldBytes 4 s.report.written ++ heldBytes 4 s.report.seq
    ++ heldBytes 4 s.report.copy ++ heldBytes 2 s.report.newestDropped ++ heldBytes 2 s.report.losses ++ zeros 28
    ++ (allGens.flatMap fun g => genSnapshotBytes s.gens[g])
    ++ (allLines.flatMap fun k => lineSnapshotBytes s.trig.lines[k]) ++ zeros 96
    ++ allChans.flatMap fun c => channelSnapshotBytes s.chans[c]

/-! ## The registers as they read (R181, R182, R192, 11.10) -/

/-- What a read of ENGINE returns (R182, 11.10). Bits 12 to 15 are read as 0 while the halt cause is not CONFIG_INVALID:
11.10 assigns them for that cause only (DEDUCED, log 37). -/
def engineRegister (e : EngineControl) : Nat :=
  let tail := match e.detail with
    | .field offset channel => 4096 * ((channel.map Fin.val).getD 15) + 65536 * offset + 16777216
    | _ => 61440
  let detailBits := if e.cause = .configInvalid then tail else 0
  e.state.code + flagBit e.starting 2 + 16 * e.cause.code + 256 * e.detail.code + detailBits

/-- What a read of the register at a byte offset returns; reading changes nothing (R181). At an offset that is none of the
six registers it is a free value (log 29). -/
def readRegister (s : State) (offset : Nat) : BitVec 32 :=
  match offset with
  | 0x00 => 0x4B3A0880
  | 0x04 => s.engine.page
  | 0x08 => BitVec.ofNat 32 (engineRegister s.engine)
  | 0x0C => 0
  | 0x10 => 0
  | 0x14 => BitVec.ofNat 32 (flagBit s.report.attention 0)
  | _ => Config.unassignedRead offset

end Sys2Proof.Machine
end

