-- ==== Sys2Proof/Machine/Ops.lean ====
section
/-! DEFINITION. The named operations the meanings share: changing one channel, raising and granting requests (chapter 8),
placing report records (chapter 9), and the frame of one event: what it raises is handed over when its handling is
complete (R165, R176). -/

namespace Sys2Proof.Machine

open Sys2Proof

/-! ## Changing one part -/

/-- Changes one channel. -/
def State.modChan (s : State) (c : Chan) (f : Channel → Channel) : State :=
  { s with chans := s.chans.set c (f s.chans[c]) }

/-- Changes one channel's fetch context. -/
def State.modFetch (s : State) (c : Chan) (f : Fetch → Fetch) : State :=
  s.modChan c fun ch => { ch with fetch := f ch.fetch }

/-- Changes one channel's pool share. -/
def State.modPool (s : State) (c : Chan) (f : Pool → Pool) : State :=
  s.modChan c fun ch => { ch with pool := f ch.pool }

/-- Changes one channel's playout. -/
def State.modPlay (s : State) (c : Chan) (f : Play → Play) : State :=
  s.modChan c fun ch => { ch with play := f ch.play }

/-- Changes one channel's Level and Marker Unit. -/
def State.modLevel (s : State) (c : Chan) (f : Levels → Levels) : State :=
  s.modChan c fun ch => { ch with level := f ch.level }

/-- Changes one generator. -/
def State.modGen (s : State) (g : GenIx) (f : Gen → Gen) : State :=
  { s with gens := s.gens.set g (f s.gens[g]) }

/-- Changes one trigger line. -/
def State.modLine (s : State) (k : LineIx) (f : TrigLine → TrigLine) : State :=
  { s with trig := { s.trig with lines := s.trig.lines.set k (f s.trig.lines[k]) } }

/-- Changes the Report Unit. -/
def State.modReport (s : State) (f : ReportUnit → ReportUnit) : State := { s with report := f s.report }

/-- Changes the Order Unit. -/
def State.modOrders (s : State) (f : OrderUnit → OrderUnit) : State := { s with orders := f s.orders }

/-- Changes Engine Control. -/
def State.modEngine (s : State) (f : EngineControl → EngineControl) : State := { s with engine := f s.engine }

/-- The engine is ONLINE (R180). -/
def State.online (s : State) : Bool := decide (s.engine.state = .online)

/-- The settings of a channel while no configuration is in force: allotment 0 (R63). -/
def ChannelSettings.absent : ChannelSettings where
  listBase := 0
  listSize := 0
  allotment := 0
  bankSize := 0
  lowWater := 0
  startLevel := 0
  frontierPoll := 0

/-- A channel's settings in force (R46, R63). -/
def State.settings (s : State) (c : Chan) : ChannelSettings :=
  match s.engine.config with
  | some k => k.chan[c]
  | none => ChannelSettings.absent

/-- The segment table in force: base and count (R1). -/
def State.segTable (s : State) : Nat × Nat :=
  match s.engine.config with
  | some k => (k.segBase, k.segCount)
  | none => (0, 0)

/-- The bus address of a computed byte address: itself within 64 bits, a free value beyond (log 10). -/
def busAddr (n : Nat) : Nat := if n < 18446744073709551616 then n else (Config.addressBeyond n).toNat

/-- The address of an offset of the Control Page in force (R180). -/
def State.pageAddr (s : State) (offset : Nat) : Nat := busAddr (s.engine.pageBase.getD 0 + offset)

/-! ## The Memory Port (chapter 8) -/

/-- The channel of a fetch or sample request (R157). -/
def Transfer.chan? : Transfer → Option Chan
  | .streamRequest c _ _ _ => some c
  | .bankLoad c _ _ _ _ _ => some c
  | .stepSlotRead c _ _ => some c
  | .segmentEntryRead c _ => some c
  | _ => none

/-- The transfer is a sample request of the channel under the epoch (R32). -/
def Transfer.isSampleOf (c : Chan) (epoch : BitVec 8) : Transfer → Bool
  | .streamRequest c' e _ _ => decide (c' = c) && e == epoch
  | .bankLoad c' e _ _ _ _ => decide (c' = c) && e == epoch
  | _ => false

/-- A bank load is urgent while its occurrence is the oldest window entry and the channel is RUNNING or WAITING (R55). -/
def State.loadUrgent (s : State) (c : Chan) (occ : Nat) : Bool :=
  decide ((s.chans[c].head.map WindowEntry.occ) = some occ)
    && (decide (s.chans[c].play.state = .running) || decide (s.chans[c].play.state = .waiting))

/-- A stream request is urgent while the fill is below the low-water mark (R55). -/
def State.streamUrgent (s : State) (c : Chan) : Bool :=
  decide (s.chans[c].pool.queue.length < (s.settings c).lowWater)

/-- The arbiter class of a transfer, at the moment of choice (R155, R157). -/
def State.classOf (s : State) : Transfer → Nat
  | .reportRecord _ _ => 1
  | .reportsWritten _ => 1
  | .statusBlock _ => 1
  | .engineConditions => 1
  | .slotRetire _ => 1
  | .orderResult => 1
  | .orderHead => 1
  | .streamRequest c _ _ _ => if s.streamUrgent c then 2 else 4
  | .bankLoad c _ occ _ _ _ => if s.loadUrgent c occ then 2 else 4
  | .stepSlotRead _ _ reread => if reread then 5 else 3
  | .segmentEntryRead _ _ => 3
  | .orderSlotRead => 5
  | .configReadGo => 5
  | .configReadOrder => 5
  | .reportsTakenRead => 5
  | .snapshotWrite => 5

/-- The earliest raised request of a class (R157). -/
def State.earliest (s : State) (k : Nat) : Option Request :=
  s.port.waiting.find? fun r => s.classOf r.kind == k

/-- The request of a round-robin class, counting upward from the pointer (R158). -/
def State.roundRobin (s : State) (k : Nat) (pointer : Chan) : Option Request :=
  (allChans.map (pointer + ·)).findSome? fun c =>
    s.port.waiting.find? fun r => s.classOf r.kind == k && decide (r.kind.chan? = some c)

/-- The arbiter's choice: the lowest class that holds a request (R157). -/
def State.choose (s : State) : Option Request :=
  s.earliest 1 <|> s.roundRobin 2 s.port.rr2 <|> s.roundRobin 3 s.port.rr3 <|> s.roundRobin 4 s.port.rr4
    <|> s.earliest 5

/-- A grant: the port becomes BUSY with the request and its class's pointer moves on (R154, R158). -/
def State.grant (s : State) (r : Request) : State :=
  let p := { s.port with busy := true, inFlight := some r, discard := false, waiting := s.port.waiting.erase r }
  match s.classOf r.kind, r.kind.chan? with
  | 2, some c => { s with port := { p with rr2 := c + 1 } }
  | 3, some c => { s with port := { p with rr3 := c + 1 } }
  | 4, some c => { s with port := { p with rr4 := c + 1 } }
  | _, _ => { s with port := p }

/-- The arbiter chooses a grant when the port is IDLE and a request is raised (R156). -/
def State.arbitrate (s : State) : State :=
  if s.port.busy then s
  else
    match s.choose with
    | some r => s.grant r
    | none => s

/-- Raises a request: an IDLE port grants it at that moment (R156). -/
def State.raise (s : State) (r : Request) : State :=
  State.arbitrate { s with port := { s.port with waiting := s.port.waiting ++ [r] } }

/-- Withdraws the waiting requests that `p` names (R160). -/
def State.withdraw (s : State) (p : Transfer → Bool) : State :=
  { s with port := { s.port with waiting := s.port.waiting.filter fun r => !p r.kind } }

/-- A completion: the transfer ends, and the port stays BUSY while its requester handles the answer (R154, R156). -/
def State.portEnd (s : State) : State := { s with port := { s.port with inFlight := none, discard := false } }

/-- The completion has been handled: the port becomes IDLE and chooses the next grant (R156). -/
def State.portDone (s : State) : State := State.arbitrate { s with port := { s.port with busy := false } }

/-- A completion with its handling made whole, then the next grant (R156). -/
def State.completion (s : State) (handle : State → State) : State := (handle s.portEnd).portDone

/-- A write request. -/
def State.raiseWrite (s : State) (kind : Transfer) (addr : Nat) (data : List Byte) : State :=
  s.raise { kind, addr, size := data.length, data }

/-- A read request. -/
def State.raiseRead (s : State) (kind : Transfer) (addr size : Nat) : State :=
  s.raise { kind, addr, size, data := [] }

/-! ## The Report Unit (chapter 9) -/

/-- Wraps a 32-bit count. -/
def wrap32 (n : Nat) : Nat := n % 4294967296

/-- Wraps a 48-bit count. -/
def wrap48 (n : Nat) : Nat := n % 281474976710656

/-- Records written and not taken by the given value of Reports Taken, modulo 2^32 (R166, R167). -/
def ReportUnit.untaken (r : ReportUnit) (taken : Nat) : Nat := wrap32 (r.written + 4294967296 - taken)

/-- The ring in force: base and capacity; capacity 0 while there is none. -/
def State.ring (s : State) : Nat × Nat :=
  match s.engine.config with
  | some k => (k.ringBase, k.ringCap)
  | none => (0, 0)

/-- The ring has room by the unit's copy of Reports Taken (R166). -/
def State.hasRoom (s : State) : Bool := decide (s.report.untaken s.report.copy < s.ring.2)

/-- The write of the engine conditions word, carrying the set (R175). -/
def State.writeConditionsWord (s : State) : State :=
  s.raiseWrite .engineConditions (s.pageAddr 0x100) (conditionsWordBytes s.report.overrun)

/-- RING_OVERRUN is raised: the word is written when the set was empty (R175). -/
def State.raiseOverrun (s : State) : State :=
  if s.report.overrun then s
  else State.writeConditionsWord (s.modReport fun r => { r with overrun := true })

/-- A count of losses, held at 65,535 (R166, R168, R169, R171). -/
def holdLosses (n : Nat) : Nat := min 65535 n

/-- The write of Reports Written carrying a count (R166, R185). -/
def State.writeReportsWritten (s : State) (counted : Option RecordKind) (n : Nat) : State :=
  s.raiseWrite (.reportsWritten counted) (s.pageAddr 0x108) (countWordBytes n)

/-- Places a record in a fresh slot (R166). -/
def State.placeFresh (s : State) (q : QueuedRecord) : State :=
  let r := s.report
  let dropped := holdLosses (r.losses + q.losses)
  let s1 := s.raiseWrite (.reportRecord q.record.kind false) (busAddr (s.ring.1 + 32 * r.writePos))
    (recordBytes q.record r.seq dropped)
  let s2 := s1.writeReportsWritten (some q.record.kind) (wrap32 (r.written + 1))
  s2.modReport fun r' =>
    { r' with
      writePos := if r.writePos + 1 < s.ring.2 then r.writePos + 1 else 0
      written := wrap32 (r.written + 1)
      newestDropped := dropped
      losses := 0
      seq := wrap32 (r.seq + 1) }

/-- The newest ring slot: the one at the write position less one (R164). -/
def State.newestPos (s : State) : Nat :=
  if s.report.writePos = 0 then s.ring.2 - 1 else s.report.writePos - 1

/-- Places a record over the newest slot (R168). -/
def State.overwriteNewest (s : State) (q : QueuedRecord) : State :=
  let r := s.report
  let dropped := holdLosses (r.newestDropped + 1 + r.losses + q.losses)
  let s1 := s.raiseWrite (.reportRecord q.record.kind true) (busAddr (s.ring.1 + 32 * s.newestPos))
    (recordBytes q.record r.seq dropped)
  State.raiseOverrun
    (s1.modReport fun r' => { r' with newestDropped := dropped, losses := 0, seq := wrap32 (r.seq + 1) })

/-- Loses a record without writing it (R171). -/
def State.loseRecord (s : State) (q : QueuedRecord) : State :=
  State.raiseOverrun (s.modReport fun r => { r with losses := holdLosses (r.losses + 1 + q.losses) })

/-- Places a record that a Taken read's completion serves from the queue (R167, R171). -/
def State.placeQueued (s : State) (q : QueuedRecord) : State :=
  if s.hasRoom then s.placeFresh q
  else if s.online then s.overwriteNewest q
  else s.loseRecord q

/-- Raises the read of Reports Taken (R167). -/
def State.raiseTakenRead (s : State) : State :=
  State.raiseRead (s.modReport fun r => { r with taken := .outstanding }) .reportsTakenRead (s.pageAddr 0x110) 8

/-- Joins a record to the tail of the report queue, replacing the newest of a full queue (R167, R169). -/
def State.joinQueue (s : State) (rec : Record) : State :=
  if s.report.queue.length < 16 then
    s.modReport fun r => { r with queue := r.queue ++ [⟨rec, 0⟩] }
  else
    let lost := ((s.report.queue.getLast?).map (·.losses)).getD 0
    State.raiseOverrun
      (s.modReport fun r => { r with queue := r.queue.dropLast ++ [⟨rec, holdLosses (lost + 1)⟩] })

/-- A record is handed over: it joins a queue that holds records, goes into a fresh slot while the ring has room, waits
for a Taken read while ONLINE, and is lost otherwise (R165, R166, R167, R171). -/
def State.handOver (s : State) (rec : Record) : State :=
  if s.report.queue ≠ [] then s.joinQueue rec
  else if s.hasRoom then s.placeFresh ⟨rec, 0⟩
  else if s.online then
    let s1 := s.joinQueue rec
    if s1.report.taken = .none then s1.raiseTakenRead else s1
  else s.loseRecord ⟨rec, 0⟩

/-- Raises a condition for a channel, in both its sets (R174). -/
def State.raiseCond (s : State) (c : Chan) (k : Condition) : State :=
  s.modChan c fun ch => { ch with perRecord := ch.perRecord ||| k.bit, accumulated := ch.accumulated ||| k.bit }

/-- Hands over the records of one event in order: the last record of each channel carries and empties the channel's
per-record conditions; an earlier one, and a record of a line or of the engine, carries none (R165). -/
def State.handOverAll : List Record → State → State
  | [], s => s
  | rec :: rest, s =>
    match rec.source with
    | .channel c =>
      if rest.any fun r => decide (r.source = .channel c) then State.handOverAll rest (s.handOver { rec with conditions := 0 })
      else
        let s1 := s.handOver { rec with conditions := s.chans[c].perRecord }
        State.handOverAll rest (s1.modChan c fun ch => { ch with perRecord := 0 })
    | _ => State.handOverAll rest (s.handOver { rec with conditions := 0 })

/-- Raises the write of a channel's status block, composed as the channel stands (R176, R177). -/
def State.writeStatusBlock (s : State) (c : Chan) : State :=
  s.raiseWrite (.statusBlock c) (s.pageAddr (0x400 + 64 * c.val)) (statusBlockBytes s.chans[c])

/-! ## One event -/

/-- One event in hand: the state, the records raised so far, the channels whose status block is asked for, and, within
an expiry, which channels made a step start, counted a leader wait, or left a group without its leader (log 8). -/
structure Ev where
  st : State
  recs : List Record
  asked : BitVec 8
  starts : BitVec 8
  counted : BitVec 8
  lost : BitVec 8
  inExpiry : Bool

/-- An event at its beginning. -/
def Ev.of (s : State) (inExpiry : Bool) : Ev := ⟨s, [], 0, 0, 0, 0, inExpiry⟩

/-- Changes the state of an event. -/
def Ev.mod (e : Ev) (f : State → State) : Ev := { e with st := f e.st }

/-- A channel as it stands in an event. -/
def Ev.chan (e : Ev) (c : Chan) : Channel := e.st.chans[c]

/-- Changes one channel in an event. -/
def Ev.modChan (e : Ev) (c : Chan) (f : Channel → Channel) : Ev := e.mod (·.modChan c f)

/-- Changes one channel's fetch context in an event. -/
def Ev.modFetch (e : Ev) (c : Chan) (f : Fetch → Fetch) : Ev := e.mod (·.modFetch c f)

/-- Changes one channel's pool share in an event. -/
def Ev.modPool (e : Ev) (c : Chan) (f : Pool → Pool) : Ev := e.mod (·.modPool c f)

/-- Changes one channel's playout in an event. -/
def Ev.modPlay (e : Ev) (c : Chan) (f : Play → Play) : Ev := e.mod (·.modPlay c f)

/-- Changes one channel's Level and Marker Unit in an event. -/
def Ev.modLevel (e : Ev) (c : Chan) (f : Levels → Levels) : Ev := e.mod (·.modLevel c f)

/-- Raises a condition in an event. -/
def Ev.raiseCond (e : Ev) (c : Chan) (k : Condition) : Ev := e.mod (·.raiseCond c k)

/-- Raises a record (9.2). -/
def Ev.addRecord (e : Ev) (rec : Record) : Ev := { e with recs := e.recs ++ [rec] }

/-- Raises a channel's record with Time the channel sample count as it stands (R172). -/
def Ev.addChanRecord (e : Ev) (c : Chan) (kind : RecordKind) (slot detailA detailB : Nat) : Ev :=
  e.addRecord
    { kind, source := .channel c, slot, conditions := 0, time := (e.chan c).play.sampleCount, detailA, detailB }

/-- Asks for a channel's status block (R176). -/
def Ev.ask (e : Ev) (c : Chan) : Ev := { e with asked := e.asked ||| maskOf c }

/-- Changes a channel's state and wait reason, asking for its status block when either changes (R176). -/
def Ev.setState (e : Ev) (c : Chan) (st : ChannelState) (w : WaitReason) : Ev :=
  let p := (e.chan c).play
  let e1 := e.modPlay c fun p => { p with state := st, wait := w }
  if p.state = st ∧ p.wait = w then e1 else e1.ask c

/-- Does something for each channel of a list, in order. -/
def Ev.forEach (e : Ev) (l : List Chan) (f : Ev → Chan → Ev) : Ev := l.foldl f e

/-- The end of an event: its records are handed over, then the asked status blocks are written in channel order
(R165, R176). -/
def Ev.finish (e : Ev) : State :=
  (members e.asked).foldl State.writeStatusBlock (State.handOverAll e.recs e.st)

/-- One event. -/
def State.event (s : State) (f : Ev → Ev) : State := (f (Ev.of s false)).finish

end Sys2Proof.Machine
end

