-- ==== Sys2Proof/Machine/Fetch.lean ====
section
/-! DEFINITION. Step Fetch and the Sample Pool (chapters 2 and 3): reading and validating steps, the step window, the loop
counter map, the data feeder, the loop banks, retirement from the window and the purge. -/

namespace Sys2Proof.Machine

open Sys2Proof

/-! ## Step validity (R20) -/

/-- The loop counter map's entry of a slot (R31). -/
def mapEntry (map : List (Nat × Nat)) (slot : Nat) : Option Nat := map.lookup slot

/-- The successor of a step (R12, R13), from the map as it stands. -/
def successorOf (b : StepBody) (slot size : Nat) (map : List (Nat × Nat)) : Option Nat :=
  match b.nextKind with
  | some .endStep => none
  | some .jump =>
    if b.passes = 0 then some b.jumpTarget
    else if b.passes = 1 then some ((slot + 1) % size)
    else if mapEntry map slot = some 0 then some ((slot + 1) % size)
    else some b.jumpTarget
  | some .next => some ((slot + 1) % size)
  | none => some ((slot + 1) % size)

/-- The map change of a placed step (R13, R31). -/
def mapAfter (b : StepBody) (slot : Nat) (map : List (Nat × Nat)) : List (Nat × Nat) :=
  if b.nextKind = some .jump ∧ 2 ≤ b.passes then
    match mapEntry map slot with
    | none => map ++ [(slot, b.passes - 2)]
    | some 0 => map.filter fun e => e.1 != slot
    | some (n + 1) => map.map fun e => if e.1 == slot then (e.1, n) else e
  else map

/-- The channel is its group's leader or was started alone (R20, check 10). -/
def State.leadsItself (s : State) (c : Chan) : Bool :=
  match s.chans[c].play.group with
  | some m => decide (m.leader = c)
  | none => true

/-- Whether a step would be resident (R18). -/
def isResident (bankSize wEff : Nat) : Bool := decide (0 < bankSize) && decide (wEff ≤ bankSize)

/-- The step validity checks 3 to 11 in their order, each with its sub-code (R20). -/
def stepChecks (s : State) (c : Chan) (slot : Nat) (b : StepBody) (seg : SegEntry) : List (Bool × SubCode) :=
  let size := (s.settings c).listSize
  let wEff := effectiveLength seg.length b.windowStart b.windowLength
  let map := s.chans[c].fetch.map
  [ (!seg.valid || decide (seg.format = none), .segmentVoid),
    (decide (seg.length = 0), .segmentEmpty),
    (decide (seg.format = some .s16) && seg.base % 2 == 1, .segmentAlign),
    (decide (seg.length ≤ b.windowStart), .windowRange),
    (decide (b.entry = none) || decide (b.nextKind = none) || decide (b.markers[0].mode = none)
      || decide (b.markers[1].mode = none) || (decide (b.rep = 0) && decide (b.advance = none)), .field),
    ((decide (b.nextKind = some .jump) && decide (size ≤ b.jumpTarget))
      || (b.isDecision && decide (size ≤ b.branchTarget)), .targetRange),
    (decide (b.rep = 0) && !isResident (s.settings c).bankSize wEff, .openStreamed),
    ((decide (b.entry = some .leader) || (decide (b.rep = 0) && decide (b.advance = some .leader)))
      && s.leadsItself c, .leaderAlone),
    (decide (b.nextKind = some .jump) && decide (2 ≤ b.passes) && decide (mapEntry map slot = none)
      && decide (8 ≤ map.length), .loopDepth) ]

/-- The first check a step fails, if any (R20). -/
def firstFailure (s : State) (c : Chan) (slot : Nat) (b : StepBody) (seg : SegEntry) : Option SubCode :=
  ((stepChecks s c slot b seg).find? (·.1)).map (·.2)

/-- The step context of a step that passed every check (R24, R28); no bank is assigned yet. -/
def contextOf (s : State) (c : Chan) (slot : Nat) (a : AcceptedSlot) (seg : SegEntry) : StepContext :=
  let wEff := effectiveLength seg.length a.body.windowStart a.body.windowLength
  { occ := s.chans[c].fetch.nextOcc
    slot
    edition := a.edition
    kind := a.kind
    body := a.body
    seg
    wEff
    hold := effectiveHold a.body.hold
    resident := isResident (s.settings c).bankSize wEff
    bank := none
    successor := successorOf a.body slot (s.settings c).listSize s.chans[c].fetch.map
    decision := a.body.isDecision }

/-! ## The data feeder (R32, R52, R57) -/

/-- The channel has a sample request of its current epoch raised or in flight (R32). -/
def State.sampleOut (s : State) (c : Chan) : Bool :=
  let epoch := s.chans[c].fetch.epoch
  s.port.waiting.any (fun r => r.kind.isSampleOf c epoch)
    || (!s.port.discard && (s.port.inFlight.map fun r => r.kind.isSampleOf c epoch).getD false)

/-- The cursor on the first samples of an entry. -/
def WindowEntry.cursor : WindowEntry → DataCursor
  | .step ctx => .step ctx 1 0
  | .invalid occ _ _ => .invalid occ

/-- The cursor stands on a step before an occurrence. -/
def DataCursor.before (d : DataCursor) (occ : Nat) : Bool :=
  match d with
  | .step ctx _ _ => decide (ctx.occ < occ)
  | .invalid _ => false

/-- The entries whose samples the data feeder goes through, in window order: the streamed steps that retired with all their samples
still to be asked for (R54, R59), then the window (R32). -/
def Fetch.dataOrder (f : Fetch) : List WindowEntry := f.owed.map .step ++ f.window

/-- The cursor on the entry after an occurrence, or none (R32, R54, R59; DEDUCED, log 40). -/
def Fetch.cursorAfter (f : Fetch) (occ : Nat) : Option DataCursor :=
  (f.dataOrder.find? fun e => decide (occ < e.occ)).map WindowEntry.cursor

/-- The cursor moves; a retired step that it has reached or passed is no longer kept (log 40). -/
def Fetch.moveData (f : Fetch) (d : Option DataCursor) : Fetch :=
  { f with data := d, owed := f.owed.filter fun ctx => d.any (·.before ctx.occ) }

/-- The fetch context after its oldest step has left the window (R30, R41): a streamed step that the data cursor has not reached is
kept until the cursor goes through its samples, which are owed (R54, R59; DEDUCED, log 40). -/
def Fetch.withoutHead (f : Fetch) (ctx : StepContext) : Fetch :=
  { f with
    window := f.window.tail
    owed := if ctx.resident = false ∧ f.data.any (·.before ctx.occ) = true then f.owed ++ [ctx] else f.owed }

/-- The cursor after `n` samples of a step have been asked for (R32). -/
def Fetch.cursorStep (f : Fetch) (ctx : StepContext) (pass offset n : Nat) : Option DataCursor :=
  if offset + n < ctx.wEff then some (.step ctx pass (offset + n))
  else if ctx.resident = false ∧ pass < ctx.body.rep then some (.step ctx (pass + 1) 0)
  else f.cursorAfter ctx.occ

/-- The format of a context's segment; a context's format is defined (R20, check 3). -/
def StepContext.format (ctx : StepContext) : SampleFormat := ctx.seg.format.getD .s16

/-- The byte address of a step's sample (R32). -/
def StepContext.sampleAddr (ctx : StepContext) (offset : Nat) : Nat :=
  busAddr (ctx.seg.base + ctx.format.bytes * (ctx.body.windowStart + offset))

/-- The data feeder raises its next request when it may (R52, R57). -/
def State.feed (s : State) (c : Chan) : State :=
  let ch := s.chans[c]
  match ch.fetch.data with
  | some (.step ctx pass offset) =>
    let n := min 64 (ctx.wEff - offset)
    let moved := s.modFetch c fun f => f.moveData (f.cursorStep ctx pass offset n)
    if s.sampleOut c then s
    else if ctx.resident then
      moved.raiseRead (.bankLoad c ch.fetch.epoch ctx.occ offset n ctx.format) (ctx.sampleAddr offset) (ctx.format.bytes * n)
    else if ch.pool.queue.length + ch.pool.reserve + n ≤ (s.settings c).capacity then
      State.raiseRead (moved.modPool c fun p => { p with reserve := n })
        (.streamRequest c ch.fetch.epoch n ctx.format) (ctx.sampleAddr offset) (ctx.format.bytes * n)
    else s
  | _ => s

/-! ## Loop banks (R56, R58, R59) -/

/-- The occurrence a bank is assigned to. -/
def Bank.occ? : Bank → Option Nat
  | .free => none
  | .loading occ _ => some occ
  | .held occ _ => some occ

/-- The samples a bank holds. -/
def Bank.samples : Bank → List Int
  | .free => []
  | .loading _ l => l
  | .held _ l => l

/-- A bank by its name. -/
def Pool.bank (p : Pool) : BankId → Bank
  | .a => p.bankA
  | .b => p.bankB

/-- Sets a bank by its name. -/
def Pool.setBank (p : Pool) (id : BankId) (b : Bank) : Pool :=
  match id with
  | .a => { p with bankA := b }
  | .b => { p with bankB := b }

/-- The bank a resident step would take: A if FREE, else B if FREE (R28, R56). -/
def Pool.freeBank (p : Pool) : Option BankId :=
  if p.bankA = .free then some .a else if p.bankB = .free then some .b else none

/-- A bank released from an occurrence (R59). -/
def Bank.releasedFrom (occ : Nat) (b : Bank) : Bank := if b.occ? = some occ then .free else b

/-- A bank after a load of its occurrence: the samples join, and the bank becomes HELD when whole (R57). -/
def Bank.loaded (occ wEff : Nat) (samples : List Int) (b : Bank) : Bank :=
  match b with
  | .loading o l =>
    if o = occ then
      if wEff ≤ (l ++ samples).length then .held o (l ++ samples) else .loading o (l ++ samples)
    else b
  | _ => b

/-- The read of a resident step's position (R58): the entry when it is loaded. -/
def Pool.bankRead (p : Pool) (ctx : StepContext) (position : Nat) : Option Int :=
  if p.bankA.occ? = some ctx.occ then p.bankA.samples[position]?
  else if p.bankB.occ? = some ctx.occ then p.bankB.samples[position]?
  else none

/-- The bank is HELD by the occurrence (R56). -/
def Bank.isHeldBy (occ : Nat) (b : Bank) : Bool :=
  match b with
  | .held o _ => decide (o = occ)
  | _ => false

/-- The bank of an occurrence is HELD (R60). -/
def Pool.bankHeld (p : Pool) (occ : Nat) : Bool := p.bankA.isHeldBy occ || p.bankB.isHeldBy occ

/-- The bank is HELD by the occurrence, or LOADING for it with a loaded count of at least 1 (R60). -/
def Bank.hasFirst (occ : Nat) (b : Bank) : Bool :=
  match b with
  | .free => false
  | .loading o l => decide (o = occ) && !l.isEmpty
  | .held o _ => decide (o = occ)

/-- A step's data is present (R60). -/
def Channel.dataPresent (ch : Channel) (ctx : StepContext) : Bool :=
  if ctx.resident then ch.pool.bankA.hasFirst ctx.occ || ch.pool.bankB.hasFirst ctx.occ
  else decide (ch.pool.queue ≠ [])

/-- A first step of a launch is ready (R60). -/
def firstStepReady (settings : ChannelSettings) (ch : Channel) (ctx : StepContext) : Bool :=
  if ctx.resident then ch.pool.bankHeld ctx.occ
  else decide (min settings.startLevel ctx.wEff ≤ ch.pool.queue.length)

/-! ## The step reader (R26 to R34) -/

/-- The byte address of a step slot (R4). -/
def State.slotAddr (s : State) (c : Chan) (slot : Nat) : Nat := busAddr ((s.settings c).listBase + 64 * slot)

/-- The reader raises the read of the slot under the cursor and enters SLOT_READ; a frontier re-read is of the fifth
class (R26, R155). -/
def State.readSlot (s : State) (c : Chan) (reread : Bool) : State :=
  let f := s.chans[c].fetch
  State.raiseRead (s.modFetch c fun f => { f with reader := .slotRead })
    (.stepSlotRead c f.epoch reread) (s.slotAddr c f.cursor) 64

/-- The reader goes on to a slot: it reads it while the window has room, else waits in WINDOW_FULL (R28, R34). -/
def State.readerTo (s : State) (c : Chan) (slot : Nat) : State :=
  let s1 := s.modFetch c fun f => { f with cursor := slot }
  if s1.chans[c].fetch.window.length < 4 then s1.readSlot c false
  else s1.modFetch c fun f => { f with reader := .windowFull }

/-- The reader goes on with a step's successor, or enters LIST_END (R28, R34). -/
def State.readerOn (s : State) (c : Chan) (successor : Option Nat) : State :=
  match successor with
  | some slot => s.readerTo c slot
  | none => s.modFetch c fun f => { f with reader := .listEnd }

/-- A context is placed at the tail of the window with its map change; a data cursor at none moves to it; the reader's
next state follows (R25, R28, R31, R32). -/
def State.placeContext (s : State) (c : Chan) (ctx : StepContext) : State :=
  let s1 := s.modFetch c fun f =>
    { f with
      window := f.window ++ [.step ctx]
      map := mapAfter ctx.body ctx.slot f.map
      accepted := none
      held := none
      data := match f.data with
        | some d => some d
        | none => some (.step ctx 1 0) }
  let s2 := s1.feed c
  if ctx.decision then s2.modFetch c fun f => { f with reader := .decisionPause }
  else s2.readerOn c ctx.successor

/-- A resident context takes a bank, which becomes LOADING, and is placed (R28, R29, R56). -/
def State.placeResident (s : State) (c : Chan) (ctx : StepContext) (id : BankId) : State :=
  (s.modPool c fun p => p.setBank id (.loading ctx.occ [])).placeContext c { ctx with bank := some id }

/-- A validated step: streamed, it is placed at once; resident, it is placed if a bank is FREE, else held in BANK_WAIT
(R28). -/
def State.admitStep (s : State) (c : Chan) (ctx : StepContext) : State :=
  let s1 := s.modFetch c fun f => { f with nextOcc := f.nextOcc + 1 }
  if ctx.resident then
    match s1.chans[c].pool.freeBank with
    | some id => s1.placeResident c ctx id
    | none => s1.modFetch c fun f => { f with held := some ctx, accepted := none, reader := .bankWait }
  else s1.placeContext c ctx

/-- An invalid marker is placed and the reader enters BLOCKED; a data cursor at none moves to it and stops (R27, R32). -/
def State.placeMarker (s : State) (c : Chan) (slot : Nat) (sub : SubCode) : State :=
  s.modFetch c fun f =>
    { f with
      window := f.window ++ [.invalid f.nextOcc slot sub]
      nextOcc := f.nextOcc + 1
      accepted := none
      reader := .blocked
      data := match f.data with
        | some d => some d
        | none => some (.invalid f.nextOcc) }

/-- The paused reader resumes with the decision step's successor (R34). -/
def State.resumeReader (s : State) (c : Chan) (ctx : StepContext) : State :=
  if ctx.decision ∧ s.chans[c].fetch.reader = .decisionPause then s.readerOn c ctx.successor else s

/-- An occurrence's bank is released: the load is abandoned, the data cursor leaves the occurrence, and a context held in
BANK_WAIT takes the bank (R29, R59). -/
def State.releaseBank (s : State) (c : Chan) (occ : Nat) : State :=
  let s1 := s.modPool c fun p => { p with bankA := p.bankA.releasedFrom occ, bankB := p.bankB.releasedFrom occ }
  let s2 := s1.withdraw fun t =>
    match t with
    | .bankLoad c' _ occ' _ _ _ => decide (c' = c) && decide (occ' = occ)
    | _ => false
  let s3 := State.feed (s2.modFetch c fun f =>
    match f.data with
    | some (.step ctx _ _) => if ctx.occ = occ then f.moveData (f.cursorAfter occ) else f
    | _ => f) c
  match s3.chans[c].fetch.reader, s3.chans[c].fetch.held, s3.chans[c].pool.freeBank with
  | .bankWait, some held, some id => s3.placeResident c held id
  | _, _, _ => s3

/-- The slot retire write of a Consume step (R41). -/
def State.retireWrite (s : State) (c : Chan) (ctx : StepContext) : State :=
  if ctx.body.consume then
    s.raiseWrite (.slotRetire c) (s.slotAddr c ctx.slot) (headWordBytes 0 ctx.kind ctx.edition)
  else s

/-- The oldest entry, the step that retires, leaves the window; a reader in WINDOW_FULL reads on (R25, R30). -/
def State.dropHead (s : State) (c : Chan) (ctx : StepContext) : State :=
  let s1 := s.modFetch c fun f => f.withoutHead ctx
  if s1.chans[c].fetch.reader = .windowFull then s1.readSlot c false else s1

/-! ## Purge (R40, R62) -/

/-- The request is a slot read, segment entry read or sample request of the channel (R40). -/
def Transfer.isFetchOf (c : Chan) (t : Transfer) : Bool := decide (t.chan? = some c)

/-- A purge of a channel, the map kept for a wait timeout and emptied otherwise; the reader enters OFF (R40, R62). -/
def State.purge (s : State) (c : Chan) (keepMap : Bool) : State :=
  let s1 := s.withdraw (Transfer.isFetchOf c)
  let s2 := s1.modFetch c fun f =>
    { f with
      reader := .off
      data := none
      window := []
      held := none
      accepted := none
      map := if keepMap then f.map else []
      epoch := f.epoch + 1
      frontier := false
      nudge := false
      poll := 0
      owed := [] }
  s2.modPool c fun _ => Pool.reset

/-- Fetch starts at a START: map emptied, epoch advanced, cursor at the start slot, its read raised (R43). -/
def State.startFetch (s : State) (c : Chan) (slot : Nat) : State :=
  State.readSlot (s.modFetch c fun f => { f with map := [], epoch := f.epoch + 1, cursor := slot }) c false

/-- A frontier re-read is raised from AT_FRONTIER (R37, R38). -/
def State.reread (s : State) (c : Chan) : State := s.readSlot c true

/-- A channel nudge reaches the fetch context (R37). -/
def State.nudgeChannel (s : State) (c : Chan) : State :=
  match s.chans[c].fetch.reader with
  | .atFrontier => s.reread c
  | .slotRead => s.modFetch c fun f => { f with nudge := true }
  | _ => s

end Sys2Proof.Machine
end

