-- ==== Sys2Proof/Machine/Levels.lean ====
section
/-! DEFINITION. The Level and Marker Unit (chapter 5): what the lanes and marker lines show, and mirror channels. -/

namespace Sys2Proof.Machine

open Sys2Proof

/-- A channel in one of these states presents its idle level (R102). -/
def ChannelState.presentsIdle : ChannelState → Bool
  | .idle => true
  | .armed => true
  | .frontier => true
  | .faulted => true
  | .running => false
  | .waiting => false
  | .mirroring => false

/-- The channels that mirror a source, in channel order (R104). -/
def State.mirrorsOf (s : State) (c : Chan) : List Chan :=
  allChans.filter fun m =>
    decide (s.chans[m].play.state = .mirroring) && decide (s.chans[m].level.mirror = some c)

/-- A clip counts toward the clipped total, wrapping (R99). -/
def countClip (clips : Bool) (n : Nat) : Nat := if clips then wrap32 (n + 1) else n

/-- A clip of the playing step counts toward its step clip count, held at its largest value (R99). -/
def countStepClip (clips : Bool) (n : Nat) : Nat := if clips then min 4294967295 (n + 1) else n

/-- A RUNNING channel's lane shows the level computation of a raw sample (R98, R99, R102). -/
def State.driveSample (s : State) (c : Chan) (raw : Int) : State :=
  let l := s.chans[c].level
  let clips := levelClips raw l.gain l.offset
  let s1 := s.modLevel c fun l =>
    { l with
      lane := levelCode raw l.gain l.offset
      stepClips := countStepClip clips l.stepClips
      clipped := countClip clips l.clipped
      idleDue := false }
  if clips then s1.raiseCond c .clipped else s1

/-- A mirror's lane shows the level computation of its source's raw sample (R99, R105). -/
def State.driveMirror (s : State) (raw : Int) (m : Chan) : State :=
  let l := s.chans[m].level
  let clips := levelClips raw l.mirrorGain l.mirrorOffset
  let s1 := s.modLevel m fun l =>
    { l with
      lane := levelCode raw l.mirrorGain l.mirrorOffset
      clipped := countClip clips l.clipped
      idleDue := false }
  if clips then s1.raiseCond m .clipped else s1

/-- Both marker lines take their levels (R108, R112). -/
def State.presentMarkers (s : State) (c : Chan) (running : Bool) : State :=
  s.modLevel c fun l => { l with markers := bothMarkers (·.present running) l.markers }

/-- Every phase becomes QUIET (R112). -/
def State.quietMarkers (s : State) (c : Chan) : State :=
  s.modLevel c fun l => { l with markers := bothMarkers (·.quiet) l.markers }

/-- A mirror's marker lines: the source's with COPY, low with OFF (R106). -/
def State.mirrorMarkers (s : State) (c m : Chan) : State :=
  let src := s.chans[c].level.markers
  s.modLevel m fun l =>
    { l with
      markers := #v[{ l.markers[0] with line := l.markerCopy && src[0].line },
                    { l.markers[1] with line := l.markerCopy && src[1].line }] }

/-- A mirror whose source shows its idle level shows its own (R105). -/
def State.mirrorIdle (s : State) (c m : Chan) : State :=
  (s.modLevel m fun l => { l with lane := l.idle, idleDue := false }).mirrorMarkers c m

/-- The mirrors of a channel follow it to the idle level (R105). A mirror whose setup still waits for its source's next expiry
follows it too, at once, when the source stops or faults between expiries (DESIGN CHOICE, log 41). -/
def State.mirrorsIdle (s : State) (c : Chan) : State := (s.mirrorsOf c).foldl (fun s m => s.mirrorIdle c m) s

/-- The lane of a channel shows its idle level from now on, with its markers inactive but for a set latch, and its
mirrors follow (R102, R105, R112). -/
def State.showIdle (s : State) (c : Chan) : State :=
  State.mirrorsIdle
    ((s.modLevel c fun l => { l with lane := l.idle, idleDue := false }).presentMarkers c false) c

/-- The lane turns to the idle level at the channel's next expiry, and its mirrors' lanes with it: the expiry in progress still
shows its own output (R102, R105, R111; log 11). -/
def State.showIdleNext (s : State) (c : Chan) : State :=
  (c :: s.mirrorsOf c).foldl (fun s d => s.modLevel d fun l => { l with idleDue := true }) s

/-- The lane turns to the idle level: at once, or from the next expiry (R102). -/
def State.toIdleLevel (s : State) (c : Chan) (atExpiry : Bool) : State :=
  if atExpiry then s.showIdleNext c else s.showIdle c

/-- A trigger or leader wait's expiry: the wait level, HOLD_LAST repeating the code of the channel's last expiry
(R9, R103, R105). -/
def State.showWait (s : State) (c : Chan) (waitIdle : Bool) : State :=
  let s1 := State.presentMarkers
    (s.modLevel c fun l => { l with lane := if waitIdle then l.idle else l.expiryCode, idleDue := false }) c false
  (s1.mirrorsOf c).foldl
    (fun s m => if waitIdle then s.mirrorIdle c m else s.mirrorMarkers c m) s1

/-- A DATA wait's expiry: the code of the channel's last expiry is repeated (R76, R103, R105). -/
def State.showRepeat (s : State) (c : Chan) : State := s.showWait c false

/-- A RUNNING expiry's lanes and marker lines, the mirrors' with them; then the one-shots count (R105, R106, R109). -/
def State.showSample (s : State) (c : Chan) (raw : Int) : State :=
  let s1 := (s.driveSample c raw).presentMarkers c true
  let s2 := (s1.mirrorsOf c).foldl (fun s m => (s.driveMirror raw m).mirrorMarkers c m) s1
  s2.modLevel c fun l => { l with markers := bothMarkers (·.count) l.markers }

/-- A step start takes in the step's levels and marker settings (R69, R100, R108). -/
def State.takeLevels (s : State) (c : Chan) (b : StepBody) : State :=
  s.modLevel c fun l =>
    { l with
      gain := if b.levelsPresent then b.gain else l.defGain
      offset := if b.levelsPresent then b.offset else l.defOffset
      stepClips := 0
      markers := #v[l.markers[0].takeSetting b.markers[0], l.markers[1].takeSetting b.markers[1]] }

/-- A later pass starts: EACH_PASS one-shots start again (R109). -/
def State.passStartMarkers (s : State) (c : Chan) : State :=
  s.modLevel c fun l => { l with markers := bothMarkers (·.passStart) l.markers }

/-- A stop with reason DRAIN or END sets the end-of-play latches (R111). -/
def State.endOfPlay (s : State) (c : Chan) : State :=
  s.modLevel c fun l => { l with markers := bothMarkers (·.endOfPlay) l.markers }

/-- The launch clears the end-of-play latches (R111). -/
def State.clearLatches (s : State) (c : Chan) : State :=
  s.modLevel c fun l => { l with markers := bothMarkers (fun m => { m with latch := false }) l.markers }

/-- The lane of a mirror shows its own idle level continuously: its source presents the idle level, and the mirror no longer
waits for the expiry that shows it (R105). While the source stands in a Wait Level IDLE wait a new idle level of the mirror
reaches its lane at the next expiry, as R103 gives for the source's own lane (DEDUCED, log 34). -/
def State.mirrorShowsIdle (s : State) (m : Chan) : Bool :=
  match s.chans[m].level.mirror with
  | some c => s.chans[c].play.state.presentsIdle && !s.chans[m].level.idleDue
  | none => false

/-- A lane that shows a new idle level at once (R102, R105). -/
def State.idleAtOnce (s : State) (c : Chan) : Bool :=
  s.chans[c].play.state.presentsIdle || (decide (s.chans[c].play.state = .mirroring) && s.mirrorShowsIdle c)

/-- SET_LEVELS on one channel: each flagged setting is replaced (R101). Between a stop at a boundary or the entry into FRONTIER
and the next expiry a new idle level moves the channel's own lane at once, while its marker lines and its mirrors stay as they
are until that expiry (DESIGN CHOICE, log 33). -/
def State.setLevels (s : State) (flags : Nat) (gain offset idle : Int) (c : Chan) : State :=
  let atOnce := bitOf flags 2 && s.idleAtOnce c
  s.modLevel c fun l =>
    { l with
      defGain := if bitOf flags 0 then gain else l.defGain
      defOffset := if bitOf flags 1 then offset else l.defOffset
      idle := if bitOf flags 2 then idle else l.idle
      lane := if atOnce then idle else l.lane }

/-- A channel entering MIRRORING from another state has its one-shots QUIET, latches clear and polarity NORMAL, its lines
low (R104, R106). -/
def State.clearOneShots (s : State) (c : Chan) : State :=
  s.modLevel c fun l =>
    { l with markers := bothMarkers (fun m => { m with phase := .quiet, latch := false, inverted := false, line := false }) l.markers }

/-- The setup of a mirror is recorded (R104); it takes effect at once when its source presents the idle level. While the source is
RUNNING or WAITING the marker lines hold their levels with the lane until it takes effect, and a change to marker copy OFF turns
them low only then (DESIGN CHOICE, log 39). -/
def State.setMirror (s : State) (c source : Chan) (gain offset : Int) (copy : Bool) : State :=
  let s1 := s.modLevel c fun l =>
    { l with mirror := some source, mirrorGain := gain, mirrorOffset := offset, markerCopy := copy, idleDue := false }
  if s.chans[source].play.state.presentsIdle then s1.mirrorIdle source c else s1

/-- A mirror leaves the mode: its lane shows its own idle level, its lines are inactive (R107). -/
def State.endMirror (s : State) (c : Chan) : State :=
  State.showIdle (s.modLevel c fun l => { l with mirror := none }) c

end Sys2Proof.Machine
end

