-- ==== Sys2Proof/Machine/Playout.lean ====
section
/-! DEFINITION. Playout (chapter 4): step starts, samples, passes, boundaries, waits, starvation, stops, faults, launch
groups, and what a channel does at one expiry. -/

namespace Sys2Proof.Machine

open Sys2Proof

/-! ## Starvation records (R76, R81) -/

/-- A STARVED record with its condition and count; no episode is open after it (R76, R81). -/
def Ev.starved (e : Ev) (c : Chan) (slot detailB : Nat) : Ev :=
  let count := (e.chan c).play.episode
  ((e.addChanRecord c .starved slot count detailB).raiseCond c .starved).modPlay c fun p =>
    { p with samplesHeld := wrap32 (p.samplesHeld + count), episode := 0 }

/-- The slot of the step last retired since arming, or the start slot (R173). -/
def Play.stopSlot (p : Play) : Nat := p.lastRetired.getD p.startSlot

/-- An open episode, or a late DATA wait, raises its STARVED record as the channel leaves it (R76, R81). -/
def Ev.closeEpisode (e : Ev) (c : Chan) : Ev :=
  let p := (e.chan c).play
  match p.state, p.wait with
  | .running, _ => if 0 < p.episode then e.starved c p.episodeSlot 0 else e
  | .waiting, .data true => e.starved c p.stopSlot 1
  | _, _ => e

/-! ## Retirement (R41, R70, R84) -/

/-- The step leaves the window with its retire write (R41), and the retirement is counted (R70). -/
def Ev.retireStep (e : Ev) (c : Chan) (ctx : StepContext) : Ev :=
  Ev.ask (((e.mod (·.retireWrite c ctx)).mod (·.dropHead c ctx)).modPlay c fun p =>
    { p with retired := wrap32 (p.retired + 1), lastRetired := some ctx.slot }) c

/-- The playing step retires: retire write, STEP_END record, count, marker phases QUIET, bank released (R70, R109, R112). -/
def Ev.retirePlaying (e : Ev) (c : Chan) (ctx : StepContext) : Ev :=
  let e1 := e.retireStep c ctx
  let e2 :=
    if ctx.body.reportEnd then
      e1.addChanRecord c .stepEnd ctx.slot (e.chan c).play.stepExpiries (e.chan c).level.stepClips
    else e1
  let e3 := e2.mod (·.quietMarkers c)
  if ctx.resident then e3.mod (·.releaseBank c ctx.occ) else e3

/-! ## Group membership (R93, R142, R144) -/

/-- Changes a membership. -/
def Play.modGroup (p : Play) (f : Membership → Membership) : Play := { p with group := p.group.map f }

/-- The lowest-numbered channel of a mask. -/
def lowest (m : BitVec 8) : Option Chan := (members m).head?

/-- A member leaves an ARMED group: its own membership becomes none, and in the others the mask loses it and the leader is
the lowest that remains (R144). -/
def Ev.leaveArmedGroup (e : Ev) (c : Chan) : Ev :=
  match (e.chan c).play.group with
  | none => e
  | some m =>
    let rest := maskDrop m.mask c
    let e1 := e.forEach (members rest) fun e d =>
      e.modPlay d fun p => p.modGroup fun g => { g with mask := rest, leader := (lowest rest).getD g.leader }
    e1.modPlay c fun p => { p with group := none }

/-- The channel is a follower of the launched group that `leader` leads now (R93, R145): a follower whose leader was
lost keeps its flag until it is armed again, so the flag tells an old group from the present one. -/
def Channel.follows (ch : Channel) (c leader : Chan) : Bool :=
  match ch.play.group with
  | some m => m.launched && decide (m.leader = leader) && !m.leaderLost && decide (c ≠ leader)
  | none => false

/-- The channel leads a launched group (R69, R92). -/
def Channel.leadsLaunched (ch : Channel) (c : Chan) : Bool :=
  match ch.play.group with
  | some m => m.launched && decide (m.leader = c)
  | none => false

/-- A LEADER wait finds no leader: the leader is lost, or is the channel itself (R93). -/
def Channel.noLeader (ch : Channel) (c : Chan) : Bool :=
  match ch.play.group with
  | some m => m.leaderLost || decide (m.leader = c)
  | none => true

/-! ## Stops (R88) -/

/-- Actions 1 to 5 of a stop's completion (R88), with the markers (R111, R112) and the lane (R102). `atExpiry` says that the
stop completes within an expiry whose output still stands. -/
def Ev.stopCore (e : Ev) (c : Chan) (reason : StopReason) (atExpiry : Bool) : Ev :=
  let e1 := e.closeEpisode c
  let e2 :=
    match (e.chan c).play.state, reason, (e1.chan c).headStep with
    | .running, .cut, some ctx => e1.retirePlaying c ctx
    | _, _, _ => e1
  let e3 := e2.mod (·.purge c false)
  let e4 := (e3.setState c .idle .none).modPlay c fun p =>
    { p with pendingStop := .none, lastStop := reason, episode := 0 }
  let e5 := e4.addChanRecord c .channelStopped (e4.chan c).play.stopSlot reason.code 0
  let e6 := if reason = .leaderGone then e5.raiseCond c .leaderGone else e5
  let e7 := e6.mod (·.quietMarkers c)
  let e8 := if reason = .drain ∨ reason = .endStep then e7.mod (·.endOfPlay c) else e7
  e8.mod (·.toIdleLevel c atExpiry)

/-- The followers of a launched leader that entered IDLE or FAULTED set their leader-lost flag; one WAITING for LEADER
stops with LEADER_GONE (R93). `counted` names the followers whose wait the present expiry counted: the lane of such a follower
turns to the idle level at once, within the expiry that had shown its wait level, since its stop is at no boundary; the lane of
one that entered its wait at this expiry's boundary turns at the next (DEDUCED, log 11). Several followers are taken in channel
order, and so are their CHANNEL_STOPPED records (DESIGN CHOICE, log 38). -/
def Ev.loseLeader (e : Ev) (leader : Chan) (inExpiry : Bool) (counted : BitVec 8) : Ev :=
  e.forEach allChans fun e f =>
    if (e.chan f).follows f leader then
      let e1 := e.modPlay f fun p => p.modGroup fun g => { g with leaderLost := true }
      if (e1.chan f).play.state = .waiting ∧ (e1.chan f).play.wait = .leader then
        e1.stopCore f .leaderGone (inExpiry && !inMask counted f)
      else e1
    else e

/-- Action 6 of R88 and R89: an ARMED channel leaves its group; the leader of a launched group is lost to its followers,
within an expiry when every channel has acted at it (log 8). -/
def Ev.groupAfter (e : Ev) (c : Chan) (wasArmed : Bool) : Ev :=
  if wasArmed then e.leaveArmedGroup c
  else if (e.chan c).leadsLaunched c then
    if e.inExpiry then { e with lost := e.lost ||| maskOf c } else e.loseLeader c false 0
  else e

/-- A stop completes (R88). -/
def Ev.stopChannel (e : Ev) (c : Chan) (reason : StopReason) (atExpiry : Bool) : Ev :=
  (e.stopCore c reason atExpiry).groupAfter c (decide ((e.chan c).play.state = .armed))

/-! ## Faults (R89) -/

/-- The condition a fault cause names (R89). -/
def FaultCause.condition : FaultCause → Condition
  | .memoryError => .memoryError
  | _ => .stepInvalid

/-- A channel faults (R89). -/
def Ev.faultChannel (e : Ev) (c : Chan) (cause : FaultCause) : Ev :=
  let slot := (((e.chan c).head).map WindowEntry.slot).getD (e.chan c).play.startSlot
  let e1 := (e.closeEpisode c).mod (·.purge c false)
  let e2 := (e1.setState c .faulted .none).modPlay c fun p =>
    { p with pendingStop := .none, faultCause := cause, episode := 0 }
  let e3 := (e2.addChanRecord c .channelFault slot cause.code cause.subCode).raiseCond c cause.condition
  let e4 := (e3.mod (·.quietMarkers c)).mod (·.showIdle c)
  e4.groupAfter c (decide ((e.chan c).play.state = .armed))

/-! ## Step boundary (R70, R71) -/

/-- The head of the window becomes the playing step before its step start (R69, R71, R73). -/
def Ev.becomePlaying (e : Ev) (c : Chan) : Ev :=
  (e.modPlay c fun p => { p with stepExpiries := 0 }).modLevel c fun l => { l with stepClips := 0 }

/-- A wait for a trigger or the leader begins (R71, R72). -/
def Ev.beginWait (e : Ev) (c : Chan) (w : WaitReason) : Ev :=
  (e.setState c .waiting w).modPlay c fun p => { p with waitCount := 0 }

/-- A DATA wait begins (R71, R76). -/
def Ev.beginData (e : Ev) (c : Chan) (late : Bool) : Ev :=
  (e.setState c .waiting (.data late)).modPlay c fun p => { p with episode := 0 }

/-- FRONTIER is entered (R77); the lane shows the idle level from the next expiry (R102). -/
def Ev.enterFrontier (e : Ev) (c : Chan) : Ev :=
  let e1 := (e.setState c .frontier .none).modPlay c fun p => { p with episode := 0 }
  ((e1.addChanRecord c .frontier (e.chan c).fetch.cursor 0 0).raiseCond c .frontier).mod (·.showIdleNext c)

/-- After retirement a channel goes on according to the head of its window (R71, R86, R93). -/
def Ev.afterRetire (e : Ev) (c : Chan) : Ev :=
  match (e.chan c).head with
  | some (.invalid _ _ sub) => e.faultChannel c (.stepInvalid sub)
  | some (.step ctx) =>
    match ctx.body.entry with
    | some (.trigger k) => (e.closeEpisode c).beginWait c (.trigger k)
    | some .leader =>
      if (e.chan c).noLeader c then e.stopChannel c .leaderGone true
      else (e.closeEpisode c).beginWait c .leader
    | some .immediate => e.becomePlaying c
    | none => e.becomePlaying c
  | none =>
    if (e.chan c).play.pendingStop = .drain then e.stopChannel c .drain true
    else if (e.chan c).fetch.frontier then (e.closeEpisode c).enterFrontier c
    else (e.closeEpisode c).beginData c true

/-- Boundary processing (R70, R85). -/
def Ev.boundary (e : Ev) (c : Chan) (ctx : StepContext) : Ev :=
  let e1 := e.retirePlaying c ctx
  if ctx.body.nextKind = some .endStep then e1.stopChannel c .endStep true
  else if (e1.chan c).play.pendingStop = .stepEnd then e1.stopChannel c .stepEnd true
  else e1.afterRetire c

/-- A pass end (R68): the next pass begins, or the step ends: after the last counted pass, or with its advance taken
(R79). -/
def Ev.endPass (e : Ev) (c : Chan) (ctx : StepContext) : Ev :=
  let p := (e.chan c).play
  let e1 := e.modPlay c fun p => { p with offset := 0 }
  if ctx.body.rep = 0 then
    if p.advanceSeen then e1.boundary c ctx else e1
  else if p.pass < ctx.body.rep then e1.modPlay c fun p => { p with pass := p.pass + 1 }
  else e1.boundary c ctx

/-! ## A RUNNING expiry (R67 to R69, R81) -/

/-- A step start (R69). -/
def Ev.startStep (e : Ev) (c : Chan) (ctx : StepContext) : Ev :=
  let e1 := e.modPlay c fun p =>
    { p with offset := 0, holdCount := 0, stepExpiries := 0, pass := 1, advanceSeen := false, takeMissed := false }
  let e2 := e1.mod (·.takeLevels c ctx.body)
  let e3 := if ctx.body.reportStart then e2.addChanRecord c .stepStart ctx.slot ctx.body.segment 0 else e2
  if (e3.chan c).leadsLaunched c then { e3 with starts := e3.starts ||| maskOf c } else e3

/-- Playout takes the next stream entry (R54): the head of the queue, or one more entry owed. -/
def Ev.takeStream (e : Ev) (c : Chan) : Ev :=
  match (e.chan c).pool.queue with
  | x :: rest =>
    ((e.modPool c fun p => { p with queue := rest }).modPlay c fun p =>
      { p with heldRaw := x, takeMissed := false }).mod (·.feed c)
  | [] =>
    (e.modPool c fun p => { p with deficit := p.deficit + 1 }).modPlay c fun p => { p with takeMissed := true }

/-- Obtains the raw sample of the current offset (R67), and says whether it was obtained. -/
def Ev.obtain (e : Ev) (c : Chan) (ctx : StepContext) : Ev × Bool :=
  let p := (e.chan c).play
  if ctx.resident then
    match (e.chan c).pool.bankRead ctx p.offset with
    | some x => (e.modPlay c fun p => { p with heldRaw := x }, true)
    | none => (e, false)
  else if p.holdCount = 0 then
    let e1 := e.takeStream c
    (e1, !(e1.chan c).play.takeMissed)
  else (e, !p.takeMissed)

/-- A held expiry opens or extends the starvation episode; an obtained sample ends it with its record (R81). -/
def Ev.countStarvation (e : Ev) (c : Chan) (ctx : StepContext) (obtained : Bool) : Ev :=
  let p := (e.chan c).play
  if obtained then
    if 0 < p.episode then e.starved c p.episodeSlot 0 else e
  else e.modPlay c fun p => { p with episode := p.episode + 1, episodeSlot := ctx.slot }

/-- Playout outputs one sample of the playing step (R67). -/
def Ev.outputSample (e : Ev) (c : Chan) (ctx : StepContext) : Ev :=
  let (e1, obtained) := e.obtain c ctx
  let e2 := e1.countStarvation c ctx obtained
  let e3 := e2.mod fun s => s.showSample c s.chans[c].play.heldRaw
  e3.modPlay c fun p => { p with stepExpiries := p.stepExpiries + 1 }

/-- Playout advances its position by one expiry, up to the end of the pass (R68). -/
def Play.advance (p : Play) (ctx : StepContext) : Play :=
  if p.holdCount + 1 < ctx.hold then { p with holdCount := p.holdCount + 1 }
  else { p with holdCount := 0, offset := p.offset + 1 }

/-- An open repeat with Exit CUT ends at this expiry: its advance was taken before it (R80). -/
def Play.cutDue (p : Play) (ctx : StepContext) : Bool :=
  decide (ctx.body.rep = 0) && ctx.body.exitCut && p.advanceSeen

/-- An expiry of a RUNNING channel (R66 to R69, R79, R80). -/
def Ev.runExpiry (e : Ev) (c : Chan) (ctx : StepContext) : Ev :=
  let p := (e.chan c).play
  let e1 :=
    if p.stepExpiries = 0 then e.startStep c ctx
    else if p.offset = 0 ∧ p.holdCount = 0 then e.mod (·.passStartMarkers c)
    else e
  let cut := (e1.chan c).play.cutDue ctx
  let e2 := (e1.outputSample c ctx).modPlay c (·.advance ctx)
  if ctx.wEff ≤ (e2.chan c).play.offset then e2.endPass c ctx
  else if cut then e2.boundary c ctx
  else e2

/-! ## Waits (R72 to R77) -/

/-- The waiting step's wait is over: it becomes the playing step and the paused reader resumes (R34, R73). -/
def Ev.takeEntry (e : Ev) (c : Chan) (ctx : StepContext) : Ev :=
  ((((e.setState c .running .none).modPlay c fun p => { p with waitCount := 0 }).becomePlaying c).mod
    (·.resumeReader c ctx))

/-- The timeout of a decision step (R35, R74, R86). A DRAIN that completes here is at no boundary, and its expiry has shown the wait
level: the lane turns to the idle level, and the marker lines take an END_OF_PLAY latch, at the next expiry (DEDUCED, log 11). -/
def Ev.timeOut (e : Ev) (c : Chan) (ctx : StepContext) : Ev :=
  let e1 := e.retireStep c ctx
  let e2 := (e1.addChanRecord c .waitTimeout ctx.slot ctx.body.branchTarget 0).raiseCond c .timeout
  let e3 := (e2.mod (·.quietMarkers c)).mod (·.purge c true)
  let e4 := (e3.modFetch c fun f => { f with cursor := ctx.body.branchTarget }).mod (·.readSlot c false)
  if (e4.chan c).play.pendingStop = .drain then e4.stopChannel c .drain true
  else e4.beginData c false

/-- The wait of a decision step has reached its Wait Timeout (R72). -/
def Play.timeoutDue (p : Play) (ctx : StepContext) : Bool :=
  ctx.decision && decide (p.waitCount = ctx.body.waitTimeout)

/-- An expiry of a trigger or leader wait (R72). -/
def Ev.waitExpiry (e : Ev) (c : Chan) (ctx : StepContext) : Ev :=
  let e1 := (e.mod (·.showWait c ctx.body.waitIdle)).modPlay c fun p => { p with waitCount := wrap32 (p.waitCount + 1) }
  if (e1.chan c).play.timeoutDue ctx then e1.timeOut c ctx
  else if (e1.chan c).play.wait = .leader then { e1 with counted := e1.counted ||| maskOf c }
  else e1

/-- A DATA wait or FRONTIER stay goes on (R75). -/
def Ev.stay (e : Ev) (c : Chan) : Ev :=
  let e1 := e.modPlay c fun p => { p with episode := p.episode + 1 }
  if (e.chan c).play.state = .frontier then e1.mod (·.showIdle c) else e1.mod (·.showRepeat c)

/-- The record of a DATA wait or FRONTIER stay that data ends (R76, R77). The late mark is then spent. -/
def Ev.endStay (e : Ev) (c : Chan) (ctx : StepContext) : Ev :=
  let p := (e.chan c).play
  let e1 :=
    match p.state, p.wait with
    | .frontier, _ => e.addChanRecord c .frontierLeft ctx.slot p.episode 0
    | _, .data true => (e.starved c ctx.slot 1).modPlay c fun p => { p with wait := .data false }
    | _, _ => e
  e1.modPlay c fun p => { p with episode := 0 }

/-- A step whose data is present ends the wait or stay: its Entry is evaluated at the same expiry (R75, R93). A LEADER_GONE stop
made here shows the idle level at this expiry, which has shown nothing yet (DEDUCED, log 11). -/
def Ev.leaveStay (e : Ev) (c : Chan) (ctx : StepContext) : Ev :=
  let e1 := e.endStay c ctx
  match ctx.body.entry with
  | some (.trigger k) => (e1.beginWait c (.trigger k)).waitExpiry c ctx
  | some .leader =>
    if (e1.chan c).noLeader c then e1.stopChannel c .leaderGone false
    else (e1.beginWait c .leader).waitExpiry c ctx
  | some .immediate => ((e1.setState c .running .none).becomePlaying c).runExpiry c ctx
  | none => ((e1.setState c .running .none).becomePlaying c).runExpiry c ctx

/-- An expiry of a DATA wait or FRONTIER stay (R75). -/
def Ev.lookExpiry (e : Ev) (c : Chan) : Ev :=
  match (e.chan c).head with
  | none => e.stay c
  | some (.invalid _ _ sub) => e.faultChannel c (.stepInvalid sub)
  | some (.step ctx) => if (e.chan c).dataPresent ctx then e.leaveStay c ctx else e.stay c

/-- What one channel does at an expiry of its generator, its group not launching (R66, R102). The code its lane then
shows is that of the expiry (R103, log 12). -/
def Ev.channelExpiry (e : Ev) (c : Chan) : Ev :=
  let ch := e.chan c
  let e1 :=
    match ch.play.state, ch.play.wait, ch.headStep with
    | .running, _, some ctx => e.runExpiry c ctx
    | .running, _, none => e
    | .waiting, .data _, _ => e.lookExpiry c
    | .waiting, _, some ctx => e.waitExpiry c ctx
    | .waiting, _, none => e
    | .frontier, _, _ => e.lookExpiry c
    | .armed, _, _ => e.mod (·.showIdle c)
    | .idle, _, _ => if ch.level.idleDue then e.mod (·.showIdle c) else e
    | .faulted, _, _ => if ch.level.idleDue then e.mod (·.showIdle c) else e
    | .mirroring, _, _ => e
  e1.modLevel c fun l => { l with expiryCode := l.lane }

/-! ## Launch (R91, R92) -/

/-- A member is ready (R60). -/
def State.memberReady (s : State) (c : Chan) : Bool :=
  match s.chans[c].headStep with
  | some ctx => firstStepReady (s.settings c) s.chans[c] ctx
  | none => false

/-- Every member still in the group is ready (R91, R143). -/
def State.groupReady (s : State) (m : Membership) : Bool := (members m.mask).all s.memberReady

/-- The channel is ARMED and leads its group (R142). -/
def Channel.armedLeader (ch : Channel) (c : Chan) : Option Membership :=
  match ch.play.state, ch.play.group with
  | .armed, some m => if m.leader = c then some m else none
  | _, _ => none

/-- The launch condition of an ARMED group holds (R91). -/
def State.launchDue (s : State) (c : Chan) : Bool :=
  match s.chans[c].armedLeader c with
  | some m => s.groupReady m && (decide (m.condition = .immediate) || m.latch)
  | none => false

/-- One member at its launch expiry (R34, R92, R111). -/
def Ev.launchMember (e : Ev) (c : Chan) : Ev :=
  match (e.chan c).headStep with
  | some ctx =>
    let e1 := ((e.mod (·.clearLatches c)).setState c .running .none).becomePlaying c
    ((e1.mod (·.resumeReader c ctx)).runExpiry c ctx).modLevel c fun l => { l with expiryCode := l.lane }
  | none => e

/-- The group of a leader launches (R92, R145): counts to 0, launched flags set, the LAUNCH record, then each member's step
start in channel order. -/
def Ev.launchGroup (e : Ev) (leader : Chan) : Ev :=
  match (e.chan leader).play.group with
  | none => e
  | some m =>
    let e1 := e.forEach (members m.mask) fun e c =>
      e.modPlay c fun p => { p.modGroup (fun g => { g with launched := true }) with sampleCount := 0 }
    let e2 := e1.addChanRecord leader .launch (e.chan leader).play.startSlot m.mask.toNat m.generator.val
    e2.forEach (members m.mask) Ev.launchMember

/-! ## Leader step starts (R73, R78) -/

/-- The playing step is an open repeat that attends its Advance source: it has started (R78). -/
def Channel.attendsAdvance (ch : Channel) (a : Advance) : Bool :=
  match ch.play.state, ch.headStep with
  | .running, some ctx =>
    decide (ctx.body.rep = 0) && decide (ctx.body.advance = some a) && decide (0 < ch.play.stepExpiries)
  | _, _ => false

/-- A leader step start made at this expiry is offered to the followers: one whose LEADER wait counted this expiry takes
it (R73); an open repeat advanced by LEADER takes it if it had output a sample at an earlier expiry (R78). -/
def Ev.offerLeaderStart (e : Ev) (leader : Chan) (counted : BitVec 8) : Ev :=
  e.forEach allChans fun e f =>
    let ch := e.chan f
    if ch.follows f leader then
      if ch.play.state = .waiting ∧ ch.play.wait = .leader ∧ inMask counted f then
        match ch.headStep with
        | some ctx => e.takeEntry f ctx
        | none => e
      else if ch.attendsAdvance .leader ∧ 2 ≤ ch.play.stepExpiries then
        e.modPlay f fun p => { p with advanceSeen := true }
      else e
    else e

/-! ## Stop orders reaching a channel (R83) -/

/-- The stop modes (R83). -/
inductive StopMode where
  | cut | stepEnd | drain
  deriving DecidableEq, Repr

/-- The reason of a stop made at once by a mode (R83). -/
def StopMode.reason : StopMode → StopReason
  | .cut => .cut
  | .stepEnd => .stepEnd
  | .drain => .drain

/-- A mode that must wait becomes pending unless an equal or harsher one is (R83). -/
def PendingStop.join (p : PendingStop) (m : StopMode) : PendingStop :=
  match m, p with
  | .stepEnd, _ => .stepEnd
  | .drain, .none => .drain
  | .drain, p => p
  | .cut, p => p

/-- A stop reaches a channel (R83, R87). -/
def Ev.stopReaches (e : Ev) (mode : StopMode) (c : Chan) : Ev :=
  let p := (e.chan c).play
  let pend := e.modPlay c fun p => { p with pendingStop := p.pendingStop.join mode }
  match p.state, p.wait, mode with
  | .idle, _, _ => e
  | .faulted, _, _ => e
  | .mirroring, _, _ => e
  | .armed, _, _ => e.stopChannel c .cut false
  | .running, _, .cut => e.stopChannel c .cut false
  | .running, _, _ => pend
  | .waiting, .data _, _ => e.stopChannel c mode.reason false
  | .waiting, _, .drain => pend
  | .waiting, _, _ => e.stopChannel c mode.reason false
  | .frontier, _, _ => e.stopChannel c mode.reason false

end Sys2Proof.Machine
end

