-- ==== Sys2Proof/Machine/Trigger.lean ====
section
/-! DEFINITION. The Trigger Unit (chapter 6): qualification, delays, capture, delivery to the channels, and the commands
STRIKE, QUALIFIED_EDGE, TRIGGER_EVENT and TRIGGER_SAMPLE. -/

namespace Sys2Proof.Machine

open Sys2Proof

/-- A change of the stable level to `level` matches the edge mode (R123). -/
def EdgeMode.takes (m : EdgeMode) (level : Bool) : Bool :=
  match m with
  | .rising => level
  | .falling => !level
  | .both => true

/-- A channel attends a line (R125, R129). -/
def Channel.attendsLine (ch : Channel) (k : LineIx) : Bool :=
  match ch.play.state, ch.play.wait, ch.play.group with
  | .waiting, .trigger j, _ => decide (j = k)
  | .running, _, _ => ch.attendsAdvance (.trigger k)
  | .armed, _, some m => decide (m.condition = .trigger k)
  | _, _, _ => false

/-- A trigger event reaches an ARMED group (R143): the launch latch, or EARLY_TRIGGER from each member not ready. -/
def Ev.groupTrigger (e : Ev) (m : Membership) (k : LineIx) : Ev :=
  if e.st.groupReady m then
    e.forEach (members m.mask) fun e d => e.modPlay d fun p => p.modGroup fun g => { g with latch := true }
  else
    e.forEach (members m.mask) fun e d =>
      if e.st.memberReady d then e
      else (e.addChanRecord d .earlyTrigger (e.chan d).play.startSlot k.val 0).raiseCond d .earlyTrigger

/-- A trigger event is offered to one channel (R129). An ARMED group takes it once, with its leader (R143): of two groups that are
not ready, each raises its EARLY_TRIGGER records whole at its leader's turn (DESIGN CHOICE, log 42). -/
def Ev.offerTrigger (k : LineIx) (e : Ev) (c : Chan) : Ev :=
  let ch := e.chan c
  match ch.play.state, ch.play.wait, ch.headStep, ch.armedLeader c with
  | .waiting, .trigger j, some ctx, _ => if j = k then e.takeEntry c ctx else e
  | .running, _, _, _ =>
    if ch.attendsAdvance (.trigger k) then e.modPlay c fun p => { p with advanceSeen := true } else e
  | .armed, _, _, some m => if m.condition = .trigger k then e.groupTrigger m k else e
  | _, _, _, _ => e

/-- The capture record of a delivery; the ignored-edge count is then set to 0 (R128). -/
def Ev.capture (e : Ev) (k : LineIx) : Ev :=
  let l := e.st.trig.lines[k]
  if l.capture then
    (e.addRecord
      { kind := .triggerCapture, source := .line k, slot := 0, conditions := 0, time := l.edgeTime
        detailA := l.delayApplied, detailB := l.ignored }).mod fun s => s.modLine k fun l => { l with ignored := 0 }
  else e

/-- A line delivers a trigger event (R124, R128, R129). -/
def State.deliver (s : State) (k : LineIx) : State :=
  s.event fun e => (e.capture k).forEach allChans (Ev.offerTrigger k)

/-- A qualified edge reaches a line (R124, R125): it starts a delay, delivers at once, or is ignored. -/
def State.edge (s : State) (k : LineIx) : State :=
  let l := s.trig.lines[k]
  if l.delaying then
    (allChans.filter fun c => s.chans[c].attendsLine k).foldl (fun s c => s.raiseCond c .edgeIgnored)
      (s.modLine k fun l => { l with ignored := min 4294967295 (l.ignored + 1) })
  else
    let s1 := s.modLine k fun l => { l with edgeTime := s.trig.refTime, delayApplied := l.delay }
    if l.delay = 0 then s1.deliver k
    else s1.modLine k fun l => { l with delaying := true, delayCount := l.delay }

/-- The compared level has agreed Q times: the stable level changes, and a change that matches the edge mode is a
qualified edge (R122, R123). -/
def State.acceptLevel (s : State) (k : LineIx) : State :=
  let level := !s.trig.lines[k].stable
  let s1 := s.modLine k fun l => { l with stable := level, agreement := 0 }
  if s.trig.lines[k].mode.takes level then s1.edge k else s1

/-- A delay has run out: the line returns to IDLE and delivers (R124). -/
def State.delayEnds (s : State) (k : LineIx) : State := (s.modLine k fun l => { l with delaying := false }).deliver k

/-- A DELAYING line counts down at a trigger sample (R124). -/
def State.countDelay (s : State) (k : LineIx) : State :=
  if s.trig.lines[k].delaying then
    let s1 := s.modLine k fun l => { l with delayCount := l.delayCount - 1 }
    if s1.trig.lines[k].delayCount = 0 then s1.delayEnds k else s1
  else s

/-- The qualification at a trigger sample (R122): the level registered last is compared, the pin is registered. -/
def State.qualify (s : State) (pin : Bool) (k : LineIx) : State :=
  let l := s.trig.lines[k]
  if l.registered = l.stable then s.modLine k fun l => { l with registered := pin, agreement := 0 }
  else
    let s1 := s.modLine k fun l => { l with registered := pin, agreement := l.agreement + 1 }
    if l.qualifier ≤ l.agreement + 1 then s1.acceptLevel k else s1

/-- The first trigger sample after GO takes the pin's level as registered and stable and compares nothing (R122). -/
def State.firstLevel (s : State) (pin : Bool) (k : LineIx) : State :=
  s.modLine k fun l => { l with registered := pin, stable := pin, agreement := 0 }

/-- One line at a trigger sample: the delay first, then the qualification (R124). -/
def State.sampleLine (s : State) (pin : Bool) (k : LineIx) : State :=
  let s1 := s.countDelay k
  if s1.trig.firstDue then s1.firstLevel pin k else s1.qualify pin k

/-- A trigger sample with the pins' present levels (R120, R122, R124). The lines are handled in line order, each one's delay,
delivery and qualification made whole before the next (DESIGN CHOICE, log 36). -/
def State.sample (s : State) (levels : BitVec 4) : State :=
  if s.online then
    let s1 := { s with
      trig := { s.trig with refTime := wrap48 (s.trig.refTime + 1) }, refPhase := 0, pins := levels }
    let s2 := allLines.foldl (fun s k => s.sampleLine (levels.getLsbD k.val) k) s1
    { s2 with trig := { s2.trig with firstDue := false } }
  else s

/-- STRIKE (R126): each named line takes a qualified edge at the write, while ONLINE. The lines are taken in line order, and
each delivery is an event of its own (DESIGN CHOICE, log 36). -/
def execStrike (value : BitVec 32) (s : State) : Host.Outcome State Fault Refusal :=
  .next (if s.online then (allLines.filter fun k => value.getLsbD k.val).foldl State.edge s else s)

/-- QUALIFIED_EDGE (R123) as an event of its own: acts when the line's agreement count has reached Q (log 6). -/
def execQualifiedEdge (k : LineIx) (s : State) : Host.Outcome State Fault Refusal :=
  .next (if s.online ∧ s.trig.lines[k].qualifier ≤ s.trig.lines[k].agreement then s.acceptLevel k else s)

/-- TRIGGER_EVENT (R124) as an event of its own: acts when a DELAYING line's delay count has reached 0 (log 6). -/
def execTriggerEvent (k : LineIx) (s : State) : Host.Outcome State Fault Refusal :=
  .next (if s.online ∧ s.trig.lines[k].delaying ∧ s.trig.lines[k].delayCount = 0 then s.delayEnds k else s)

/-- TRIGGER_SAMPLE (R120). -/
def execTriggerSample (levels : BitVec 4) (s : State) : Host.Outcome State Fault Refusal := .next (s.sample levels)

end Sys2Proof.Machine
end

