-- ==== Sys2Proof/Machine/Rate.lean ====
section
/-! DEFINITION. The Rate Unit (chapter 6): a generator's expiry and what the attached channels do at it, the events inside
an expiry as commands of their own, and the passing of a reference period. -/

namespace Sys2Proof.Machine

open Sys2Proof

/-- A channel in ARMED, RUNNING, WAITING or FRONTIER counts expiries (R38, R66). -/
def ChannelState.counts : ChannelState → Bool
  | .armed => true
  | .running => true
  | .waiting => true
  | .frontier => true
  | .idle => false
  | .faulted => false
  | .mirroring => false

/-- The frontier poll is due: AT_FRONTIER in a counting channel, polling on, the count at its value (R38). -/
def State.pollDue (s : State) (c : Chan) : Bool :=
  let v := frontierPollValue (s.settings c).frontierPoll
  decide (s.chans[c].fetch.reader = .atFrontier) && s.chans[c].play.state.counts && decide (0 < v)
    && decide (v ≤ s.chans[c].fetch.poll)

/-- The frontier poll count at an expiry (R38). -/
def State.pollExpiry (s : State) (c : Chan) : State :=
  if s.chans[c].fetch.reader = .atFrontier ∧ 0 < frontierPollValue (s.settings c).frontierPoll then
    let s1 := s.modFetch c fun f => { f with poll := f.poll + 1 }
    if s1.pollDue c then s1.reread c else s1
  else s

/-- An expiry is counted by a channel: its channel sample count (R66) and its frontier poll (R38). -/
def State.countExpiry (s : State) (c : Chan) : State :=
  if s.chans[c].play.state.counts then
    (s.modPlay c fun p => { p with sampleCount := wrap48 (p.sampleCount + 1) }).pollExpiry c
  else s

/-- An expiry in progress: the state, the leaders that made a step start, the followers whose leader wait counted it, and
the leaders lost at it (log 8). -/
structure ExpiryRun where
  st : State
  starts : BitVec 8
  counted : BitVec 8
  lost : BitVec 8

/-- One event within an expiry. -/
def ExpiryRun.event (r : ExpiryRun) (f : Ev → Ev) : ExpiryRun :=
  let e := f (Ev.of r.st true)
  { st := e.finish, starts := r.starts ||| e.starts, counted := r.counted ||| e.counted, lost := r.lost ||| e.lost }

/-- The channels attached to a generator, in channel order (R114). -/
def State.attached (s : State) (g : GenIx) : List Chan := allChans.filter fun c => decide (s.chans[c].play.generator = g)

/-- The leaders among `l` whose groups launch at this expiry (R91). -/
def State.launching (s : State) (l : List Chan) : List Chan := l.filter s.launchDue

/-- The channel is a member of a group that launches at this expiry. -/
def State.launches (s : State) (leaders : List Chan) (c : Chan) : Bool :=
  leaders.any fun d =>
    match s.chans[d].play.group with
    | some m => inMask m.mask c
    | none => false

/-- A generator's expiry reaches its attached channels (R66, R115): they count it, groups launch, the others act by their
state, leader step starts are taken, lost leaders are told (log 8). The LEADER_GONE stops of one lost leader's followers are an event
of their own, so its status block is written before their records are handed over (DESIGN CHOICE, log 8). -/
def State.expireChannels (s : State) (g : GenIx) : State :=
  let att := s.attached g
  let s1 := att.foldl State.countExpiry s
  let leaders := s1.launching att
  let others := att.filter fun c => !s1.launches leaders c
  let r0 : ExpiryRun := ⟨s1, 0, 0, 0⟩
  let r1 := leaders.foldl (fun r d => r.event fun e => e.launchGroup d) r0
  let r2 := others.foldl (fun r c => r.event fun e => e.channelExpiry c) r1
  let s3 := (members r2.starts).foldl (fun s d => s.event fun e => e.offerLeaderStart d r2.counted) r2.st
  (members r2.lost).foldl (fun s d => s.event fun e => e.loseLeader d true r2.counted) s3

/-- A generator's countdown has reached 0 (R115): a pending divisor becomes the divisor and the countdown is loaded. -/
def Gen.reload (g : Gen) : Gen :=
  let d := g.pending.getD g.divisor
  { g with divisor := d, pending := none, countdown := d }

/-- An expiry of a RUNNING generator (R115). -/
def State.expire (s : State) (g : GenIx) : State :=
  if s.gens[g].running then (s.modGen g Gen.reload).expireChannels g else s

/-! ## The passing of a reference period (log 3) -/

/-- What falls in one reference period: a generator's expiry, or a trigger sample. -/
inductive TickEvent where
  | expiry (g : GenIx)
  | sample
  deriving DecidableEq, Repr

/-- The countdown of a RUNNING generator falls by 1 (R115). -/
def Gen.countDown (g : Gen) : Gen := if g.running then { g with countdown := g.countdown - 1 } else g

/-- The events due after a reference period has passed (R115, R120). -/
def State.tickDue (s : State) : List TickEvent :=
  ((allGens.filter fun g => s.gens[g].running && decide (s.gens[g].countdown = 0)).map TickEvent.expiry)
    ++ (if s.online ∧ 8 ≤ s.refPhase then [TickEvent.sample] else [])

/-- One event of a reference period is taken. -/
def State.takeTick (s : State) : TickEvent → State
  | .expiry g => s.expire g
  | .sample => s.sample s.pins

/-- The events of one reference period are taken one after another, a free value choosing which comes next (log 4). -/
def State.takeTicks : Nat → List TickEvent → State → State
  | 0, _, s => s
  | _ + 1, [], s => s
  | _ + 1, [t], s => s.takeTick t
  | n + 1, t :: u :: rest, s =>
    let due := t :: u :: rest
    let next := due.getD (Config.tickChoice s.freeCount % due.length) t
    State.takeTicks n (due.erase next) (State.takeTick { s with freeCount := s.freeCount + 1 } next)

/-- One reference period passes (R115, R120; log 3). -/
def State.tick (s : State) : State :=
  let s1 := { s with
    gens := vec4 fun g => s.gens[g].countDown
    refPhase := if s.refPhase < 8 then s.refPhase + 1 else 1 }
  State.takeTicks s1.tickDue.length s1.tickDue s1

/-! ## Commands -/

/-- EXPIRY (R115): the countdown of a RUNNING generator has reached 0; a STOPPED generator makes no expiry (R118). -/
def execExpiry (g : GenIx) (s : State) : Host.Outcome State Fault Refusal := .next (s.expire g)

/-- The playing step has started and its offset has reached W_eff (R68, R69): before its start the offset is that of the step
before. -/
def Play.passOver (p : Play) (ctx : StepContext) : Bool := decide (0 < p.stepExpiries) && decide (ctx.wEff ≤ p.offset)

/-- PASS_END (R68) as an event of its own: acts when the offset of a RUNNING channel's started step has reached W_eff
(log 6). -/
def execPassEnd (c : Chan) (s : State) : Host.Outcome State Fault Refusal :=
  .next
    (match s.chans[c].play.state, s.chans[c].headStep with
     | .running, some ctx => if s.chans[c].play.passOver ctx then s.event fun e => e.endPass c ctx else s
     | _, _ => s)

/-- The playing step has output its last sample: the pass is over, and it is the last counted one or the advance of the open
repeat has been taken (R68, R79). An open repeat with Exit CUT that is cut within a pass outputs its last sample at the expiry
after the advance, and only that expiry ends it (R80; log 6). -/
def Play.stepOver (p : Play) (ctx : StepContext) : Bool :=
  p.passOver ctx && (if ctx.body.rep = 0 then p.advanceSeen else decide (ctx.body.rep ≤ p.pass))

/-- STEP_BOUNDARY (R70) as an event of its own: acts when a RUNNING channel's playing step is over (log 6). -/
def execStepBoundary (c : Chan) (s : State) : Host.Outcome State Fault Refusal :=
  .next
    (match s.chans[c].play.state, s.chans[c].headStep with
     | .running, some ctx => if s.chans[c].play.stepOver ctx then s.event fun e => e.boundary c ctx else s
     | _, _ => s)

/-- The channel waits for a trigger or its leader. -/
def Play.inEntryWait (p : Play) : Bool :=
  match p.state, p.wait with
  | .waiting, .trigger _ => true
  | .waiting, .leader => true
  | _, _ => false

/-- WAIT_TIMEOUT (R74) as an event of its own: acts when the wait count of a waiting decision step has reached its Wait
Timeout (log 6). -/
def execWaitTimeout (c : Chan) (s : State) : Host.Outcome State Fault Refusal :=
  .next
    (match s.chans[c].headStep with
     | some ctx =>
       if s.chans[c].play.inEntryWait ∧ s.chans[c].play.timeoutDue ctx then s.event fun e => e.timeOut c ctx else s
     | none => s)

/-- FRONTIER_POLL (R38) as an event of its own: acts when the frontier poll count has reached its value (log 6). -/
def execFrontierPoll (c : Chan) (s : State) : Host.Outcome State Fault Refusal :=
  .next (if s.pollDue c then s.reread c else s)

/-- Changes one marker of a channel. -/
def State.modMarker (s : State) (c : Chan) (m : MarkIx) (f : OneShot → OneShot) : State :=
  s.modLevel c fun l => { l with markers := l.markers.set m (f l.markers[m]) }

/-- MARKER_DELAY_ELAPSED (R109) as an event of its own: acts when a DELAYING one-shot's delay count is 0 (log 6). -/
def execMarkerDelayElapsed (c : Chan) (m : MarkIx) (s : State) : Host.Outcome State Fault Refusal :=
  let o := s.chans[c].level.markers[m]
  .next (if o.phase = .delaying ∧ o.delayCount = 0 then s.modMarker c m OneShot.delayElapsed else s)

/-- MARKER_WIDTH_ELAPSED (R109) as an event of its own: acts when a PULSING one-shot's width count is 0 (log 6). -/
def execMarkerWidthElapsed (c : Chan) (m : MarkIx) (s : State) : Host.Outcome State Fault Refusal :=
  let o := s.chans[c].level.markers[m]
  .next (if o.phase = .pulsing ∧ o.widthCount = 0 then s.modMarker c m OneShot.widthElapsed else s)

end Sys2Proof.Machine
end

