-- ==== Sys2Proof/Machine/Orders.lean ====
section
/-! DEFINITION. The Order Unit (chapter 7): its slot reads, what each order kind does, how an order is closed, and the
order rows of the table as commands. -/

namespace Sys2Proof.Machine

open Sys2Proof

/-! ## The unit (R131 to R136) -/

/-- The address of an offset within the order slot under the next index (R131). -/
def State.orderAddr (s : State) (offset : Nat) : Nat := s.pageAddr (0x800 + 64 * s.orders.next.val + offset)

/-- The unit raises the read of the slot under the next index, clears the recheck latch and enters READING (R133). -/
def State.readOrderSlot (s : State) : State :=
  State.raiseRead (s.modOrders fun o => { o with state := .reading, recheck := false })
    .orderSlotRead (s.orderAddr 0) 64

/-- A nudge of the order area (R133). -/
def State.nudgeOrders (s : State) : State :=
  if s.orders.state = .standby then s.readOrderSlot else s.modOrders fun o => { o with recheck := true }

/-- The result of the order in hand is decided: the unit enters CLOSING and raises the result write (R135). -/
def State.closeOrder (s : State) (r : OrderResult) : State :=
  State.raiseWrite (s.modOrders fun o => { o with state := .closing, result := some r })
    .orderResult (s.orderAddr 8) (resultWordBytes r)

/-- The OK result, with detail none (R136). -/
def OrderResult.done : OrderResult := ⟨.ok, none, none⟩

/-- INVALID, naming a field (R136). -/
def OrderResult.badField (field : Nat) : OrderResult := ⟨.invalid, none, some field⟩

/-- INVALID, naming a channel and its field (R136). -/
def OrderResult.badChannelField (c : Chan) (field : Nat) : OrderResult := ⟨.invalid, some c, some field⟩

/-- A refusal that names a channel (R136). -/
def OrderResult.byChannel (code : ResultCode) (c : Chan) : OrderResult := ⟨code, some c, none⟩

/-- A byte that names a channel (11.6). -/
def chanOfByte (b : Byte) : Option Chan := if b.toNat ≤ 7 then some (Fin.ofNat 8 b.toNat) else none

/-- A byte that names a rate generator or a trigger line (11.6). -/
def quarterOfByte (b : Byte) : Option (Fin 4) := if b.toNat ≤ 3 then some (Fin.ofNat 4 b.toNat) else none

/-- A channel is ARMED, RUNNING, WAITING or FRONTIER (R137, R140, R150). -/
def State.busyChannel (s : State) (c : Chan) : Bool := s.chans[c].play.state.counts

/-! ## CONFIGURE (R137, R138) -/

/-- CONFIGURE on execution: BUSY, or the Configuration Record read (R137). -/
def State.runConfigure (s : State) : State :=
  match allChans.find? s.busyChannel with
  | some c => s.closeOrder (.byChannel .busy c)
  | none => s.raiseRead .configReadOrder (s.pageAddr 0) 256

/-- An accepted CONFIGURE takes in all but the report ring's base and capacity (R138). -/
def State.takeConfigure (s : State) (r : ConfigRecord) : State :=
  s.modEngine fun e => { e with config := some { configOf r with ringBase := s.ring.1, ringCap := s.ring.2 } }

/-! ## START (R139 to R142) -/

/-- The start condition byte (11.6). -/
def startConditionOf (b : Byte) : Option StartCondition :=
  match b.toNat % 4 with
  | 0 => some .immediate
  | 1 => some (.trigger (Fin.ofNat 4 (b.toNat / 16)))
  | _ => none

/-- Checks 3 and 4 of R139 for one member. -/
def State.memberField (s : State) (generators : Vector Byte 8) (slots : Vector (BitVec 16) 8) (c : Chan) :
    Option OrderResult :=
  if 3 < generators[c].toNat then some (.badChannelField c (0x18 + c.val))
  else if 0 < (s.settings c).allotment ∧ (s.settings c).listSize ≤ slots[c].toNat then
    some (.badChannelField c (0x20 + 2 * c.val))
  else none

/-- The tests of R140 for one member, whose group takes the generator byte `first`. -/
def State.memberRefusal (s : State) (generators : Vector Byte 8) (first : Byte) (c : Chan) : Option OrderResult :=
  if s.chans[c].play.state = .mirroring ∨ s.mirrorsOf c ≠ [] then some (.byChannel .mode c)
  else if s.busyChannel c then some (.byChannel .busy c)
  else if (s.settings c).allotment = 0 then some (.byChannel .noPool c)
  else if generators[c] ≠ first then some (.byChannel .rateMismatch c)
  else none

/-- One member is armed: attached, ARMED with count 0 and its membership, its fetch started (R90, R141, R142). -/
def Ev.armMember (m : Membership) (slots : Vector (BitVec 16) 8) (e : Ev) (c : Chan) : Ev :=
  let e1 := (e.setState c .armed .none).modPlay c fun p =>
    { p with
      sampleCount := 0
      group := some m
      faultCause := .none
      generator := m.generator
      startSlot := slots[c].toNat
      lastRetired := none }
  (e1.mod (·.showIdle c)).mod (·.startFetch c slots[c].toNat)

/-- The membership a START gives each member (R142). -/
def membershipOf (mask : BitVec 8) (leader : Chan) (condition : StartCondition) (generator : GenIx) : Membership where
  mask
  leader
  condition
  generator
  latch := false
  launched := false
  leaderLost := false

/-- START on execution (R139 to R141). -/
def State.runStart (s : State) (mask condition : Byte) (generators : Vector Byte 8) (slots : Vector (BitVec 16) 8) :
    State :=
  match lowest mask, startConditionOf condition with
  | none, _ => s.closeOrder (.badField 0x10)
  | some _, none => s.closeOrder (.badField 0x11)
  | some leader, some cond =>
    match (members mask).findSome? (s.memberField generators slots) with
    | some r => s.closeOrder r
    | none =>
      match (members mask).findSome? (s.memberRefusal generators generators[leader]) with
      | some r => s.closeOrder r
      | none =>
        let m := membershipOf mask leader cond (Fin.ofNat 4 generators[leader].toNat)
        (s.event fun e => e.forEach (members mask) (Ev.armMember m slots)).closeOrder .done

/-! ## STOP (R146) -/

/-- The mode byte of a STOP (11.6). -/
def stopModeOf (b : Byte) : Option StopMode :=
  match b.toNat with
  | 0 => some .cut
  | 1 => some .stepEnd
  | 2 => some .drain
  | _ => none

/-- STOP on execution (R146). -/
def State.runStop (s : State) (mask mode : Byte) : State :=
  match stopModeOf mode with
  | none => s.closeOrder (.badField 0x11)
  | some m => (s.event fun e => e.forEach (members mask) fun e c => e.stopReaches m c).closeOrder .done

/-! ## SET_RATE (R116, R147) -/

/-- The actions of SET_RATE (11.6). -/
inductive RateAction where
  | run | stop | keep
  deriving DecidableEq, Repr

/-- The action byte of a SET_RATE (11.6). -/
def rateActionOf (b : Byte) : Option RateAction :=
  match b.toNat with
  | 0 => some .run
  | 1 => some .stop
  | 2 => some .keep
  | _ => none

/-- What a SET_RATE does to its generator (R116); `d` is the divisor after the clamp. -/
def Gen.setRate (g : Gen) (a : RateAction) (d : Nat) : Gen :=
  match g.running, a with
  | false, .run => { g with divisor := d, running := true, countdown := d }
  | false, _ => { g with divisor := d }
  | true, .stop => { running := false, divisor := d, pending := none, countdown := 0 }
  | true, _ => { g with pending := some d }

/-- SET_RATE on execution (R147). -/
def State.runSetRate (s : State) (generator action : Byte) (divisor : BitVec 16) : State :=
  match quarterOfByte generator, rateActionOf action with
  | none, _ => s.closeOrder (.badField 0x10)
  | some _, none => s.closeOrder (.badField 0x11)
  | some g, some a => (s.modGen g fun x => x.setRate a (clampDivisor divisor.toNat)).closeOrder .done

/-! ## SET_LEVELS (R148) -/

/-- SET_LEVELS on execution (R101, R148). -/
def State.runSetLevels (s : State) (mask flags : Byte) (gain offset idle : BitVec 16) : State :=
  ((members mask).foldl (fun s c => s.setLevels flags.toNat gain.toInt offset.toInt idle.toInt c) s).closeOrder .done

/-! ## TRIGGER_SETUP (R127, R149) -/

/-- The edge mode byte (11.6). -/
def edgeModeOf (b : Byte) : Option EdgeMode :=
  match b.toNat with
  | 0 => some .rising
  | 1 => some .falling
  | 2 => some .both
  | _ => none

/-- What a TRIGGER_SETUP does to its line (R127). The delay count of an abandoned delay stays as it stood: no rule clears it, and
an IDLE line's count shows in the Engine Snapshot only (DEDUCED, log 35). -/
def TrigLine.setup (l : TrigLine) (mode : EdgeMode) (qualifier delay : Nat) (capture : Bool) : TrigLine :=
  { l with mode, qualifier, delay, capture, agreement := 0, delaying := false }

/-- TRIGGER_SETUP on execution (R149). -/
def State.runTriggerSetup (s : State) (line mode qualifier capture : Byte) (delay : BitVec 32) : State :=
  match quarterOfByte line, edgeModeOf mode with
  | none, _ => s.closeOrder (.badField 0x10)
  | some _, none => s.closeOrder (.badField 0x11)
  | some k, some m =>
    State.closeOrder
      (s.modLine k fun l => l.setup m (clampQualifier qualifier.toNat) (delay.toNat % 16777216) (bitOf capture.toNat 0))
      .done

/-! ## MIRROR_SETUP (R104, R107, R150) -/

/-- A source byte: a channel, NONE, or an undefined code (11.6). -/
def mirrorSourceOf (b : Byte) : Option (Option Chan) :=
  if b = 0xFF then some none else (chanOfByte b).map some

/-- A mirror leaves the mode for IDLE (R107). -/
def Ev.leaveMirror (e : Ev) (c : Chan) : Ev := (e.setState c .idle .none).mod (·.endMirror c)

/-- A channel enters MIRRORING, or stays in it with the new setup (R104, R150). -/
def Ev.enterMirror (e : Ev) (c source : Chan) (gain offset : Int) (copy : Bool) : Ev :=
  let e1 := if (e.chan c).play.state = .mirroring then e else e.mod (·.clearOneShots c)
  ((e1.setState c .mirroring .none).modPlay c fun p => { p with group := none }).mod
    (·.setMirror c source gain offset copy)

/-- MIRROR_SETUP on execution (R150). -/
def State.runMirrorSetup (s : State) (channel source : Byte) (gain offset : BitVec 16) (copy : Byte) : State :=
  match chanOfByte channel, mirrorSourceOf source with
  | none, _ => s.closeOrder (.badField 0x10)
  | some _, none => s.closeOrder (.badField 0x11)
  | some c, some none =>
    if s.busyChannel c then s.closeOrder (.byChannel .busy c)
    else if s.chans[c].play.state = .mirroring then (s.event fun e => e.leaveMirror c).closeOrder .done
    else s.closeOrder .done
  | some c, some (some src) =>
    if src = c then s.closeOrder (.badField 0x11)
    else if s.busyChannel c then s.closeOrder (.byChannel .busy c)
    else if s.chans[src].play.state = .mirroring then s.closeOrder (.byChannel .mode src)
    else
      match (s.mirrorsOf c).head? with
      | some m => s.closeOrder (.byChannel .mode m)
      | none =>
        (s.event fun e => e.enterMirror c src gain.toInt offset.toInt (bitOf copy.toNat 0)).closeOrder .done

/-! ## CLEAR_CONDITIONS and SNAPSHOT (R151, R152) -/

/-- A channel's accumulated set is emptied and its status block asked for (R151). -/
def Ev.clearAccumulated (e : Ev) (c : Chan) : Ev := (e.modChan c fun ch => { ch with accumulated := 0 }).ask c

/-- CLEAR_CONDITIONS on execution (R151). -/
def State.runClearConditions (s : State) (mask flag : Byte) : State :=
  let s1 := s.event fun e => e.forEach (members mask) Ev.clearAccumulated
  let s2 :=
    if bitOf flag.toNat 0 then State.writeConditionsWord (s1.modReport fun r => { r with overrun := false }) else s1
  s2.closeOrder .done

/-- SNAPSHOT on execution: the snapshot is taken whole and its write raised (R152). -/
def State.runSnapshot (s : State) (address : BitVec 64) : State :=
  if address.toNat % 64 ≠ 0 then s.closeOrder (.badField 0x10)
  else s.raiseWrite .snapshotWrite address.toNat (snapshotBytes s)

/-! ## Execution (R134, R136) -/

/-- An unknown kind gives INVALID with the detail field naming the kind byte (R136). -/
def State.runUnknown (s : State) : State := s.closeOrder (.badField 0x01)

/-- The order in hand is carried out. -/
def State.runOrder (s : State) : Order → State
  | .configure => s.runConfigure
  | .start mask condition generators slots => s.runStart mask condition generators slots
  | .stop mask mode => s.runStop mask mode
  | .setRate generator action divisor => s.runSetRate generator action divisor
  | .setLevels mask flags gain offset idle => s.runSetLevels mask flags gain offset idle
  | .triggerSetup line mode qualifier capture delay => s.runTriggerSetup line mode qualifier capture delay
  | .mirrorSetup channel source gain offset copy => s.runMirrorSetup channel source gain offset copy
  | .clearConditions mask flag => s.runClearConditions mask flag
  | .snapshot address => s.runSnapshot address
  | .unknown _ => s.runUnknown

/-- An accepted slot becomes the order in hand, and the unit enters EXECUTING (R134). -/
def State.holdOrder (s : State) (order : Order) (edition : BitVec 32) : State :=
  s.modOrders fun o => { o with state := .executing, inHand := some ⟨order, edition⟩ }

/-- An accepted slot is executed (R134). -/
def State.takeOrder (s : State) (order : Order) (edition : BitVec 32) : State :=
  (s.holdOrder order edition).runOrder order

/-- The order slot read is the transfer in flight and has not been abandoned. -/
def State.orderReadInFlight (s : State) : Bool :=
  !s.port.discard && decide ((s.port.inFlight.map (·.kind)) = some .orderSlotRead)

/-- An order row as a command (log 7): while ONLINE with the unit in STANDBY or READING the order is taken; it is the
completion of the slot read when that is in flight, and takes the place of a slot read that waits. -/
def State.orderCommand (s : State) (order : Order) (edition : BitVec 32) : State :=
  if s.online then
    match s.orders.state with
    | .standby => s.takeOrder order edition
    | .reading =>
      if s.orderReadInFlight then s.completion (·.takeOrder order edition)
      else (s.withdraw fun t => decide (t = .orderSlotRead)).takeOrder order edition
    | .executing => s
    | .closing => s
  else s

/-! ## The order rows -/

/-- UNKNOWN_ORDER_KIND (R136). -/
def execUnknownOrderKind (edition : BitVec 32) (kind : Byte) (s : State) : Host.Outcome State Fault Refusal :=
  .next (s.orderCommand (.unknown kind) edition)

/-- CONFIGURE (R137). -/
def execConfigure (edition : BitVec 32) (s : State) : Host.Outcome State Fault Refusal :=
  .next (s.orderCommand .configure edition)

/-- START (R139 to R141). -/
def execStart (edition : BitVec 32) (mask condition : Byte) (generators : Vector Byte 8)
    (slots : Vector (BitVec 16) 8) (s : State) : Host.Outcome State Fault Refusal :=
  .next (s.orderCommand (.start mask condition generators slots) edition)

/-- STOP (R146). -/
def execStop (edition : BitVec 32) (mask mode : Byte) (s : State) : Host.Outcome State Fault Refusal :=
  .next (s.orderCommand (.stop mask mode) edition)

/-- SET_RATE (R147). -/
def execSetRate (edition : BitVec 32) (generator action : Byte) (divisor : BitVec 16) (s : State) :
    Host.Outcome State Fault Refusal :=
  .next (s.orderCommand (.setRate generator action divisor) edition)

/-- SET_LEVELS (R148). -/
def execSetLevels (edition : BitVec 32) (mask flags : Byte) (gain offset idle : BitVec 16) (s : State) :
    Host.Outcome State Fault Refusal :=
  .next (s.orderCommand (.setLevels mask flags gain offset idle) edition)

/-- TRIGGER_SETUP (R149). -/
def execTriggerSetup (edition : BitVec 32) (line mode qualifier capture : Byte) (delay : BitVec 32) (s : State) :
    Host.Outcome State Fault Refusal :=
  .next (s.orderCommand (.triggerSetup line mode qualifier capture delay) edition)

/-- MIRROR_SETUP (R150). -/
def execMirrorSetup (edition : BitVec 32) (channel source : Byte) (gain offset : BitVec 16) (copy : Byte) (s : State) :
    Host.Outcome State Fault Refusal :=
  .next (s.orderCommand (.mirrorSetup channel source gain offset copy) edition)

/-- CLEAR_CONDITIONS (R151). -/
def execClearConditions (edition : BitVec 32) (mask flag : Byte) (s : State) : Host.Outcome State Fault Refusal :=
  .next (s.orderCommand (.clearConditions mask flag) edition)

/-- SNAPSHOT (R152). -/
def execSnapshot (edition : BitVec 32) (address : BitVec 64) (s : State) : Host.Outcome State Fault Refusal :=
  .next (s.orderCommand (.snapshot address) edition)

end Sys2Proof.Machine
end

