-- ==== Sys2Proof/Machine/Control.lean ====
section
/-! DEFINITION. Engine Control (chapter 10): the register writes, halts, GO and its completion, power-on and RESET, and the
handing over of nudges. -/

namespace Sys2Proof.Machine

open Sys2Proof

/-! ## Halts (R187, R188) -/

/-- The Order Unit's transfers that a HALT withdraws while they wait (R153, R160). -/
def Transfer.isOrderWork : Transfer → Bool
  | .orderSlotRead => true
  | .configReadOrder => true
  | .snapshotWrite => true
  | _ => false

/-- The Order Unit at a HALT: a read or an order in execution is abandoned; an order in CLOSING goes on to its end
(R153). -/
def State.haltOrders (s : State) : State :=
  match s.orders.state with
  | .closing => s.modOrders fun o => { o with recheck := false }
  | _ =>
    (s.withdraw Transfer.isOrderWork).modOrders fun o =>
      { o with state := .standby, recheck := false, inHand := none, result := none }

/-- A channel stopped by a HALT (R44, R95, R187). -/
def Ev.haltActive (e : Ev) (c : Chan) : Ev :=
  let e1 := e.mod (·.purge c false)
  let e2 := (e1.setState c .idle .none).modPlay c fun p =>
    { p with pendingStop := .none, lastStop := .halt, episode := 0 }
  e2.addChanRecord c .channelStopped (e2.chan c).play.stopSlot StopReason.halt.code 0

/-- One channel at a HALT, by its state (R95). -/
def Ev.haltChannel (e : Ev) (c : Chan) : Ev :=
  match (e.chan c).play.state with
  | .armed => e.haltActive c
  | .running => e.haltActive c
  | .waiting => e.haltActive c
  | .frontier => e.haltActive c
  | .faulted => e.setState c .idle .none
  | .mirroring => e.setState c .idle .none
  | .idle => e

/-- Phase, delay count and width count at a HALT: QUIET, 0, 0 (R113). -/
def OneShot.halted (m : OneShot) : OneShot := { m with phase := .quiet, delayCount := 0, widthCount := 0 }

/-- What a HALT leaves of every channel's membership, mirror and markers; its lane shows the idle level (R95, R113). -/
def State.settleChannel (s : State) (c : Chan) : State :=
  let s1 := s.modPlay c fun p => { p with group := none }
  State.showIdle
    (s1.modLevel c fun l => { l with mirror := none, markers := bothMarkers OneShot.halted l.markers }) c

/-- A generator at a HALT (R119). -/
def Gen.halted (g : Gen) : Gen :=
  { running := false, divisor := g.pending.getD g.divisor, pending := none, countdown := 0 }

/-- A trigger line at a HALT (R130). -/
def TrigLine.halted (l : TrigLine) : TrigLine := { l with delaying := false, agreement := 0, delayCount := 0 }

/-- Generators and trigger lines at a HALT (R119, R130). -/
def State.haltClocks (s : State) : State :=
  { s with
    gens := vec4 fun g => s.gens[g].halted
    trig := { s.trig with lines := vec4 fun k => s.trig.lines[k].halted } }

/-- The engine enters HALTED with a cause, and attention pending is set (R178, R180). -/
def State.enterHalted (s : State) (cause : HaltCause) (detail : HaltDetail) : State :=
  (s.modEngine fun e => { e with state := .halted, starting := false, cause, detail }).modReport fun r =>
    { r with attention := true }

/-- A halt of an ONLINE engine, as one event (R187, R188). -/
def Ev.halt (cause : HaltCause) (detail : HaltDetail) (e : Ev) : Ev :=
  let e1 := (e.mod State.haltOrders).forEach allChans Ev.haltChannel
  e1.mod fun s => (allChans.foldl State.settleChannel s).haltClocks.enterHalted cause detail

/-- A halt as an event of its own. -/
def State.haltEngine (s : State) (cause : HaltCause) (detail : HaltDetail) : State := s.event (Ev.halt cause detail)

/-- A write that completes with an error halts an ONLINE engine; otherwise it is a second failure (R162, R188). -/
def State.writeFailed (s : State) (r : Requester) : State :=
  if s.online then s.haltEngine .writeError (.requester r) else s

/-! ## Nudges (R190) -/

/-- A nudge of the report room (R170). -/
def State.nudgeRoom (s : State) : State :=
  if s.online && !s.hasRoom && decide (s.report.taken = .none) then s.raiseTakenRead else s

/-- Nudge latches are handed over: channels in order, then orders, then report room (R190). -/
def State.handNudges (s : State) (channels : BitVec 8) (orders room : Bool) : State :=
  let s1 := (members channels).foldl State.nudgeChannel s
  let s2 := if orders then s1.nudgeOrders else s1
  if room then s2.nudgeRoom else s2

/-- What becomes of a NUDGE write: handed over while ONLINE, held while a GO is starting, ignored otherwise (R190). -/
def State.nudge (s : State) (channels : BitVec 8) (orders room : Bool) : State :=
  if s.online then s.handNudges channels orders room
  else if s.engine.starting then
    s.modEngine fun e =>
      { e with
        nudgeChannels := e.nudgeChannels ||| channels
        nudgeOrders := e.nudgeOrders || orders
        nudgeRoom := e.nudgeRoom || room }
  else s

/-- The nudge latches cleared. -/
def EngineControl.clearNudges (e : EngineControl) : EngineControl :=
  { e with nudgeChannels := 0, nudgeOrders := false, nudgeRoom := false }

/-! ## GO (R183 to R186) -/

/-- A GO is taken: the starting flag, its page base, and the Configuration Record read (R183). -/
def State.startGo (s : State) : State :=
  let base := s.engine.page.toNat * 4096
  State.raiseRead (s.modEngine fun e => { e with starting := true, goBase := some base }) .configReadGo base 256

/-- The Report Unit's values at a GO (R179). -/
def ReportUnit.atGo (r : ReportUnit) : ReportUnit :=
  { r with
    writePos := 0
    written := 0
    seq := 1
    copy := 0
    newestDropped := 0
    losses := 0
    queue := []
    taken := if r.taken = .none then .none else .stale }

/-- A trigger line at a GO (R130). -/
def TrigLine.atGo (l : TrigLine) : TrigLine :=
  { l with delaying := false, agreement := 0, delayCount := 0, edgeTime := 0, delayApplied := 0, ignored := 0 }

/-- The Trigger Unit at a GO (R120, R130). -/
def TrigUnit.atGo (t : TrigUnit) : TrigUnit :=
  { lines := vec4 fun k => t.lines[k].atGo, refTime := 0, firstDue := true }

/-- A generator at a GO (R119): it stays as it is, STOPPED. -/
def Gen.atGo (g : Gen) : Gen := { g with running := false, pending := none, countdown := 0 }

/-- Engine Control after a GO that succeeds (R185). -/
def EngineControl.atGo (e : EngineControl) (k : EngineConfig) : EngineControl :=
  { e.clearNudges with
    state := .online
    starting := false
    cause := .none
    detail := .none
    pageBase := e.goBase
    goBase := none
    config := some k }

/-- A GO whose record passes every check (R185); the phase of trigger sampling is a free value (log 5). -/
def State.goSucceeds (s : State) (r : ConfigRecord) : State :=
  let e := s.engine
  let s1 : State :=
    { s with
      engine := e.atGo (configOf r)
      report := s.report.atGo
      trig := s.trig.atGo
      orders := OrderUnit.reset
      gens := vec4 fun g => s.gens[g].atGo
      refPhase := (Config.samplePhase s.freeCount).val
      freeCount := s.freeCount + 1 }
  (s1.writeReportsWritten none 0).handNudges e.nudgeChannels e.nudgeOrders e.nudgeRoom

/-- A GO that fails (R186). -/
def State.goFails (s : State) (cause : HaltCause) (detail : HaltDetail) : State :=
  (s.modEngine fun e => { e.clearNudges with goBase := none }).enterHalted cause detail

/-- The answer of a GO's Configuration Record read (R184 to R186). -/
def State.goAnswered (s : State) : ReadAnswer → State
  | .error => s.goFails .pageReadError .configuration
  | .data bytes =>
    match firstRefusal (configRecordOf bytes) with
    | some k => s.goFails .configInvalid (.field k.field k.channel)
    | none => s.goSucceeds (configRecordOf bytes)

/-! ## Power-on and RESET (R189) -/

/-- The block after power-on, with what lies outside it kept: the pins and the queue of commands, and the model's own
counters (log 3, log 19). -/
def State.powerOn (s : State) : State :=
  { State.reset with pins := s.pins, refPhase := s.refPhase, freeCount := s.freeCount, pending := s.pending }

/-- The Memory Port at a RESET: a transfer in flight runs on, to be discarded; all else is withdrawn (R160, R163). -/
def Port.atReset (p : Port) : Port :=
  { Port.reset with busy := p.inFlight.isSome, inFlight := p.inFlight, discard := p.inFlight.isSome }

/-- The RESET command: every block at its power-on values but the PAGE value and the transfer in flight (R189). -/
def State.resetCommand (s : State) : State :=
  let p := s.powerOn
  { p with engine := { p.engine with page := s.engine.page }, port := s.port.atReset }

/-! ## The register port (R181, R182, R190, R192, 11.10) -/

/-- The commands of a NUDGE write, by its assigned bits: bits 0 to 7 channels, bit 8 orders, bit 9 report room (R190, log 9). -/
def nudgeCommands (value : BitVec 32) : List Instr :=
  let channels : BitVec 8 := value.setWidth 8
  (if channels = 0 then [] else [.channelNudge channels])
    ++ (if value.getLsbD 8 then [.orderNudge] else []) ++ (if value.getLsbD 9 then [.reportRoomNudge] else [])

/-- The command of an ENGINE write, by its command field, bits 0 to 7 (R182, R192). -/
def engineCommand (value : BitVec 32) : Instr :=
  match value.toNat % 256 with
  | 1 => .go
  | 2 => .halt
  | 3 => .reset
  | _ => .registerWriteIgnored 0x08 value

/-- The commands that a write of a value at a byte offset of the register port is. A write at an offset that is none of the six
registers is ignored (DESIGN CHOICE, log 29). -/
def commandsOfWrite (offset value : BitVec 32) : List Instr :=
  match offset.toNat with
  | 0x04 => [.page value]
  | 0x08 => [engineCommand value]
  | 0x0C => nudgeCommands value
  | 0x10 => [.strike value]
  | 0x14 => [.attn value]
  | _ => [.registerWriteIgnored offset value]

/-- A register write reaches the engine: its commands join the queue of waiting commands (R181). -/
def State.writeRegister (s : State) (offset value : BitVec 32) : State :=
  { s with pending := s.pending ++ commandsOfWrite offset value }

/-! ## The register writes -/

/-- POWER_ON (R189). -/
def execPowerOn (s : State) : Host.Outcome State Fault Refusal := .next s.powerOn

/-- RESET (R189). -/
def execReset (s : State) : Host.Outcome State Fault Refusal := .next s.resetCommand

/-- GO (R182, R183): taken while DORMANT or HALTED with the starting flag clear. -/
def execGo (s : State) : Host.Outcome State Fault Refusal :=
  .next (if s.online || s.engine.starting then s else s.startGo)

/-- HALT (R182, R187): taken while ONLINE. -/
def execHalt (s : State) : Host.Outcome State Fault Refusal :=
  .next (if s.online then s.haltEngine .hostHalt .none else s)

/-- PAGE (R181): taken while DORMANT or HALTED with the starting flag clear. -/
def execPage (value : BitVec 32) (s : State) : Host.Outcome State Fault Refusal :=
  .next (if s.online || s.engine.starting then s else s.modEngine fun e => { e with page := value })

/-- CHANNEL_NUDGE (R37, R190). -/
def execChannelNudge (channels : BitVec 8) (s : State) : Host.Outcome State Fault Refusal :=
  .next (s.nudge channels false false)

/-- ORDER_NUDGE (R133, R190). -/
def execOrderNudge (s : State) : Host.Outcome State Fault Refusal := .next (s.nudge 0 true false)

/-- REPORT_ROOM_NUDGE (R170, R190). -/
def execReportRoomNudge (s : State) : Host.Outcome State Fault Refusal := .next (s.nudge 0 false true)

/-- ATTN (R178): bit 0 as 1 clears attention pending. -/
def execAttn (value : BitVec 32) (s : State) : Host.Outcome State Fault Refusal :=
  .next (if value.getLsbD 0 then s.modReport fun r => { r with attention := false } else s)

/-- REGISTER_WRITE_IGNORED (R182, R192): the write is ignored whole. -/
def execRegisterWriteIgnored (_offset _value : BitVec 32) (s : State) : Host.Outcome State Fault Refusal := .next s

end Sys2Proof.Machine
end

