-- ==== Sys2Proof/Machine/Completions.lean ====
section
/-! DEFINITION. The completions of the Memory Port's transfers (R154, R159), each acted on by its requester as its chapter
gives. A completion command acts when its transfer is in flight and the answer carries the bytes asked for (log 1). -/

namespace Sys2Proof.Machine

open Sys2Proof

/-! ## The transfer in flight -/

/-- The transfer in flight, unless a RESET has orphaned it (R160). -/
def State.live (s : State) : Option Request := if s.port.discard then none else s.port.inFlight

/-- The answer carries every byte asked for, or is an error (R159). -/
def answerFits (a : ReadAnswer) (r : Request) : Bool :=
  match a with
  | .data bytes => decide (bytes.length = r.size)
  | .error => true

/-- The data of an answer, none for an error (R159). -/
def answerData : ReadAnswer → Option (List Byte)
  | .data bytes => some bytes
  | .error => none

/-- The completion of a read in flight whose kind `handle` takes: the requester's handling, then the next grant (R156). -/
def State.completeRead (s : State) (a : ReadAnswer) (handle : Transfer → Option (State → State)) : State :=
  match s.live with
  | none => s
  | some r =>
    match handle r.kind with
    | none => s
    | some f => if answerFits a r then s.completion f else s

/-- The completion of a write in flight whose kind `handle` takes (R156). -/
def State.completeWrite (s : State) (handle : Transfer → Option (State → State)) : State :=
  match s.live with
  | none => s
  | some r =>
    match handle r.kind with
    | none => s
    | some f => s.completion f

/-! ## Step Fetch (R27, R36, R39) -/

/-- An invalid marker is placed; an ARMED channel whose head of window it is faults at once (R27, R89). -/
def State.markInvalid (s : State) (c : Chan) (slot : Nat) (sub : SubCode) : State :=
  s.event fun e =>
    let e1 := e.mod (·.placeMarker c slot sub)
    match (e1.chan c).play.state, (e1.chan c).head with
    | .armed, some (.invalid _ _ sub') => e1.faultChannel c (.stepInvalid sub')
    | _, _ => e1

/-- A slot read found the slot not ready (R36). -/
def State.slotNotReady (s : State) (c : Chan) (nudged : Bool) : State :=
  let s1 := s.modFetch c fun f => { f with frontier := true, reader := .atFrontier, poll := 0 }
  if nudged then s1.reread c else s1

/-- A slot read found the slot accepted (R27): SEGMENT_RANGE, or the segment entry's read. -/
def State.slotAccepted (s : State) (c : Chan) (a : AcceptedSlot) : State :=
  let s1 := s.modFetch c fun f => { f with frontier := false, accepted := some a }
  if s1.segTable.2 ≤ a.body.segment then s1.markInvalid c s1.chans[c].fetch.cursor .segmentRange
  else
    State.raiseRead (s1.modFetch c fun f => { f with reader := .entryRead })
      (.segmentEntryRead c s1.chans[c].fetch.epoch) (busAddr (s1.segTable.1 + 16 * a.body.segment)) 16

/-- The completion of a slot read of the current epoch (R27, R36). -/
def State.slotReadDone (s : State) (c : Chan) (data : Option (List Byte)) : State :=
  let nudged := s.chans[c].fetch.nudge
  let s1 := s.modFetch c fun f => { f with nudge := false }
  match data with
  | none =>
    State.markInvalid (s1.modFetch c fun f => { f with frontier := false }) c s1.chans[c].fetch.cursor .memoryError
  | some bytes =>
    let b := slotBracket bytes
    if b.accepted then s1.slotAccepted c ⟨b.headEdition, b.kind, stepBodyOf bytes⟩
    else s1.slotNotReady c nudged

/-- The completion of a segment entry read of the current epoch (R20, R27, R28). -/
def State.entryReadDone (s : State) (c : Chan) (data : Option (List Byte)) : State :=
  let slot := s.chans[c].fetch.cursor
  match data, s.chans[c].fetch.accepted with
  | none, _ => s.markInvalid c slot .memoryError
  | some _, none => s
  | some bytes, some a =>
    let seg := segEntryOf bytes
    match firstFailure s c slot a.body seg with
    | some sub => s.markInvalid c slot sub
    | none => s.admitStep c (contextOf s c slot a seg)

/-! ## Sample Pool (R53, R57, R61) -/

/-- A channel of the four states in which a memory error can fault it faults with MEMORY_ERROR (R61, R89). -/
def State.memoryFault (s : State) (c : Chan) : State :=
  if s.busyChannel c then s.event fun e => e.faultChannel c .memoryError else s

/-- An arrival pays off the deficit before it joins the queue, and the reserve returns to 0 (R53). -/
def Pool.arrive (p : Pool) (samples : List Int) : Pool :=
  { p with
    queue := p.queue ++ samples.drop p.deficit
    deficit := p.deficit - samples.length
    reserve := 0 }

/-- The completion of a stream request of the current epoch (R53, R61). -/
def State.streamDone (s : State) (c : Chan) (format : SampleFormat) (n : Nat) (data : Option (List Byte)) : State :=
  match data with
  | none => s.memoryFault c
  | some bytes => State.feed (s.modPool c fun p => p.arrive (widenSamples format n bytes)) c

/-- The W_eff of an occurrence in the window, none when it has left it. -/
def Fetch.extentOf (f : Fetch) (occ : Nat) : Option Nat :=
  f.window.findSome? fun w =>
    match w with
    | .step ctx => if ctx.occ = occ then some ctx.wEff else none
    | .invalid _ _ _ => none

/-- A bank of the channel is assigned to the occurrence (R57). -/
def Pool.assigned (p : Pool) (occ : Nat) : Bool := decide (p.bankA.occ? = some occ) || decide (p.bankB.occ? = some occ)

/-- The completion of a bank load of the current epoch: discarded when its bank has been released (R57, R59, R61). -/
def State.bankDone (s : State) (c : Chan) (occ : Nat) (format : SampleFormat) (n : Nat) (data : Option (List Byte)) :
    State :=
  if s.chans[c].pool.assigned occ then
    match data, s.chans[c].fetch.extentOf occ with
    | none, _ => s.memoryFault c
    | some bytes, some wEff =>
      let l := widenSamples format n bytes
      State.feed (s.modPool c fun p => { p with bankA := p.bankA.loaded occ wEff l, bankB := p.bankB.loaded occ wEff l }) c
    | some _, none => s.feed c
  else s.feed c

/-! ## Report Unit (R167, R171, R178, R179) -/

/-- Every record that waits in the queue is placed, in order (R167). -/
def State.placeWaiting (s : State) : State :=
  s.report.queue.foldl State.placeQueued (s.modReport fun r => { r with queue := [] })

/-- The value read is taken as the copy if it counts no record the engine has not written (R167). -/
def ReportUnit.takeCopy (r : ReportUnit) (value cap : Nat) : ReportUnit :=
  if r.untaken value ≤ cap then { r with copy := value } else r

/-- The completion of a Taken read from before the last GO: discarded, and read afresh if records wait (R179). -/
def State.staleTaken (s : State) : State :=
  if s.report.queue = [] then s.modReport fun r => { r with taken := .none } else s.raiseTakenRead

/-- A Taken read completes with an error (R171, R188): an ONLINE engine halts, and the records waiting are lost. -/
def State.takenFailed (s : State) : State :=
  let s1 := s.modReport fun r => { r with taken := .none }
  if s1.online then s1.event fun e => (e.halt .pageReadError .taken).mod (·.placeWaiting) else s1.placeWaiting

/-- The completion of a Reports Taken read (R167, R171, R179). -/
def State.takenDone (s : State) (data : Option (List Byte)) : State :=
  if s.report.taken = .stale then s.staleTaken
  else
    match data with
    | none => s.takenFailed
    | some bytes =>
      (s.modReport fun r => { r.takeCopy (le32 bytes 0) s.ring.2 with taken := .none }).placeWaiting

/-- A record of this kind has been written: attention pending is set if the notice mask in force asks (R178). -/
def State.noticed (s : State) (kind : RecordKind) : State :=
  match s.engine.config with
  | some k => if k.notice.getLsbD kind.code then s.modReport fun r => { r with attention := true } else s
  | none => s

/-- The completion of a write without an effect of its own: an error is handled as R162 gives. -/
def State.writeDone (s : State) (a : WriteAnswer) (r : Requester) (ok : State → State) : State :=
  match a with
  | .error => s.writeFailed r
  | .confirmed => ok s

/-- The first Reports Written write among waiting requests that counts a record no longer stands for one. -/
def voidCounted : List Request → List Request
  | [] => []
  | r :: rest =>
    match r.kind with
    | .reportsWritten (some _) => { r with kind := .reportsWritten none } :: rest
    | _ => r :: voidCounted rest

/-- The write of a record in a fresh slot completed with an error: the Reports Written write that counts it, the first of its
kind that waits (R157, R166), sets nothing when it completes (R178). -/
def State.voidNotice (s : State) : State := { s with port := { s.port with waiting := voidCounted s.port.waiting } }

/-- The completion of a record's write (R162, R178). -/
def State.recordDone (s : State) (a : WriteAnswer) (kind : RecordKind) (overwrite : Bool) : State :=
  match a with
  | .confirmed => if overwrite then s.noticed kind else s
  | .error => (if overwrite then s else s.voidNotice).writeFailed .report

/-! ## Order Unit (R134, R135, R137, R152) -/

/-- A fresh read of the slot if the recheck latch is set, else STANDBY (R134). -/
def State.orderNotTaken (s : State) : State :=
  if s.orders.recheck then s.readOrderSlot else s.modOrders fun o => { o with state := .standby }

/-- The ORDER_READ_ERROR record (R134, R173). -/
def State.orderReadErrorRecord (s : State) : Record where
  kind := .orderReadError
  source := .engine
  slot := s.orders.next.val
  conditions := 0
  time := s.trig.refTime
  detailA := 0
  detailB := 0

/-- The completion of an order slot read (R134); of an abandoned one, discarded (R153). -/
def State.orderSlotDone (s : State) (data : Option (List Byte)) : State :=
  if s.orders.state = .reading then
    match data with
    | none => s.event fun e => (e.addRecord e.st.orderReadErrorRecord).mod (·.orderNotTaken)
    | some bytes =>
      if (slotBracket bytes).accepted then s.takeOrder (orderOf bytes) (slotBracket bytes).headEdition
      else s.orderNotTaken
  else s

/-- The unit stands in STANDBY with no order in hand (R132, R153). -/
def State.dropOrder (s : State) : State :=
  s.modOrders fun o => { o with state := .standby, inHand := none, result := none }

/-- The result write is done: the head word's write is raised, DONE under the kind and edition of the slot (R135). -/
def State.raiseOrderHead (s : State) : State :=
  match s.orders.inHand with
  | some h => s.raiseWrite .orderHead (s.orderAddr 0) (headWordBytes 2 h.order.kindByte h.edition)
  | none => s

/-- The completion of an order's result write (R135, R153). -/
def State.orderResultDone (s : State) (a : WriteAnswer) : State :=
  match a with
  | .error => s.dropOrder.writeFailed .orderResult
  | .confirmed => if s.orders.state = .closing then s.raiseOrderHead else s

/-- An order is finished: the next index advances, and an ONLINE unit reads the next slot (R135, R153). -/
def State.finishOrder (s : State) : State :=
  let s1 := s.dropOrder.modOrders fun o => { o with next := o.next + 1 }
  if s1.online then s1.readOrderSlot else s1

/-- The completion of an order's head write (R135, R153). -/
def State.orderHeadDone (s : State) (a : WriteAnswer) : State :=
  match a with
  | .error => s.dropOrder.writeFailed .orderResult
  | .confirmed => if s.orders.state = .closing then s.finishOrder else s

/-- The order being executed is of this kind. -/
def State.executing (s : State) (isKind : Order → Bool) : Bool :=
  decide (s.orders.state = .executing) && ((s.orders.inHand.map fun h => isKind h.order).getD false)

/-- The order is a CONFIGURE. -/
def Order.isConfigure : Order → Bool
  | .configure => true
  | _ => false

/-- The order is a SNAPSHOT. -/
def Order.isSnapshot : Order → Bool
  | .snapshot _ => true
  | _ => false

/-- The completion of a CONFIGURE's read (R137, R138); of an abandoned one, discarded (R153). -/
def State.configureDone (s : State) (data : Option (List Byte)) : State :=
  if s.executing Order.isConfigure then
    match data with
    | none => s.closeOrder ⟨.memoryError, none, none⟩
    | some bytes =>
      match firstRefusal (configRecordOf bytes) with
      | some k => s.closeOrder ⟨.invalid, k.channel, some k.field⟩
      | none => (s.takeConfigure (configRecordOf bytes)).closeOrder .done
  else s

/-- The completion of a snapshot's write (R152, R153). -/
def State.snapshotDone (s : State) (a : WriteAnswer) : State :=
  match a with
  | .error => s.writeFailed .snapshot
  | .confirmed => if s.executing Order.isSnapshot then s.closeOrder .done else s

/-! ## Engine Control (R184 to R186) -/

/-- The completion of a GO's Configuration Record read: it ends the GO that is starting (R180, log 28). -/
def State.goDone (s : State) (a : ReadAnswer) : State := if s.engine.starting then s.goAnswered a else s

/-! ## The completions as commands -/

/-- Handles a fetch or sample completion when its epoch is the current one, else discards it (R39). -/
def underEpoch (c : Chan) (epoch : BitVec 8) (f : State → State) (s : State) : State :=
  if s.chans[c].fetch.epoch = epoch then f s else s

/-- STEP_SLOT_READ_COMPLETE (R27). -/
def execStepSlotReadComplete (a : ReadAnswer) (s : State) : Host.Outcome State Fault Refusal :=
  .next (s.completeRead a fun t =>
    match t with
    | .stepSlotRead c epoch _ => some (underEpoch c epoch (·.slotReadDone c (answerData a)))
    | _ => none)

/-- SEGMENT_ENTRY_READ_COMPLETE (R27, R28). -/
def execSegmentEntryReadComplete (a : ReadAnswer) (s : State) : Host.Outcome State Fault Refusal :=
  .next (s.completeRead a fun t =>
    match t with
    | .segmentEntryRead c epoch => some (underEpoch c epoch (·.entryReadDone c (answerData a)))
    | _ => none)

/-- STREAM_REQUEST_COMPLETE (R53, R61, R62). -/
def execStreamRequestComplete (a : ReadAnswer) (s : State) : Host.Outcome State Fault Refusal :=
  .next (s.completeRead a fun t =>
    match t with
    | .streamRequest c epoch n format => some (underEpoch c epoch (·.streamDone c format n (answerData a)))
    | _ => none)

/-- BANK_LOAD_COMPLETE (R57, R59, R61). -/
def execBankLoadComplete (a : ReadAnswer) (s : State) : Host.Outcome State Fault Refusal :=
  .next (s.completeRead a fun t =>
    match t with
    | .bankLoad c epoch occ _ n format => some (underEpoch c epoch (·.bankDone c occ format n (answerData a)))
    | _ => none)

/-- ORDER_SLOT_READ_COMPLETE (R134). -/
def execOrderSlotReadComplete (a : ReadAnswer) (s : State) : Host.Outcome State Fault Refusal :=
  .next (s.completeRead a fun t =>
    match t with
    | .orderSlotRead => some (·.orderSlotDone (answerData a))
    | _ => none)

/-- CONFIGURE_READ_COMPLETE (R137, R138). -/
def execConfigureReadComplete (a : ReadAnswer) (s : State) : Host.Outcome State Fault Refusal :=
  .next (s.completeRead a fun t =>
    match t with
    | .configReadOrder => some (·.configureDone (answerData a))
    | _ => none)

/-- GO_CONFIG_READ_COMPLETE (R184 to R186). -/
def execGoConfigReadComplete (a : ReadAnswer) (s : State) : Host.Outcome State Fault Refusal :=
  .next (s.completeRead a fun t =>
    match t with
    | .configReadGo => some (·.goDone a)
    | _ => none)

/-- REPORTS_TAKEN_READ_COMPLETE (R167, R171, R179). -/
def execReportsTakenReadComplete (a : ReadAnswer) (s : State) : Host.Outcome State Fault Refusal :=
  .next (s.completeRead a fun t =>
    match t with
    | .reportsTakenRead => some (·.takenDone (answerData a))
    | _ => none)

/-- SNAPSHOT_WRITE_COMPLETE (R152, R162). -/
def execSnapshotWriteComplete (a : WriteAnswer) (s : State) : Host.Outcome State Fault Refusal :=
  .next (s.completeWrite fun t =>
    match t with
    | .snapshotWrite => some (·.snapshotDone a)
    | _ => none)

/-- ORDER_RESULT_WRITE_COMPLETE (R135, R162). -/
def execOrderResultWriteComplete (a : WriteAnswer) (s : State) : Host.Outcome State Fault Refusal :=
  .next (s.completeWrite fun t =>
    match t with
    | .orderResult => some (·.orderResultDone a)
    | _ => none)

/-- ORDER_HEAD_WRITE_COMPLETE (R135, R162). -/
def execOrderHeadWriteComplete (a : WriteAnswer) (s : State) : Host.Outcome State Fault Refusal :=
  .next (s.completeWrite fun t =>
    match t with
    | .orderHead => some (·.orderHeadDone a)
    | _ => none)

/-- SLOT_RETIRE_WRITE_COMPLETE (R41, R162). -/
def execSlotRetireWriteComplete (a : WriteAnswer) (s : State) : Host.Outcome State Fault Refusal :=
  .next (s.completeWrite fun t =>
    match t with
    | .slotRetire _ => some (·.writeDone a .slotRetire id)
    | _ => none)

/-- REPORT_RECORD_WRITE_COMPLETE (R162, R178): a record that overwrote the newest slot may set attention pending. -/
def execReportRecordWriteComplete (a : WriteAnswer) (s : State) : Host.Outcome State Fault Refusal :=
  .next (s.completeWrite fun t =>
    match t with
    | .reportRecord kind overwrite => some (·.recordDone a kind overwrite)
    | _ => none)

/-- REPORTS_WRITTEN_WRITE_COMPLETE (R162, R178): the record it counts may set attention pending, unless that record's own
write failed. -/
def execReportsWrittenWriteComplete (a : WriteAnswer) (s : State) : Host.Outcome State Fault Refusal :=
  .next (s.completeWrite fun t =>
    match t with
    | .reportsWritten counted =>
      some (·.writeDone a .report fun s =>
        match counted with
        | some kind => s.noticed kind
        | none => s)
    | _ => none)

/-- STATUS_BLOCK_WRITE_COMPLETE (R162). -/
def execStatusBlockWriteComplete (a : WriteAnswer) (s : State) : Host.Outcome State Fault Refusal :=
  .next (s.completeWrite fun t =>
    match t with
    | .statusBlock _ => some (·.writeDone a .statusBlock id)
    | _ => none)

/-- ENGINE_CONDITIONS_WRITE_COMPLETE (R162). -/
def execEngineConditionsWriteComplete (a : WriteAnswer) (s : State) : Host.Outcome State Fault Refusal :=
  .next (s.completeWrite fun t =>
    match t with
    | .engineConditions => some (·.writeDone a .statusBlock id)
    | _ => none)

/-- COMPLETION_AFTER_RESET (R160, R163): a transfer granted before a RESET completes and is discarded by the port. -/
def execCompletionAfterReset (s : State) : Host.Outcome State Fault Refusal :=
  .next (if s.port.discard && s.port.inFlight.isSome then s.completion id else s)

end Sys2Proof.Machine
end

