-- ==== Sys2Proof/Machine/Dispatch.lean ====
section
/-! DEFINITION. The dispatch: one arm per command, each one call of its meaning. -/

namespace Sys2Proof.Machine

open Sys2Proof

def exec (i : Instr) (s : State) : Host.Outcome State Fault Refusal :=
  match i with
  | .powerOn => Sys2Proof.Machine.execPowerOn s
  | .reset => Sys2Proof.Machine.execReset s
  | .go => Sys2Proof.Machine.execGo s
  | .halt => Sys2Proof.Machine.execHalt s
  | .page value => Sys2Proof.Machine.execPage value s
  | .channelNudge channels => Sys2Proof.Machine.execChannelNudge channels s
  | .orderNudge => Sys2Proof.Machine.execOrderNudge s
  | .reportRoomNudge => Sys2Proof.Machine.execReportRoomNudge s
  | .strike value => Sys2Proof.Machine.execStrike value s
  | .attn value => Sys2Proof.Machine.execAttn value s
  | .registerWriteIgnored offset value => Sys2Proof.Machine.execRegisterWriteIgnored offset value s
  | .goConfigReadComplete answer => Sys2Proof.Machine.execGoConfigReadComplete answer s
  | .orderSlotReadComplete answer => Sys2Proof.Machine.execOrderSlotReadComplete answer s
  | .unknownOrderKind edition kind => Sys2Proof.Machine.execUnknownOrderKind edition kind s
  | .configure edition => Sys2Proof.Machine.execConfigure edition s
  | .configureReadComplete answer => Sys2Proof.Machine.execConfigureReadComplete answer s
  | .start edition mask condition generators slots => Sys2Proof.Machine.execStart edition mask condition generators slots s
  | .stop edition mask mode => Sys2Proof.Machine.execStop edition mask mode s
  | .setRate edition generator action divisor => Sys2Proof.Machine.execSetRate edition generator action divisor s
  | .setLevels edition mask flags gain offset idle => Sys2Proof.Machine.execSetLevels edition mask flags gain offset idle s
  | .triggerSetup edition line mode qualifier capture delay => Sys2Proof.Machine.execTriggerSetup edition line mode qualifier capture delay s
  | .mirrorSetup edition channel source gain offset copy => Sys2Proof.Machine.execMirrorSetup edition channel source gain offset copy s
  | .clearConditions edition mask flag => Sys2Proof.Machine.execClearConditions edition mask flag s
  | .snapshot edition address => Sys2Proof.Machine.execSnapshot edition address s
  | .snapshotWriteComplete answer => Sys2Proof.Machine.execSnapshotWriteComplete answer s
  | .orderResultWriteComplete answer => Sys2Proof.Machine.execOrderResultWriteComplete answer s
  | .orderHeadWriteComplete answer => Sys2Proof.Machine.execOrderHeadWriteComplete answer s
  | .stepSlotReadComplete answer => Sys2Proof.Machine.execStepSlotReadComplete answer s
  | .segmentEntryReadComplete answer => Sys2Proof.Machine.execSegmentEntryReadComplete answer s
  | .streamRequestComplete answer => Sys2Proof.Machine.execStreamRequestComplete answer s
  | .bankLoadComplete answer => Sys2Proof.Machine.execBankLoadComplete answer s
  | .slotRetireWriteComplete answer => Sys2Proof.Machine.execSlotRetireWriteComplete answer s
  | .reportRecordWriteComplete answer => Sys2Proof.Machine.execReportRecordWriteComplete answer s
  | .reportsWrittenWriteComplete answer => Sys2Proof.Machine.execReportsWrittenWriteComplete answer s
  | .statusBlockWriteComplete answer => Sys2Proof.Machine.execStatusBlockWriteComplete answer s
  | .engineConditionsWriteComplete answer => Sys2Proof.Machine.execEngineConditionsWriteComplete answer s
  | .reportsTakenReadComplete answer => Sys2Proof.Machine.execReportsTakenReadComplete answer s
  | .completionAfterReset => Sys2Proof.Machine.execCompletionAfterReset s
  | .expiry generator => Sys2Proof.Machine.execExpiry generator s
  | .passEnd channel => Sys2Proof.Machine.execPassEnd channel s
  | .stepBoundary channel => Sys2Proof.Machine.execStepBoundary channel s
  | .waitTimeout channel => Sys2Proof.Machine.execWaitTimeout channel s
  | .frontierPoll channel => Sys2Proof.Machine.execFrontierPoll channel s
  | .markerDelayElapsed channel marker => Sys2Proof.Machine.execMarkerDelayElapsed channel marker s
  | .markerWidthElapsed channel marker => Sys2Proof.Machine.execMarkerWidthElapsed channel marker s
  | .qualifiedEdge line => Sys2Proof.Machine.execQualifiedEdge line s
  | .triggerEvent line => Sys2Proof.Machine.execTriggerEvent line s
  | .triggerSample levels => Sys2Proof.Machine.execTriggerSample levels s

end Sys2Proof.Machine
end

