-- ==== Sys2Proof/Safety.lean ====
section
/-! DEFINITION. What a safe run of the block is, in the terms its statements use: the requests that stand at the Memory Port,
what raising and completing does to them, how an order reaches the Order Unit, the clean halves of the state, and the
invariants. -/

namespace Sys2Proof.Machine

open Sys2Proof

/-! ## The Memory Port -/

/-- The requests that stand at the port: the transfer in flight, then the waiting requests in order of raising (R154). -/
def Port.standing (p : Port) : List Request := p.inFlight.toList ++ p.waiting

/-- An IDLE port holds no waiting request (R156). -/
def Port.idleEmpty (p : Port) : Prop := p.busy = false → p.waiting = []

/-- The port is BUSY exactly with a transfer in flight, and an IDLE port holds no waiting request (R154, R156). -/
def Port.wf (p : Port) : Prop := p.busy = p.inFlight.isSome ∧ p.idleEmpty

/-- An IDLE port that takes a request: a step slot read or a segment entry read moves the class 3 pointer on (R156, R158).
For requests of classes 1, 3 and 5. -/
def Port.granted (p : Port) (r : Request) : Port :=
  let q := { p with busy := true, inFlight := some r, discard := false }
  match r.kind with
  | .stepSlotRead c _ false => { q with rr3 := c + 1 }
  | .segmentEntryRead c _ => { q with rr3 := c + 1 }
  | _ => q

/-- The port after requests of classes 1, 3 and 5 were raised in order: an IDLE port grants the first at once, and every
other one waits (R156). -/
def Port.after (p : Port) : List Request → Port
  | [] => p
  | r :: rest =>
    if p.busy then { p with waiting := p.waiting ++ r :: rest } else { p.granted r with waiting := p.waiting ++ rest }

/-- The port while the requester of the transfer in flight handles its completion, having raised requests in order
(R156). -/
def Port.ended (p : Port) (raised : List Request) : Port :=
  { p with inFlight := none, discard := false, waiting := p.waiting ++ raised }

/-- The round-robin pointer of a class (R158). -/
def Port.pointer (p : Port) (k : Nat) : Chan := if k = 2 then p.rr2 else if k = 3 then p.rr3 else p.rr4

/-- The port is BUSY with a transfer of the kind that no RESET has orphaned. -/
def State.carries (s : State) (k : Transfer) : Prop :=
  s.port.busy = true ∧ s.port.discard = false ∧ s.port.inFlight.map Request.kind = some k

/-- The same, with the size asked for. -/
def State.carriesSize (s : State) (k : Transfer) (n : Nat) : Prop :=
  s.port.busy = true ∧ s.port.discard = false ∧ s.port.inFlight.map (fun r => (r.kind, r.size)) = some (k, n)

/-- The command by which memory answers a transfer of the kind (R155, R159). -/
def Transfer.completion (a : ReadAnswer) (w : WriteAnswer) : Transfer → Instr
  | .reportRecord _ _ => .reportRecordWriteComplete w
  | .reportsWritten _ => .reportsWrittenWriteComplete w
  | .statusBlock _ => .statusBlockWriteComplete w
  | .engineConditions => .engineConditionsWriteComplete w
  | .slotRetire _ => .slotRetireWriteComplete w
  | .orderResult => .orderResultWriteComplete w
  | .orderHead => .orderHeadWriteComplete w
  | .streamRequest _ _ _ _ => .streamRequestComplete a
  | .bankLoad _ _ _ _ _ _ => .bankLoadComplete a
  | .stepSlotRead _ _ _ => .stepSlotReadComplete a
  | .segmentEntryRead _ _ => .segmentEntryReadComplete a
  | .orderSlotRead => .orderSlotReadComplete a
  | .configReadGo => .goConfigReadComplete a
  | .configReadOrder => .configureReadComplete a
  | .reportsTakenRead => .reportsTakenReadComplete a
  | .snapshotWrite => .snapshotWriteComplete w

/-- A write request. -/
def writeOf (kind : Transfer) (addr : Nat) (data : List Byte) : Request := ⟨kind, addr, data.length, data⟩

/-- A read request. -/
def readOf (kind : Transfer) (addr size : Nat) : Request := ⟨kind, addr, size, []⟩

/-- The write of a channel's status block (R176). -/
def State.blockWrite (s : State) (c : Chan) (ch : Channel) : Request :=
  writeOf (.statusBlock c) (s.pageAddr (0x400 + 64 * c.val)) (statusBlockBytes ch)

/-- The slot retire write of a step: its slot's head word, FREE under the step's kind byte and edition (R41). -/
def State.retireOf (s : State) (c : Chan) (ctx : StepContext) : Request :=
  writeOf (.slotRetire c) (s.slotAddr c ctx.slot) ([0, ctx.kind, 0, 0] ++ toBytes 4 ctx.edition.toNat)

/-! ## Orders (chapter 7, log 7) -/

/-- The Order Unit can take an order: ONLINE, in STANDBY or READING (R132). -/
def State.takesOrders (s : State) : Prop := s.online = true ∧ (s.orders.state = .standby ∨ s.orders.state = .reading)

/-- The state with the slot read that brings the order taken off the port: in flight it completes, waiting it is
withdrawn, in STANDBY there is none (log 7). -/
def State.freed (s : State) : State :=
  match s.orders.state with
  | .reading => if s.orderReadInFlight then s.portEnd else s.withdraw fun t => decide (t = .orderSlotRead)
  | _ => s

/-- The end of an order row: where the slot read was in flight, its completion is now handled and the port chooses its next
grant (R156). -/
def State.settled (s t : State) : State :=
  if s.orders.state = .reading ∧ s.orderReadInFlight = true then t.portDone else t

/-- The Order Unit in CLOSING with an order and its result in hand (R135). -/
def OrderUnit.closingWith (o : OrderUnit) (order : Order) (edition : BitVec 32) (r : OrderResult) : OrderUnit :=
  { o with state := .closing, inHand := some ⟨order, edition⟩, result := some r }

/-- The result word's write of the order under the next index (R135). -/
def State.resultWrite (s : State) (r : OrderResult) : Request :=
  writeOf .orderResult (s.pageAddr (0x808 + 64 * s.orders.next.val)) (resultWordBytes r)

/-- The read of the order slot under the next index (R133). -/
def State.orderSlotRequest (s : State) : Request :=
  readOf .orderSlotRead (s.pageAddr (0x800 + 64 * s.orders.next.val)) 64

/-- A state whose order has been closed: CLOSING with the result, its result word's write raised after `raised`. -/
def State.closedAfter (s : State) (raised : List Request) (order : Order) (edition : BitVec 32) (r : OrderResult) : State :=
  { s with
    orders := s.orders.closingWith order edition r
    port := s.port.after (raised ++ [s.resultWrite r]) }

/-- The same, with no request raised before the result word's write. -/
def State.closed (s : State) (order : Order) (edition : BitVec 32) (r : OrderResult) : State :=
  s.closedAfter [] order edition r

/-- The command that brings an order to the unit (log 7). -/
def Order.row (edition : BitVec 32) : Order → Instr
  | .configure => .configure edition
  | .start mask condition generators slots => .start edition mask condition generators slots
  | .stop mask mode => .stop edition mask mode
  | .setRate generator action divisor => .setRate edition generator action divisor
  | .setLevels mask flags gain offset idle => .setLevels edition mask flags gain offset idle
  | .triggerSetup line mode qualifier capture delay => .triggerSetup edition line mode qualifier capture delay
  | .mirrorSetup channel source gain offset copy => .mirrorSetup edition channel source gain offset copy
  | .clearConditions mask flag => .clearConditions edition mask flag
  | .snapshot address => .snapshot edition address
  | .unknown kind => .unknownOrderKind edition kind

/-! ## Invariants -/

/-- The Report Unit's counts lie in their ranges: the queue holds at most 16 records (R164, R169). -/
def State.reportInRange (s : State) : Prop :=
  s.report.queue.length ≤ 16 ∧ (∀ q ∈ s.report.queue, q.losses ≤ 65535)
    ∧ s.report.losses ≤ 65535 ∧ s.report.newestDropped ≤ 65535
    ∧ s.report.seq < 4294967296 ∧ s.report.written < 4294967296 ∧ s.report.copy < 4294967296
    ∧ (s.report.writePos = 0 ∨ s.report.writePos < s.ring.2)

/-- A channel's deficit is zero whenever its stream queue holds an entry (R54). -/
def State.deficitPaid (s : State) : Prop := ∀ c : Chan, s.chans[c].pool.queue = [] ∨ s.chans[c].pool.deficit = 0

/-- A code lies in -32768 to 32767 (R97). -/
def isCode (n : Int) : Prop := -32768 ≤ n ∧ n ≤ 32767

/-- Every lane shows a code, and every idle level is one (R97, R98); the model's copy of the last expiry's code too. -/
def State.lanesInRange (s : State) : Prop :=
  ∀ c : Chan, isCode s.chans[c].level.lane ∧ isCode s.chans[c].level.idle ∧ isCode s.chans[c].level.expiryCode

/-- Off ONLINE every channel is IDLE and the Order Unit reads and executes nothing; an ONLINE engine is not starting
(R132, R180). -/
def State.quietOffline (s : State) : Prop :=
  (s.online = false →
    (∀ c : Chan, s.chans[c].play.state = .idle) ∧ (s.orders.state = .standby ∨ s.orders.state = .closing))
  ∧ (s.online = true → s.engine.starting = false)

/-- A CONFIG_INVALID halt names a byte offset within the 256-byte Configuration Record (R182, 11.10). -/
def State.haltFieldFits (s : State) : Prop := ∀ (o : Nat) (c : Option Chan), s.engine.detail = .field o c → o < 256

/-- Every mirror has a source, and no mirror's source is a mirror (R104). -/
def State.mirrorsStand (s : State) : Prop :=
  ∀ c : Chan, s.chans[c].play.state = .mirroring →
    ∃ m : Chan, s.chans[c].level.mirror = some m ∧ s.chans[m].play.state ≠ .mirroring

/-- A generator's values lie in their ranges, and a STOPPED one holds no pending divisor and no countdown (R114). -/
def Gen.inRange (g : Gen) : Prop :=
  2 ≤ g.divisor ∧ g.divisor ≤ 65535 ∧ (∀ d ∈ g.pending, 2 ≤ d ∧ d ≤ 65535)
    ∧ (if g.running then 1 ≤ g.countdown ∧ g.countdown ≤ 65535 else g.pending = none ∧ g.countdown = 0)

/-- Every generator's values lie in their ranges (R114). -/
def State.gensInRange (s : State) : Prop := ∀ g : GenIx, s.gens[g].inRange

/-- A line's values lie in their ranges: the agreement count stays below Q, and a delay in progress has samples left
(R121, R122, R124). -/
def TrigLine.inRange (l : TrigLine) : Prop :=
  1 ≤ l.qualifier ∧ l.qualifier ≤ 255 ∧ l.agreement < l.qualifier ∧ (l.delaying = true → 1 ≤ l.delayCount)
    ∧ l.delay ≤ 16777215 ∧ l.ignored ≤ 4294967295 ∧ l.delayCount ≤ 16777215 ∧ l.delayApplied ≤ 16777215
    ∧ l.edgeTime < 281474976710656

/-- Every line's values and the Reference Time lie in their ranges (R120, R121). -/
def State.linesInRange (s : State) : Prop := (∀ k : LineIx, s.trig.lines[k].inRange) ∧ s.trig.refTime < 281474976710656

/-! ## Step Fetch in order -/

/-- The request reads a step slot or a segment entry for the channel under the epoch. -/
def Transfer.isStepReadOf (c : Chan) (epoch : BitVec 8) : Transfer → Bool
  | .stepSlotRead c' e _ => decide (c' = c) && e == epoch
  | .segmentEntryRead c' e => decide (c' = c) && e == epoch
  | _ => false

/-- The epoch a fetch or sample request carries (R39). -/
def Transfer.epoch? : Transfer → Option (BitVec 8)
  | .streamRequest _ e _ _ => some e
  | .bankLoad _ e _ _ _ _ => some e
  | .stepSlotRead _ e _ => some e
  | .segmentEntryRead _ e => some e
  | _ => none

/-- The requests that stand and that no RESET has orphaned. -/
def State.standingLive (s : State) : List Request := (if s.port.discard then [] else s.port.inFlight.toList) ++ s.port.waiting

/-- How many more purges and armings a channel can meet before a transfer in flight completes: a stop and a timeout while it
plays, and an arming and a stop by the one order the unit can take (R39, R132). -/
def State.epochsAhead (s : State) (c : Chan) : Nat :=
  if s.online then
    (if s.chans[c].play.state.counts then (if s.chans[c].fetch.window = [] then 1 else 2) else 0)
      + (if s.orders.state = .standby ∨ s.orders.state = .reading then 2 else 0)
  else 0

/-- The loop counter map has room for the change a context makes when it is placed (R20, check 11; R31). -/
def mapHasRoom (ctx : StepContext) (map : List (Nat × Nat)) : Prop :=
  ctx.body.nextKind = some .jump → 2 ≤ ctx.body.passes → mapEntry map ctx.slot = none → map.length < 8

/-- One channel's fetch context and pool share are in order: the window holds at most 4 entries and has room while a read is to
fill it (R24, R27); the loop counter map holds at most 8 entries under distinct keys (R31); the stream queue with the reserve fits
the stream capacity (R51); at most one step read and one sample request of the current epoch stand (R26, R32), a stream request
within the reserve (R52); what waits is of the current epoch, and what is in flight is a few epochs old at most (R39, R40); the
retired steps still owed are streamed, and none is left when the data cursor is none (R54, R59; log 40); and a channel that plays
nothing is purged (R22, R62). -/
def State.fetchOrdered (s : State) (c : Chan) : Prop :=
  let f := s.chans[c].fetch
  let p := s.chans[c].pool
  f.window.length ≤ 4
    ∧ (f.reader = .slotRead ∨ f.reader = .entryRead ∨ f.reader = .atFrontier ∨ f.reader = .bankWait → f.window.length ≤ 3)
    ∧ f.map.length ≤ 8 ∧ (f.map.map Prod.fst).Nodup ∧ (∀ ctx ∈ f.held, mapHasRoom ctx f.map)
    ∧ p.queue.length + p.reserve ≤ (s.settings c).capacity
    ∧ (∀ r ∈ s.port.waiting, r.kind.chan? = some c → r.kind.epoch? = some f.epoch)
    ∧ (∀ r ∈ s.port.inFlight, s.port.discard = false → r.kind.chan? = some c →
        ∀ e ∈ r.kind.epoch?, (f.epoch - e).toNat + s.epochsAhead c ≤ 4)
    ∧ (s.standingLive.filter fun r => r.kind.isStepReadOf c f.epoch).length
        ≤ (if f.reader = .slotRead ∨ f.reader = .entryRead then 1 else 0)
    ∧ (s.standingLive.filter fun r => r.kind.isSampleOf c f.epoch).length ≤ 1
    ∧ (∀ r ∈ s.standingLive, ∀ n format, r.kind = .streamRequest c f.epoch n format → n ≤ p.reserve)
    ∧ (∀ ctx ∈ f.owed, ctx.resident = false) ∧ (f.data = none → f.owed = [])
    ∧ (s.chans[c].play.state.counts = false →
        f.reader = .off ∧ f.window = [] ∧ f.held = none ∧ f.data = none ∧ p.queue = [] ∧ p.reserve = 0
          ∧ ∀ r ∈ s.standingLive, r.kind.chan? = some c → r.kind.epoch? ≠ some f.epoch)

/-- Every channel's fetch context and pool share are in order, and no channel plays while a CONFIGURE is in execution (R137). -/
def State.fetchesOrdered (s : State) : Prop :=
  (∀ c : Chan, s.fetchOrdered c)
    ∧ ∀ h ∈ s.orders.inHand, s.orders.state = .executing → h.order = .configure →
        ∀ c : Chan, s.chans[c].play.state.counts = false

/-! ## What a HALT and a purge leave of a channel -/

/-- The playout of a channel after a HALT (R95). -/
def haltedPlay (p : Play) : Play :=
  match p.state with
  | .idle => { p with group := none }
  | .faulted => { p with state := .idle, wait := .none, group := none }
  | .mirroring => { p with state := .idle, wait := .none, group := none }
  | _ => { p with state := .idle, wait := .none, pendingStop := .none, lastStop := .halt, episode := 0, group := none }

/-- The fetch context of a channel purged by a stop, a fault or a HALT (R40). -/
def purgedFetch (f : Fetch) : Fetch :=
  { f with
    reader := .off
    data := none
    window := []
    held := none
    map := []
    epoch := f.epoch + 1
    frontier := false
    nudge := false
    poll := 0
    accepted := none
    owed := [] }

/-- A marker's one-shot after a HALT: QUIET with no counts, its line active only under a set latch (R112, R113). -/
def haltedMarker (m : OneShot) : OneShot :=
  { m with phase := .quiet, delayCount := 0, widthCount := 0, line := m.latch != m.inverted }

/-- A pool share that holds nothing (R62, R63). -/
def emptyShare : Pool := ⟨[], 0, 0, .free, .free⟩

/-! ## Playing channels -/

/-- The channel plays `ctx`: RUNNING with the context at the head of its window (R64). -/
def Channel.plays (ch : Channel) (ctx : StepContext) : Prop := ch.play.state = .running ∧ ch.headStep = some ctx

/-- No channel mirrors `c`. -/
def State.unmirrored (s : State) (c : Chan) : Prop := s.mirrorsOf c = []

/-! ## Expiries -/

/-- A generator right after its expiry: a pending divisor has become the divisor, and the countdown is loaded (R115). -/
def reloaded (g : Gen) : Gen :=
  { running := g.running, divisor := g.pending.getD g.divisor, pending := none, countdown := g.pending.getD g.divisor }

/-- The channel is the one channel attached to the generator, which runs. -/
def State.soleOn (s : State) (g : GenIx) (c : Chan) : Prop :=
  s.gens[g].running = true ∧ ∀ d : Chan, s.chans[d].play.generator = g ↔ d = c

/-- The position after one more expiry of a playing step, as pass, offset and hold count; none when the step is over with
that expiry (R68, R79, R80). -/
def nextPosition (p : Play) (ctx : StepContext) : Option (Nat × Nat × Nat) :=
  if ctx.body.rep = 0 ∧ ctx.body.exitCut = true ∧ p.advanceSeen = true then none
  else if p.holdCount + 1 < ctx.hold then some (p.pass, p.offset, p.holdCount + 1)
  else if p.offset + 1 < ctx.wEff then some (p.pass, p.offset + 1, 0)
  else if ctx.body.rep = 0 then if p.advanceSeen = true then none else some (p.pass, 0, 0)
  else if p.pass < ctx.body.rep then some (p.pass + 1, 0, 0)
  else none

/-- The offset and the hold count after a step's last expiry: both back at 0 at a pass end, and the position moved on within a pass
that an advance has cut short (R68, R80; log 6). -/
def lastPosition (p : Play) (ctx : StepContext) : Nat × Nat :=
  if p.holdCount + 1 < ctx.hold then (p.offset, p.holdCount + 1)
  else if p.offset + 1 < ctx.wEff then (p.offset + 1, 0)
  else (0, 0)

/-- A playing channel as its expiry is counted and, at a step start, the step's position, levels and markers are taken in; at
the start of a later pass the EACH_PASS one-shots start again (R66, R69, R108, R109). -/
def startedChannel (ch : Channel) (ctx : StepContext) : Channel :=
  let p := ch.play
  let l := ch.level
  let counted := (p.sampleCount + 1) % 281474976710656
  if p.stepExpiries = 0 then
    { ch with
      play := { p with
        sampleCount := counted
        offset := 0
        holdCount := 0
        pass := 1
        advanceSeen := false
        takeMissed := false }
      level := { l with
        gain := if ctx.body.levelsPresent then ctx.body.gain else l.defGain
        offset := if ctx.body.levelsPresent then ctx.body.offset else l.defOffset
        stepClips := 0
        markers := #v[l.markers[0].takeSetting ctx.body.markers[0], l.markers[1].takeSetting ctx.body.markers[1]] } }
  else if p.offset = 0 ∧ p.holdCount = 0 then
    { ch with
      play := { p with sampleCount := counted }
      level := { l with markers := #v[l.markers[0].passStart, l.markers[1].passStart] } }
  else { ch with play := { p with sampleCount := counted } }

/-- A channel whose lane shows the level computation of a raw sample, clips counted, its marker lines presented and its
one-shots counted (R98, R99, R108, R109, R112). -/
def shownChannel (ch : Channel) (raw : Int) : Channel :=
  let l := ch.level
  let y := (raw * l.gain + 8192) / 16384 + l.offset
  let clips := decide (y < -32768 ∨ 32767 < y)
  let code := if y < -32768 then -32768 else if 32767 < y then 32767 else y
  { ch with
    level := { l with
      lane := code
      expiryCode := code
      stepClips := if clips then min 4294967295 (l.stepClips + 1) else l.stepClips
      clipped := if clips then (l.clipped + 1) % 4294967296 else l.clipped
      idleDue := false
      markers := #v[(l.markers[0].present true).count, (l.markers[1].present true).count] }
    perRecord := if clips then ch.perRecord ||| 0x002 else ch.perRecord
    accumulated := if clips then ch.accumulated ||| 0x002 else ch.accumulated }

/-- A channel whose lane shows a code outside RUNNING, its markers inactive but for a set latch (R102, R103, R112). -/
def restingChannel (ch : Channel) (code : Int) : Channel :=
  { ch with
    level := { ch.level with
      lane := code
      expiryCode := code
      idleDue := false
      markers := #v[ch.level.markers[0].present false, ch.level.markers[1].present false] } }

/-- The frontier poll at an expiry that the channel counts (R38, log 22): a reader AT_FRONTIER counts it while polling is on, and
the expiry at which the count reaches the poll value, of which 1 to 63 are taken as 64, raises the re-read and enters SLOT_READ. -/
def State.polled (s : State) (c : Chan) : State :=
  let f := s.chans[c].fetch
  let v := (s.settings c).frontierPoll
  if f.reader = .atFrontier ∧ v ≠ 0 then
    if f.poll + 1 < (if v < 64 then 64 else v) then
      { s with chans := s.chans.set c { s.chans[c] with fetch := { f with poll := f.poll + 1 } } }
    else
      { s with
        chans := s.chans.set c { s.chans[c] with fetch := { f with poll := f.poll + 1, reader := .slotRead } }
        port := s.port.after [readOf (.stepSlotRead c f.epoch true) (s.slotAddr c f.cursor) 64] }
  else s

/-- The fetch context of a reader that the decision step `ctx` may have paused, once the step's wait is satisfied or its group
launches (R34): paused, the reader goes on with the step's successor, and is in WINDOW_FULL where the window has no room. -/
def resumedFetch (f : Fetch) (ctx : StepContext) : Fetch :=
  if ctx.decision = true ∧ f.reader = .decisionPause then
    match ctx.successor with
    | none => { f with reader := .listEnd }
    | some slot => { f with cursor := slot, reader := if f.window.length < 4 then .slotRead else .windowFull }
  else f

/-- The slot read that a resumed reader raises (R34). -/
def State.resumeReads (s : State) (c : Chan) (ctx : StepContext) : List Request :=
  let f := s.chans[c].fetch
  match ctx.successor with
  | some slot =>
    if ctx.decision = true ∧ f.reader = .decisionPause ∧ f.window.length < 4 then
      [readOf (.stepSlotRead c f.epoch false) (s.slotAddr c slot) 64]
    else []
  | none => []

/-! ## What an expiry of one channel leaves -/

/-- A channel's record as it is raised: its Time is the channel sample count, and it takes the channel's conditions along when
it is handed over (R165, R172). -/
def chanRecord (c : Chan) (kind : RecordKind) (time slot detailA detailB : Nat) : Record :=
  { kind, source := .channel c, slot, conditions := 0, time, detailA, detailB }

/-- A channel after a STARVED record of `count` expiries has been raised (R76, R81). -/
def starvedChannel (ch : Channel) (count : Nat) : Channel :=
  { ch with
    play := { ch.play with samplesHeld := (ch.play.samplesHeld + count) % 4294967296, episode := 0 }
    perRecord := ch.perRecord ||| 0x001
    accumulated := ch.accumulated ||| 0x001 }

/-- How a playing step obtains the raw sample of its position (R54, R58, R67): the sample, the channel's pool share after it,
whether the sample was obtained, whether the take of this source sample found the queue empty, and whether the data feeder is
asked. -/
def Channel.obtains (b : Channel) (ctx : StepContext) (raw : Int) (pool : Pool) (obtained missed fed : Bool) : Prop :=
  ctx.resident = false ∧ b.play.holdCount = 0
      ∧ (∃ rest, b.pool.queue = raw :: rest ∧ pool = { b.pool with queue := rest })
      ∧ obtained = true ∧ missed = false ∧ fed = true
    ∨ ctx.resident = false ∧ b.play.holdCount = 0 ∧ b.pool.queue = [] ∧ raw = b.play.heldRaw
      ∧ pool = { b.pool with deficit := b.pool.deficit + 1 } ∧ obtained = false ∧ missed = true ∧ fed = false
    ∨ ctx.resident = false ∧ b.play.holdCount ≠ 0 ∧ raw = b.play.heldRaw ∧ pool = b.pool
      ∧ obtained = (!b.play.takeMissed) ∧ missed = b.play.takeMissed ∧ fed = false
    ∨ ctx.resident = true ∧ b.pool.bankRead ctx b.play.offset = some raw ∧ pool = b.pool
      ∧ obtained = true ∧ missed = b.play.takeMissed ∧ fed = false
    ∨ ctx.resident = true ∧ b.pool.bankRead ctx b.play.offset = none ∧ raw = b.play.heldRaw ∧ pool = b.pool
      ∧ obtained = false ∧ missed = b.play.takeMissed ∧ fed = false

/-- A playing channel after it has output a sample and its position has moved on: an obtained sample ends a starvation episode,
a held one counts toward it (R67, R68, R81). -/
def playedChannel (b : Channel) (ctx : StepContext) (raw : Int) (pool : Pool) (obtained missed : Bool)
    (position : Nat × Nat × Nat) : Channel :=
  let starved := if obtained = true ∧ 0 < b.play.episode then starvedChannel b b.play.episode else b
  shownChannel { starved with
    pool := pool
    play := { starved.play with
      pass := position.1
      offset := position.2.1
      holdCount := position.2.2
      heldRaw := raw
      takeMissed := missed
      stepExpiries := b.play.stepExpiries + 1
      episode := if obtained then 0 else b.play.episode + 1
      episodeSlot := if obtained then b.play.episodeSlot else ctx.slot } } raw

/-- The records a step raises at its expiry: STEP_START at a reported start, STARVED where an episode ends (R69, R81). `b` is the
channel with its expiry counted. -/
def playingRecords (c : Chan) (b : Channel) (ctx : StepContext) (obtained : Bool) : List Record :=
  (if b.play.stepExpiries = 0 ∧ ctx.body.reportStart = true then
      [chanRecord c .stepStart b.play.sampleCount ctx.slot ctx.body.segment 0] else [])
    ++ if obtained = true ∧ 0 < b.play.episode then
      [chanRecord c .starved b.play.sampleCount b.play.episodeSlot b.play.episode 0] else []

/-- The state after one channel's action at an expiry: the channel in place, the data feeder asked if it is to be, and the
records handed over (R52, R165). -/
def State.afterAction (s : State) (c : Chan) (ch : Channel) (fed : Bool) (records : List Record) : State :=
  let s1 := { s with chans := s.chans.set c ch }
  State.handOverAll records (if fed then s1.feed c else s1)

/-- The state in which a step has output its last sample, the data feeder asked if it is to be, its boundary still to come (R68,
R80). -/
def State.lastSample (s : State) (c : Chan) (ctx : StepContext) (b : Channel) (raw : Int) (pool : Pool)
    (obtained missed fed : Bool) : State :=
  let s1 := { s with
    chans := s.chans.set c (playedChannel b ctx raw pool obtained missed (b.play.pass, lastPosition b.play ctx)) }
  if fed then s1.feed c else s1

/-- A DATA wait or FRONTIER stay that finds the data of its head step: the channel with the stay's count spent, and the record
that ends the stay (R75 to R77). -/
def Channel.endsStay (ch : Channel) (c : Chan) (ctx : StepContext) (ended : Channel) (records : List Record) : Prop :=
  let time := (ch.play.sampleCount + 1) % 281474976710656
  ch.headStep = some ctx ∧ ch.dataPresent ctx = true
    ∧ (ch.play.state = .frontier ∧ ended = { ch with play := { ch.play with episode := 0 } }
        ∧ records = [chanRecord c .frontierLeft time ctx.slot ch.play.episode 0]
      ∨ ch.play.state = .waiting ∧ ch.play.wait = .data true ∧ ended = starvedChannel ch ch.play.episode
        ∧ records = [chanRecord c .starved time ctx.slot ch.play.episode 1]
      ∨ ch.play.state = .waiting ∧ ch.play.wait = .data false
        ∧ ended = { ch with play := { ch.play with episode := 0 } } ∧ records = [])

/-- A channel that becomes RUNNING with its step about to start (R69, R75). -/
def enteredChannel (ch : Channel) : Channel :=
  { ch with
    play := { ch.play with state := .running, wait := .none, stepExpiries := 0 }
    level := { ch.level with stepClips := 0 } }

/-! ## Boundaries, stops and faults -/

/-- What a channel that stops or faults outside RUNNING's boundaries leaves open (R76, R81): an open starvation episode, or a
late DATA wait, as its STARVED record and the channel after it. -/
def Channel.closesEpisode (ch : Channel) (c : Chan) (closed : Channel) (records : List Record) : Prop :=
  let p := ch.play
  p.state = .running ∧ 0 < p.episode ∧ closed = starvedChannel ch p.episode
      ∧ records = [chanRecord c .starved p.sampleCount p.episodeSlot p.episode 0]
    ∨ p.state = .waiting ∧ p.wait = .data true ∧ closed = starvedChannel ch p.episode
      ∧ records = [chanRecord c .starved p.sampleCount (p.lastRetired.getD p.startSlot) p.episode 1]
    ∨ (p.state = .running → p.episode = 0) ∧ (p.state = .waiting → p.wait ≠ .data true) ∧ closed = ch ∧ records = []

/-- The step reader goes on after it has placed a step (R28): paused at a decision point, at the end of the list, on with the read
of the successor's slot, or in WINDOW_FULL where the window has no room. -/
def State.readsOn (s : State) (c : Chan) (ctx : StepContext) : State :=
  let f := s.chans[c].fetch
  let goOn := fun (after : Fetch) => { s with chans := s.chans.set c { s.chans[c] with fetch := after } }
  if ctx.decision then goOn { f with reader := .decisionPause }
  else match ctx.successor with
    | none => goOn { f with reader := .listEnd }
    | some slot =>
      if f.window.length < 4 then
        State.raise (goOn { f with cursor := slot, reader := .slotRead })
          (readOf (.stepSlotRead c f.epoch false) (s.slotAddr c slot) 64)
      else goOn { f with cursor := slot, reader := .windowFull }

/-- A step context is placed (R25, R28, R31, R32, R56): it joins the tail of the window with its map change and its bank, which
becomes LOADING; a data cursor at none moves to its first sample; the data feeder is asked, and the reader goes on. -/
def State.placed (s : State) (c : Chan) (ctx : StepContext) (bank : Option BankId) : State :=
  let f := s.chans[c].fetch
  let p := s.chans[c].pool
  State.readsOn
    (State.feed { s with
      chans := s.chans.set c { s.chans[c] with
        fetch := { f with
          window := f.window ++ [.step { ctx with bank := bank }]
          map := mapAfter ctx.body ctx.slot f.map
          accepted := none
          held := none
          data := if f.data = none then some (.step { ctx with bank := bank } 1 0) else f.data }
        pool := match bank with
          | some .a => { p with bankA := .loading ctx.occ [] }
          | some .b => { p with bankB := .loading ctx.occ [] }
          | none => p } } c) c ctx

/-- The retired steps that a data cursor has still to reach (R54, R59; log 40). -/
def owedBeyond (owed : List StepContext) : Option DataCursor → List StepContext
  | some (.step d _ _) => owed.filter fun o => decide (d.occ < o.occ)
  | _ => []

/-- A resident step's release at its retirement (R59): its bank becomes FREE, its load is withdrawn, the data cursor leaves it for
the next entry, and the data feeder is asked. -/
def State.released (s : State) (c : Chan) (occ : Nat) : State :=
  let f := s.chans[c].fetch
  let p := s.chans[c].pool
  let left := { f with data := f.cursorAfter occ, owed := owedBeyond f.owed (f.cursorAfter occ) }
  State.feed { s with
    chans := s.chans.set c { s.chans[c] with
      fetch := match f.data with
        | some (.step d _ _) => if d.occ = occ then left else f
        | _ => f
      pool := { p with
        bankA := if p.bankA.occ? = some occ then .free else p.bankA
        bankB := if p.bankB.occ? = some occ then .free else p.bankB } }
    port := { s.port with waiting := s.port.waiting.filter fun r =>
      match r.kind with
      | .bankLoad d _ o _ _ _ => !(decide (d = c) && decide (o = occ))
      | _ => true } } c

/-- The requests that a step's retirement raises: its retire write if Consume is set (R41), then the slot read of a reader that
waited in WINDOW_FULL for room (R30). -/
def State.retireRequests (s : State) (c : Chan) (ctx : StepContext) : List Request :=
  let f := s.chans[c].fetch
  (if ctx.body.consume then [s.retireOf c ctx] else [])
    ++ if f.reader = .windowFull then [readOf (.stepSlotRead c f.epoch false) (s.slotAddr c f.cursor) 64] else []

/-- The retired steps whose samples the data cursor has still to reach, once `ctx` has retired: a streamed one joins them while the
cursor stands on a step before it (R54, R59; log 40). -/
def owedAfter (f : Fetch) (ctx : StepContext) : List StepContext :=
  match f.data with
  | some (.step d _ _) => if ctx.resident = false ∧ d.occ < ctx.occ then f.owed ++ [ctx] else f.owed
  | _ => f.owed

/-- A channel right after its playing step has retired: the step has left the window and is counted, a reader that waited for room
reads on, and the marker phases are QUIET (R30, R70, R112). -/
def retiredChannel (ch : Channel) (ctx : StepContext) (offset : Nat) : Channel :=
  { ch with
    fetch := { ch.fetch with
      window := ch.fetch.window.tail
      owed := owedAfter ch.fetch ctx
      reader := if ch.fetch.reader = .windowFull then .slotRead else ch.fetch.reader }
    play := { ch.play with
      offset := offset, retired := (ch.play.retired + 1) % 4294967296, lastRetired := some ctx.slot }
    level := { ch.level with
      markers := #v[{ ch.level.markers[0] with phase := .quiet }, { ch.level.markers[1] with phase := .quiet }] } }

/-- Where a channel that does not stop or fault goes at a boundary, and the records it raises there: on into an IMMEDIATE step, into
the wait of a step with another Entry, into FRONTIER, or into a late DATA wait; an open episode ends with its STARVED record
(R71, R72, R76, R77, R81). -/
def Channel.goesOn (ch : Channel) (c : Chan) (went : Channel) (records : List Record) : Prop :=
  (∃ next : StepContext, ch.head = some (.step next) ∧ next.body.entry = some .immediate ∧ records = []
      ∧ went = { ch with play := { ch.play with stepExpiries := 0 }, level := { ch.level with stepClips := 0 } })
    ∨ (∃ (next : StepContext) (wait : WaitReason) (left : Channel), ch.head = some (.step next)
        ∧ ((∃ k : LineIx, next.body.entry = some (.trigger k) ∧ wait = .trigger k)
          ∨ next.body.entry = some .leader ∧ ch.noLeader c = false ∧ wait = .leader)
        ∧ ch.closesEpisode c left records
        ∧ went = { left with play := { left.play with state := .waiting, wait := wait, waitCount := 0 } })
    ∨ (∃ (left : Channel) (starved : List Record), ch.head = none ∧ ch.play.pendingStop ≠ .drain
        ∧ ch.closesEpisode c left starved
        ∧ (ch.fetch.frontier = false ∧ records = starved
            ∧ went = { left with play := { left.play with state := .waiting, wait := .data true, episode := 0 } }
          ∨ ch.fetch.frontier = true
            ∧ records = starved ++ [chanRecord c .frontier ch.play.sampleCount ch.fetch.cursor 0 0]
            ∧ went = { left with
                play := { left.play with state := .frontier, wait := .none, episode := 0 }
                level := { left.level with idleDue := true }
                perRecord := left.perRecord ||| 0x004
                accumulated := left.accumulated ||| 0x004 }))

/-- The context held in BANK_WAIT that the retirement of `ctx` lets in, with the bank it takes, none where there is no such
(R29): the bank of the retiring step, the other one not being FREE. -/
def Channel.letsIn (ch : Channel) (ctx : StepContext) (placed : Option (StepContext × BankId)) : Prop :=
  (ctx.resident = false ∨ ch.fetch.reader ≠ .bankWait) ∧ placed = none
    ∨ (∃ (held : StepContext) (id : BankId), ctx.resident = true ∧ ch.fetch.reader = .bankWait
        ∧ ch.fetch.held = some held ∧ (ch.pool.bank id).occ? = some ctx.occ
        ∧ (∀ other : BankId, other ≠ id → ch.pool.bank other ≠ .free ∧ (ch.pool.bank other).occ? ≠ some ctx.occ)
        ∧ placed = some (held, id))

/-- The state right after a playing step's retirement (R29, R30, R41, R59, R70): its requests are raised, a resident step's bank is
released, and a held context is placed. -/
def State.retires (s : State) (c : Chan) (ctx : StepContext) (offset : Nat) (placed : Option (StepContext × BankId)) : State :=
  let base := { s with
    chans := s.chans.set c (retiredChannel s.chans[c] ctx offset)
    port := s.port.after (s.retireRequests c ctx) }
  let freed := if ctx.resident then base.released c ctx.occ else base
  match placed with
  | some (held, id) => freed.placed c held (some id)
  | none => freed

/-- The STEP_END record of a reported step that retires (R70). -/
def Channel.endRecords (ch : Channel) (c : Chan) (ctx : StepContext) : List Record :=
  if ctx.body.reportEnd then
    [chanRecord c .stepEnd ch.play.sampleCount ctx.slot ch.play.stepExpiries ch.level.stepClips]
  else []

/-- A marker at a stop or fault between expiries: QUIET, its line active under a set latch only; `latched` says that the stop
sets the end-of-play latch (R111, R112). -/
def stoppedMarker (latched : Bool) (m : OneShot) : OneShot :=
  let latch := m.latch || (latched && decide (m.mode = .endOfPlay))
  { m with phase := .quiet, latch := latch, line := latch != m.inverted }

/-- A channel purged by a stop or a fault between expiries, its lane at the idle level (R40, R62, R102, R111, R112). -/
def quietedChannel (ch : Channel) (latched : Bool) : Channel :=
  { ch with
    fetch := purgedFetch ch.fetch
    pool := emptyShare
    level := { ch.level with
      lane := ch.level.idle
      idleDue := false
      markers := #v[stoppedMarker latched ch.level.markers[0], stoppedMarker latched ch.level.markers[1]] } }

/-- A channel that has faulted (R89); `closed` is the channel with its open episode ended. -/
def faultedChannel (closed : Channel) (cause : FaultCause) : Channel :=
  let condition : BitVec 9 := if cause = .memoryError then 0x040 else 0x020
  { quietedChannel closed false with
    play := { closed.play with state := .faulted, wait := .none, pendingStop := .none, faultCause := cause, episode := 0 }
    perRecord := closed.perRecord ||| condition
    accumulated := closed.accumulated ||| condition }

/-- A channel that has stopped at a boundary (R85, R86, R88, R93): purged, its lane to turn to the idle level at the next expiry
(R102), its marker lines standing until then, a DRAIN and an END setting the end-of-play latches (R111). -/
def stoppedAtBoundary (closed : Channel) (reason : StopReason) : Channel :=
  let ended := fun (m : OneShot) =>
    { m with phase := .quiet, latch := m.latch || (decide (reason = .drain ∨ reason = .endStep) && decide (m.mode = .endOfPlay)) }
  let condition : BitVec 9 := if reason = .leaderGone then 0x080 else 0
  { closed with
    fetch := purgedFetch closed.fetch
    pool := emptyShare
    play := { closed.play with state := .idle, wait := .none, pendingStop := .none, lastStop := reason, episode := 0 }
    level := { closed.level with idleDue := true, markers := #v[ended closed.level.markers[0], ended closed.level.markers[1]] }
    perRecord := closed.perRecord ||| condition
    accumulated := closed.accumulated ||| condition }

/-- The reason with which a channel stops at a boundary after `ctx` (R70, R71, R85, R86, R93): END, a pending STEP_END, a pending
DRAIN where the window is empty, LEADER_GONE at a LEADER entry without a leader. -/
def Channel.stopsAtBoundary (ch : Channel) (c : Chan) (ctx : StepContext) (reason : StopReason) : Prop :=
  ctx.body.nextKind = some .endStep ∧ reason = .endStep
    ∨ ctx.body.nextKind ≠ some .endStep ∧ ch.play.pendingStop = .stepEnd ∧ reason = .stepEnd
    ∨ ctx.body.nextKind ≠ some .endStep ∧ ch.play.pendingStop ≠ .stepEnd
      ∧ (ch.head = none ∧ ch.play.pendingStop = .drain ∧ reason = .drain
        ∨ (∃ next : StepContext, ch.head = some (.step next) ∧ next.body.entry = some .leader) ∧ ch.noLeader c = true
          ∧ reason = .leaderGone)

/-- What becomes of a channel at a boundary after `ctx` has retired, with the records it raises there: it goes on, stops, or faults
at an invalid marker (R70, R71). -/
def Channel.leavesBoundary (ch : Channel) (c : Chan) (ctx : StepContext) (went : Channel) (records : List Record) : Prop :=
  ctx.body.nextKind ≠ some .endStep ∧ ch.play.pendingStop ≠ .stepEnd ∧ ch.goesOn c went records
    ∨ (∃ (closed : Channel) (starved : List Record), ch.closesEpisode c closed starved
      ∧ ((∃ reason : StopReason, ch.stopsAtBoundary c ctx reason
            ∧ records = starved ++ [chanRecord c .channelStopped closed.play.sampleCount ctx.slot reason.code 0]
            ∧ went = stoppedAtBoundary closed reason)
        ∨ (∃ (occ slot : Nat) (sub : SubCode), ctx.body.nextKind ≠ some .endStep ∧ ch.play.pendingStop ≠ .stepEnd
            ∧ ch.head = some (.invalid occ slot sub)
            ∧ records = starved ++ [chanRecord c .channelFault closed.play.sampleCount slot 1 sub.code]
            ∧ went = faultedChannel closed (.stepInvalid sub))))

/-- The port with a purged channel's waiting requests withdrawn (R160). -/
def Port.purgedOf (p : Port) (c : Chan) : Port :=
  { p with waiting := p.waiting.filter fun r => !decide (r.kind.chan? = some c) }

/-- The state after a boundary: the channel as it went on, stopped or faulted, a purged one's requests withdrawn, the records
handed over and the status block written (R160, R165, R176). -/
def State.leftBoundary (s : State) (c : Chan) (went : Channel) (records : List Record) : State :=
  State.writeStatusBlock
    (State.handOverAll records { s with
      chans := s.chans.set c went
      port := if went.play.state.counts then s.port else s.port.purgedOf c }) c

/-- The state after the timeout of a decision step under no pending DRAIN, `before` the records raised ahead of it (R35, R40,
R74): the step is retired, the channel purged with its loop counters kept, its reader on the Branch Target, waiting for data, not
late. -/
def State.afterTimeout (s : State) (c : Chan) (ctx : StepContext) (before : List Record) : State :=
  let ch := s.chans[c]
  State.writeStatusBlock
    (State.handOverAll (before ++ [chanRecord c .waitTimeout ch.play.sampleCount ctx.slot ctx.body.branchTarget 0])
      { s with
        chans := s.chans.set c { ch with
          play := { ch.play with
            state := .waiting
            wait := .data false
            retired := (ch.play.retired + 1) % 4294967296
            lastRetired := some ctx.slot
            episode := 0 }
          fetch := { purgedFetch ch.fetch with
            map := ch.fetch.map
            cursor := ctx.body.branchTarget
            reader := .slotRead }
          pool := emptyShare
          level := { ch.level with
            markers := #v[{ ch.level.markers[0] with phase := .quiet }, { ch.level.markers[1] with phase := .quiet }] }
          perRecord := ch.perRecord ||| 0x010
          accumulated := ch.accumulated ||| 0x010 }
        port := ((s.port.after (s.retireRequests c ctx)).purgedOf c).after
          [readOf (.stepSlotRead c (ch.fetch.epoch + 1) false) (s.slotAddr c ctx.body.branchTarget) 64] }) c

/-- A channel's membership after the channel `c` has left its group, which it does only while ARMED (R144): the others' mask loses
it, and their leader is the lowest-numbered member that remains. -/
def State.groupWithout (s : State) (c d : Chan) : Option Membership :=
  match s.chans[c].play.state, s.chans[c].play.group with
  | .armed, some m =>
    let rest := m.mask &&& ~~~(1#8 <<< c.val)
    if d = c then none
    else if rest.getLsbD d.val then
      s.chans[d].play.group.map fun g =>
        { g with mask := rest, leader := ((allChans.filter fun e => rest.getLsbD e.val).head?).getD g.leader }
    else s.chans[d].play.group
  | _, _ => s.chans[d].play.group

/-- A stop in a mode completes at once, with its reason (R83). -/
def Channel.stopsAtOnce (ch : Channel) (mode : Byte) (reason : StopReason) : Prop :=
  ch.play.state = .armed ∧ reason = .cut
    ∨ ch.play.state = .running ∧ mode = 0 ∧ reason = .cut
    ∨ (ch.play.state = .waiting ∨ ch.play.state = .frontier)
      ∧ (mode = 0 ∧ reason = .cut ∨ mode = 1 ∧ reason = .stepEnd
        ∨ mode = 2 ∧ (ch.play.state = .frontier ∨ ∃ late : Bool, ch.play.wait = .data late) ∧ reason = .drain)

/-- What an invalid marker placed as the first entry of an ARMED channel leaves: the channel faults at once with the marker's
sub-code, purged, and leaves its group (R27, R89, R144). -/
def State.faultedAtFirst (s t : State) (c : Chan) (sub : SubCode) : Prop :=
  t.chans[c].play.state = .faulted ∧ t.chans[c].play.faultCause = .stepInvalid sub ∧ t.chans[c].play.group = none
    ∧ t.chans[c].play.wait = .none ∧ t.chans[c].play.pendingStop = .none
    ∧ t.chans[c].fetch = { purgedFetch s.chans[c].fetch with nextOcc := s.chans[c].fetch.nextOcc + 1 }
    ∧ t.chans[c].pool = emptyShare ∧ t.chans[c].level.lane = s.chans[c].level.idle
    ∧ t.chans[c].accumulated.getLsbD 5 = true ∧ t.chans[c].perRecord = 0
    ∧ t.engine = s.engine ∧ t.gens = s.gens ∧ t.trig = s.trig ∧ t.orders = s.orders

/-! ## Mirrors -/

/-- A mirror whose marker lines follow its source's with COPY, and are low with OFF (R106). -/
def mirrorLines (m source : Channel) : Channel :=
  { m with level := { m.level with
    markers := #v[{ m.level.markers[0] with line := m.level.markerCopy && source.level.markers[0].line },
                  { m.level.markers[1] with line := m.level.markerCopy && source.level.markers[1].line }] } }

/-- A mirror whose lane shows its own idle level, its marker lines following (R105, R106). -/
def mirrorAtIdle (m source : Channel) : Channel :=
  mirrorLines { m with level := { m.level with lane := m.level.idle, idleDue := false } } source

/-- A mirror whose lane shows the level computation of its source's raw sample with its own levels, clips counted, its marker
lines following (R99, R105, R106). -/
def mirrorShowing (m source : Channel) (raw : Int) : Channel :=
  let clips := levelClips raw m.level.mirrorGain m.level.mirrorOffset
  mirrorLines { m with
    level := { m.level with
      lane := levelCode raw m.level.mirrorGain m.level.mirrorOffset
      clipped := if clips then (m.level.clipped + 1) % 4294967296 else m.level.clipped
      idleDue := false }
    perRecord := if clips then m.perRecord ||| 0x002 else m.perRecord
    accumulated := if clips then m.accumulated ||| 0x002 else m.accumulated } source

/-- A mirror after an expiry at which its source played, or showed its wait level, with that code shown: where the source then
stopped or entered FRONTIER the mirror turns to its own idle level with it at the next expiry, and where it faulted at once (R89,
R102, R105, R106; log 11). -/
def mirrorAfter (shown source : Channel) : Channel :=
  if source.play.state = .faulted then mirrorAtIdle shown source
  else if source.play.state = .idle ∨ source.play.state = .frontier then
    { shown with level := { shown.level with idleDue := true } }
  else shown

/-- The channel leaves its DATA wait or FRONTIER stay for the step `ctx` at its next expiry (R75). -/
def Channel.leavesFor (ch : Channel) (ctx : StepContext) : Prop :=
  (ch.play.state = .frontier ∨ ch.play.state = .waiting ∧ ∃ late : Bool, ch.play.wait = .data late)
    ∧ ch.headStep = some ctx ∧ ch.dataPresent ctx = true

/-- The channel, ARMED alone, launches with the step `ctx` at its next expiry (R91, R92). -/
def State.launchesAlone (s : State) (c : Chan) (ctx : StepContext) : Prop :=
  s.chans[c].play.state = .armed ∧ s.chans[c].headStep = some ctx ∧ s.launchDue c = true
    ∧ ∃ m : Membership, s.chans[c].play.group = some m ∧ ∀ d : Chan, m.mask.getLsbD d.val = true ↔ d = c

/-! ## Trigger lines -/

/-- The commands by which an IDLE or ended line delivers a trigger event on line `k`, with the edge time and the delay applied
of the event (R123, R124, R126). -/
def State.deliversBy (s : State) (k : LineIx) (i : Instr) (edge applied : Nat) : Prop :=
  let l := s.trig.lines[k]
  s.online = true
    ∧ (i = .triggerEvent k ∧ l.delaying = true ∧ l.delayCount = 0 ∧ edge = l.edgeTime ∧ applied = l.delayApplied
      ∨ (∃ v : BitVec 32, i = .strike v ∧ ∀ j : LineIx, v.getLsbD j.val = decide (j = k)) ∧ l.delaying = false ∧ l.delay = 0
          ∧ edge = s.trig.refTime ∧ applied = 0
      ∨ i = .qualifiedEdge k ∧ l.qualifier ≤ l.agreement ∧ l.mode.takes (!l.stable) = true ∧ l.delaying = false ∧ l.delay = 0
          ∧ edge = s.trig.refTime ∧ applied = 0)

/-- The registered level has now agreed Q times against the stable level: at this trigger sample the stable level changes
(R122). -/
def TrigLine.accepts (l : TrigLine) : Bool := l.registered != l.stable && decide (l.qualifier ≤ l.agreement + 1)

/-- A qualified edge falls at this trigger sample: an accepted change that matches the edge mode (R123). -/
def TrigLine.edgeNow (l : TrigLine) : Bool := l.accepts && l.mode.takes (!l.stable)

/-- The line delivers no event at this trigger sample (R124). -/
def TrigLine.deliversNothing (l : TrigLine) : Prop :=
  if l.delaying then 2 ≤ l.delayCount else l.edgeNow = true → 1 ≤ l.delay

/-- A line after a trigger sample at which it delivers nothing (R122 to R125). -/
def sampledLine (l : TrigLine) (pin : Bool) (refTime : Nat) : TrigLine :=
  let counted := if l.delaying then { l with delayCount := l.delayCount - 1 } else l
  let level := { counted with
    registered := pin
    stable := if l.accepts then !l.stable else l.stable
    agreement := if l.registered = l.stable ∨ l.accepts = true then 0 else l.agreement + 1 }
  if l.edgeNow then
    if l.delaying then { level with ignored := min 4294967295 (l.ignored + 1) }
    else { level with delaying := true, delayCount := l.delay, delayApplied := l.delay, edgeTime := refTime }
  else level

/-- A line after the first trigger sample since GO, at which it delivers nothing: a delay in progress counts, the pin's level becomes
registered and stable, and nothing is compared (R122, R124). -/
def firstSampledLine (l : TrigLine) (pin : Bool) : TrigLine :=
  { l with
    delayCount := if l.delaying then l.delayCount - 1 else l.delayCount
    registered := pin
    stable := pin
    agreement := 0 }

/-! ## Records -/

/-- The write of a record into a ring slot (R166, R168). -/
def State.recordWrite (s : State) (q : QueuedRecord) (overwrite : Bool) (slot dropped : Nat) : Request :=
  writeOf (.reportRecord q.record.kind overwrite) (busAddr (s.ring.1 + 32 * slot)) (recordBytes q.record s.report.seq dropped)

/-- The write of the engine conditions word that raising RING_OVERRUN makes, none while the set has it (R175). -/
def State.overrunWrite (s : State) : List Request :=
  if s.report.overrun then [] else [writeOf .engineConditions (s.pageAddr 0x100) [1, 0, 0, 0, 0, 0, 0, 0]]

/-! ## START and STOP -/

/-- A member's start fields pass checks 3 and 4 of R139. -/
def State.startFieldsPass (s : State) (generators : Vector Byte 8) (slots : Vector (BitVec 16) 8) (c : Chan) : Prop :=
  generators[c].toNat ≤ 3 ∧ (0 < (s.settings c).allotment → slots[c].toNat < (s.settings c).listSize)

/-- A member is to be armed (R140): IDLE or FAULTED, no mirror's source, with a pool share, and on the group's generator. -/
def State.toBeArmed (s : State) (generators : Vector Byte 8) (lowestMember c : Chan) : Prop :=
  (s.chans[c].play.state = .idle ∨ s.chans[c].play.state = .faulted) ∧ s.unmirrored c
    ∧ (s.settings c).allotment ≠ 0 ∧ generators[c] = generators[lowestMember]

/-- A channel armed by a START (R43, R90, R141, R142): its lane shows the idle level, its markers are inactive but for a set
latch (R102, R112). -/
def armedChannel (ch : Channel) (m : Membership) (slot : BitVec 16) : Channel :=
  { ch with
    play := { ch.play with
      state := .armed
      wait := .none
      sampleCount := 0
      group := some m
      faultCause := .none
      generator := m.generator
      startSlot := slot.toNat
      lastRetired := none }
    fetch := { ch.fetch with map := [], epoch := ch.fetch.epoch + 1, cursor := slot.toNat, reader := .slotRead }
    level := { ch.level with
      lane := ch.level.idle
      idleDue := false
      markers := #v[ch.level.markers[0].present false, ch.level.markers[1].present false] } }

/-- The pending stop a mode leaves (R83): a harsher mode replaces a milder one. -/
def pendingAfter (p : PendingStop) (mode : Byte) : PendingStop :=
  if mode = 1 then .stepEnd else if p = .none then .drain else p

/-! ## Fields in bytes -/

/-- The number that `n` bytes from an offset hold, the least significant byte first (R191). -/
def fieldAt (bytes : List Byte) (offset n : Nat) : Nat :=
  ((List.range n).map fun i => (bytes.getD (offset + i) 0).toNat * 256 ^ i).sum

/-- A count as an `n`-byte field shows it, held at the field's largest value (R152, R172). -/
def heldAt (n count : Nat) : Nat := min count (256 ^ n - 1)

end Sys2Proof.Machine
end

