-- ==== Sys2Proof/WellFormed.lean ====
section
/-! DEFINITION. Which command terms are commands the outside can send: a completion carries every byte its read asked
for (R154, R155), an unknown order kind is none of the nine, an ignored register write is one that R182 and R192
ignore. -/

namespace Sys2Proof

/-- The answer holds exactly `n` bytes, or is an error (R159). -/
def ReadAnswer.hasSize (n : Nat) : ReadAnswer → Bool
  | .data bytes => bytes.length == n
  | .error => true

/-- The answer holds between 1 and 128 bytes, or is an error: 64 samples of two bytes at most (R155). -/
def ReadAnswer.isBurst : ReadAnswer → Bool
  | .data bytes => 1 ≤ bytes.length && bytes.length ≤ 128
  | .error => true

/-- The kind byte names one of the nine order kinds (11.6). -/
def knownOrderKind (kind : Byte) : Bool := 1 ≤ kind.toNat && kind.toNat ≤ 9

/-- A register write at `offset` of `value` that has no behaviour of its own (R182, R192): a write of ID, a write of
ENGINE whose command field is none of GO, HALT and RESET, or, as the model's choice (log 29), a write at an offset that is none
of the six registers. -/
def ignoredWrite (offset value : BitVec 32) : Bool :=
  let command := value.toNat % 256
  match offset.toNat with
  | 0x04 => false
  | 0x08 => !(1 ≤ command && command ≤ 3)
  | 0x0C => false
  | 0x10 => false
  | 0x14 => false
  | _ => true

/-- The well-formed commands. -/
def Instr.wf : Instr → Bool
  | .goConfigReadComplete a => a.hasSize 256
  | .orderSlotReadComplete a => a.hasSize 64
  | .unknownOrderKind _ kind => !knownOrderKind kind
  | .configureReadComplete a => a.hasSize 256
  | .stepSlotReadComplete a => a.hasSize 64
  | .segmentEntryReadComplete a => a.hasSize 16
  | .streamRequestComplete a => a.isBurst
  | .bankLoadComplete a => a.isBurst
  | .reportsTakenReadComplete a => a.hasSize 8
  | .registerWriteIgnored offset value => ignoredWrite offset value
  | .powerOn | .reset | .go | .halt | .page _ | .channelNudge _ | .orderNudge | .reportRoomNudge | .strike _ | .attn _ => true
  | .configure _ | .start _ _ _ _ _ | .stop _ _ _ | .setRate _ _ _ _ | .setLevels _ _ _ _ _ _ => true
  | .triggerSetup _ _ _ _ _ _ | .mirrorSetup _ _ _ _ _ _ | .clearConditions _ _ _ | .snapshot _ _ => true
  | .snapshotWriteComplete _ | .orderResultWriteComplete _ | .orderHeadWriteComplete _ | .slotRetireWriteComplete _ => true
  | .reportRecordWriteComplete _ | .reportsWrittenWriteComplete _ | .statusBlockWriteComplete _ => true
  | .engineConditionsWriteComplete _ | .completionAfterReset | .expiry _ | .passEnd _ | .stepBoundary _ => true
  | .waitTimeout _ | .frontierPoll _ | .markerDelayElapsed _ _ | .markerWidthElapsed _ _ | .qualifiedEdge _ => true
  | .triggerEvent _ | .triggerSample _ => true

end Sys2Proof
end

