-- ==== Sys2Proof/Certificates/Slice0/Obligations.lean ====
section
/-! DEFINITION. The statements for the provers. -/

open Sys2Proof Sys2Proof.Machine

/-! ## The machine -/

/-- Log 3: a step carries out the command at the front of the queue, with the rest of the queue waiting. -/
def Obligations.StepCarriesOutTheFrontCommand : Prop :=
  ∀ (c : Instr) (rest : List Instr) (s : State),
    step { s with pending := c :: rest } = exec c { s with pending := rest }

/-- The model's choice (logs 3 and 4): on an empty queue one reference period passes. While no generator's countdown ends
in it and no trigger sample falls in it, the countdowns of the RUNNING generators fall by 1 (R115), the phase of trigger
sampling moves on (R120), and nothing else changes. With one generator's countdown ending in it, that generator makes its
expiry; and the eighth period while ONLINE makes a trigger sample of the pins' present levels (R120). -/
def Obligations.EmptyQueuePassesOneReferencePeriod : Prop :=
  (∀ s : State, s.pending = [] → ∃ t, step s = .next t)
  ∧ (∀ (s : State) (phase : Nat), s.pending = [] →
      (∀ g : GenIx, s.gens[g].running = true → 2 ≤ s.gens[g].countdown) →
      (s.online = true → s.refPhase ≠ 7) →
      phase = (if s.refPhase < 8 then s.refPhase + 1 else 1) →
      step s = .next { s with
        gens := vec4 fun g =>
          if s.gens[g].running then { s.gens[g] with countdown := s.gens[g].countdown - 1 } else s.gens[g]
        refPhase := phase })
  ∧ (∀ (s : State) (phase : Nat) (g : GenIx), s.pending = [] →
      s.gens[g].running = true → s.gens[g].countdown = 1 →
      (∀ h : GenIx, h ≠ g → s.gens[h].running = true → 2 ≤ s.gens[h].countdown) →
      (s.online = true → s.refPhase ≠ 7) →
      phase = (if s.refPhase < 8 then s.refPhase + 1 else 1) →
      step s = exec (.expiry g) { s with
        gens := vec4 fun h =>
          if s.gens[h].running then { s.gens[h] with countdown := s.gens[h].countdown - 1 } else s.gens[h]
        refPhase := phase })
  ∧ (∀ s : State, s.pending = [] → s.online = true → s.refPhase = 7 →
      (∀ g : GenIx, s.gens[g].running = true → 2 ≤ s.gens[g].countdown) →
      step s = exec (.triggerSample s.pins) { s with
        gens := vec4 fun g =>
          if s.gens[g].running then { s.gens[g] with countdown := s.gens[g].countdown - 1 } else s.gens[g]
        refPhase := 8 })

/-- Every command answers a next state: what the spec calls a fault or a halt is a state of the block (R89, R187). And the
model's choice (log 3): no command changes the queue of waiting commands. -/
def Obligations.EveryCommandAnswersNextAndKeepsTheQueue : Prop :=
  ∀ (i : Instr) (s : State), ∃ t, exec i s = .next t ∧ t.pending = s.pending

/-! ## The registers -/

/-- R181, R178: a write of PAGE is taken as the PAGE value in DORMANT or HALTED with the starting flag clear, and ignored
otherwise; a write of 1 to ATTN clears attention pending, and a write of 0 leaves it as it is. And R181, R182 with 11.10: what ID,
PAGE, ATTN and each assigned field of ENGINE read (the halt field is one of the Configuration Record's 256 bytes). That bits 12 to
15 of ENGINE read 0 while the cause is not CONFIG_INVALID is the model's reading (log 37). -/
def Obligations.PageAndAttnWrites : Prop :=
  (∀ (v : BitVec 32) (s : State),
    (s.engine.state ≠ .online → s.engine.starting = false →
      exec (.page v) s = .next { s with engine := { s.engine with page := v } })
    ∧ (s.engine.state = .online ∨ s.engine.starting = true → exec (.page v) s = .next s)
    ∧ (v.getLsbD 0 = true → exec (.attn v) s = .next { s with report := { s.report with attention := false } })
    ∧ (v.getLsbD 0 = false → exec (.attn v) s = .next s))
  ∧ (∀ s : State, readRegister s 0x00 = 0x4B3A0880 ∧ readRegister s 0x04 = s.engine.page
      ∧ (readRegister s 0x14).getLsbD 0 = s.report.attention)
  ∧ (∀ (s : State) (e : EngineControl) (r : BitVec 32), s.haltFieldFits → e = s.engine → r = readRegister s 0x08 →
    r.extractLsb' 0 2 = (match e.state with | .dormant => 0 | .online => 1 | .halted => 2)
    ∧ r.getLsbD 2 = e.starting
    ∧ r.extractLsb' 4 3 = (match e.cause with
        | .none => 0 | .hostHalt => 1 | .configInvalid => 2 | .pageReadError => 3 | .writeError => 4)
    ∧ r.extractLsb' 8 3 = (match e.detail with
        | .configuration => 1 | .taken => 2
        | .requester .report => 1 | .requester .statusBlock => 2 | .requester .slotRetire => 3
        | .requester .orderResult => 4 | .requester .snapshot => 5
        | .none => 0 | .field _ _ => 0)
    ∧ (∀ (field : Nat) (channel : Option Chan), e.cause = .configInvalid → e.detail = .field field channel →
      r.extractLsb' 12 4 = (match channel with | some c => BitVec.ofNat 4 c.val | none => 15)
      ∧ (r.extractLsb' 16 8).toNat = field ∧ r.getLsbD 24 = true)
    ∧ (e.cause ≠ .configInvalid →
      r.extractLsb' 12 4 = 0 ∧ r.extractLsb' 16 8 = 0 ∧ r.getLsbD 24 = false))

/-- R182, R183: a GO taken in DORMANT or HALTED sets the starting flag and this GO's page base and raises the read of the
256-byte Configuration Record; ONLINE or starting, it is ignored. -/
def Obligations.GoRaisesTheConfigurationRead : Prop :=
  ∀ s : State, s.port.idleEmpty →
    (s.engine.state ≠ .online → s.engine.starting = false →
      exec .go s = .next { s with
        engine := { s.engine with starting := true, goBase := some (s.engine.page.toNat * 4096) }
        port := s.port.after [readOf .configReadGo (s.engine.page.toNat * 4096) 256] })
    ∧ (s.engine.state = .online ∨ s.engine.starting = true → exec .go s = .next s)

/-- R190 with R37: a channel nudge of an ONLINE engine raises a re-read at a reader AT_FRONTIER, sets nudge pending at one in
SLOT_READ, and does nothing else; while a GO is starting its latches are held, and otherwise it is ignored. -/
def Obligations.ChannelNudgeReachesTheReaders : Prop :=
  ∀ (mask : BitVec 8) (s : State), s.port.idleEmpty →
    (s.engine.state = .online →
      exec (.channelNudge mask) s = .next { s with
        chans := vec8 fun c =>
          let ch := s.chans[c]
          if mask.getLsbD c.val then
            match ch.fetch.reader with
            | .atFrontier => { ch with fetch := { ch.fetch with reader := .slotRead } }
            | .slotRead => { ch with fetch := { ch.fetch with nudge := true } }
            | _ => ch
          else ch
        port := s.port.after
          ((allChans.filter fun c => mask.getLsbD c.val && decide (s.chans[c].fetch.reader = .atFrontier)).map fun c =>
            readOf (.stepSlotRead c s.chans[c].fetch.epoch true) (s.slotAddr c s.chans[c].fetch.cursor) 64) })
    ∧ (s.engine.state ≠ .online → s.engine.starting = true →
      exec (.channelNudge mask) s = .next { s with
        engine := { s.engine with nudgeChannels := s.engine.nudgeChannels ||| mask } })
    ∧ (s.engine.state ≠ .online → s.engine.starting = false → exec (.channelNudge mask) s = .next s)

/-- R190 with R133 and R170: while ONLINE an order nudge makes a unit in STANDBY read the slot under the next index and sets
the recheck latch of any other, and a report-room nudge raises the Taken read when the ring has no room by the copy and none
is outstanding, and does nothing in every other case. While a GO is starting the latches are held; otherwise both writes are
ignored. -/
def Obligations.OrderAndRoomNudges : Prop :=
  ∀ s : State, s.port.idleEmpty →
    (s.engine.state = .online → s.orders.state = .standby →
      exec .orderNudge s = .next { s with
        orders := { s.orders with state := .reading, recheck := false }
        port := s.port.after [s.orderSlotRequest] })
    ∧ (s.engine.state = .online → s.orders.state ≠ .standby →
      exec .orderNudge s = .next { s with orders := { s.orders with recheck := true } })
    ∧ (s.engine.state = .online → s.ring.2 ≤ s.report.untaken s.report.copy → s.report.taken = .none →
      exec .reportRoomNudge s = .next { s with
        report := { s.report with taken := .outstanding }
        port := s.port.after [readOf .reportsTakenRead (s.pageAddr 0x110) 8] })
    ∧ (s.engine.state = .online → s.report.untaken s.report.copy < s.ring.2 ∨ s.report.taken ≠ .none →
      exec .reportRoomNudge s = .next s)
    ∧ (s.engine.state ≠ .online → s.engine.starting = true →
      exec .orderNudge s = .next { s with engine := { s.engine with nudgeOrders := true } }
      ∧ exec .reportRoomNudge s = .next { s with engine := { s.engine with nudgeRoom := true } })
    ∧ (s.engine.state ≠ .online → s.engine.starting = false →
      exec .orderNudge s = .next s ∧ exec .reportRoomNudge s = .next s)

/-- R126 with R124 and R125: a STRIKE of an ONLINE engine whose named lines are DELAYING or have a delay of at least 1. An
IDLE line starts its delay with the Reference Time as it stands; a DELAYING line counts an ignored edge, and EDGE_IGNORED is
raised for every channel that attends it. Off ONLINE the write is ignored. -/
def Obligations.StrikeStartsDelaysOrIsIgnored : Prop :=
  ∀ (v : BitVec 32) (s : State),
    (s.engine.state = .online →
      (∀ k : LineIx, v.getLsbD k.val = true → s.trig.lines[k].delaying = true ∨ 1 ≤ s.trig.lines[k].delay) →
      exec (.strike v) s = .next { s with
        trig := { s.trig with
          lines := vec4 fun k =>
            let l := s.trig.lines[k]
            if v.getLsbD k.val then
              if l.delaying then { l with ignored := min 4294967295 (l.ignored + 1) }
              else { l with delaying := true, delayCount := l.delay, delayApplied := l.delay, edgeTime := s.trig.refTime }
            else l }
        chans := vec8 fun c =>
          let ch := s.chans[c]
          if allLines.any fun k => v.getLsbD k.val && s.trig.lines[k].delaying && ch.attendsLine k then
            { ch with perRecord := ch.perRecord ||| 0x100, accumulated := ch.accumulated ||| 0x100 }
          else ch })
    ∧ (s.engine.state ≠ .online → exec (.strike v) s = .next s)

/-- R192 with R181, R182 and R190: bits that chapter 11 does not assign read as zero and are ignored in writes (the halt field is
one of the Configuration Record's 256 bytes): an ENGINE write is the command of its bits 0 to 7 (R182), a NUDGE write the nudges of
its bits 0 to 9 (R190), and bits 4 and up of STRIKE and 1 and up of ATTN have no effect; an ENGINE write of another command and a
write of ID change nothing; NUDGE and STRIKE read 0. That a write is split into commands, which are well formed and join the queue,
is the model's reading (logs 3 and 9), and that a write at an offset that is none of the six registers is ignored is the model's
choice (log 29). -/
def Obligations.UnassignedRegisterBitsReadZeroAndAreIgnored : Prop :=
  (∀ s : State, s.haltFieldFits →
    (∀ i : Nat, i = 3 ∨ i = 7 ∨ i = 11 ∨ 25 ≤ i → (readRegister s 0x08).getLsbD i = false)
    ∧ (∀ i : Nat, 1 ≤ i → (readRegister s 0x14).getLsbD i = false)
    ∧ readRegister s 0x0C = 0 ∧ readRegister s 0x10 = 0)
  ∧ (∀ (v : BitVec 32) (s : State), exec (.strike v) s = exec (.strike (v &&& 0xF)) s)
  ∧ (∀ (v : BitVec 32) (s : State), exec (.attn v) s = exec (.attn (v &&& 1)) s)
  ∧ (∀ (offset v : BitVec 32) (s : State), Instr.wf (.registerWriteIgnored offset v) = true →
      exec (.registerWriteIgnored offset v) s = .next s)
  ∧ (∀ v : BitVec 32, Instr.wf (.registerWriteIgnored 0 v) = true)
  ∧ (∀ v : BitVec 32, v.toNat % 256 ≠ 1 → v.toNat % 256 ≠ 2 → v.toNat % 256 ≠ 3 →
      Instr.wf (.registerWriteIgnored 8 v) = true)
  ∧ (∀ v : BitVec 32,
      commandsOfWrite 0x00 v = [.registerWriteIgnored 0x00 v] ∧ commandsOfWrite 0x04 v = [.page v]
      ∧ commandsOfWrite 0x10 v = [.strike v] ∧ commandsOfWrite 0x14 v = [.attn v]
      ∧ (v &&& 0xFF = 1 → commandsOfWrite 0x08 v = [.go]) ∧ (v &&& 0xFF = 2 → commandsOfWrite 0x08 v = [.halt])
      ∧ (v &&& 0xFF = 3 → commandsOfWrite 0x08 v = [.reset])
      ∧ (v &&& 0xFF ≠ 1 → v &&& 0xFF ≠ 2 → v &&& 0xFF ≠ 3 → commandsOfWrite 0x08 v = [.registerWriteIgnored 0x08 v])
      ∧ commandsOfWrite 0x0C v =
          (if v &&& 0xFF = 0 then [] else [.channelNudge (v.setWidth 8)])
            ++ (if v.getLsbD 8 then [.orderNudge] else []) ++ (if v.getLsbD 9 then [.reportRoomNudge] else [])
      ∧ commandsOfWrite 0x0C v = commandsOfWrite 0x0C (v &&& 0x3FF))
  ∧ (∀ (offset v : BitVec 32) (i : Instr), i ∈ commandsOfWrite offset v → i.wf = true)
  ∧ (∀ (offset v : BitVec 32) (s : State),
      s.writeRegister offset v = { s with pending := s.pending ++ commandsOfWrite offset v })

/-! ## GO, HALT, power-on and RESET -/

/-- R186: a GO whose Configuration Record read completes with an error, or whose record fails a check, enters HALTED with its
cause, sets attention pending, clears the starting flag and the held nudges, and leaves all else as it stood. The base of the
GO that has ended is the model's own field (log 13). -/
def Obligations.FailedGoEntersHalted : Prop :=
  ∀ (a : ReadAnswer) (cause : HaltCause) (detail : HaltDetail) (s : State),
    s.carriesSize .configReadGo 256 → s.engine.starting = true →
    (a = .error ∧ cause = .pageReadError ∧ detail = .configuration
      ∨ ∃ bytes k, a = .data bytes ∧ bytes.length = 256 ∧ firstRefusal (configRecordOf bytes) = some k
          ∧ cause = .configInvalid ∧ detail = .field k.field k.channel) →
    ∃ base, exec (.goConfigReadComplete a) s = .next (State.portDone { s with
      engine := { s.engine with
        state := .halted
        starting := false
        cause := cause
        detail := detail
        goBase := base
        nudgeChannels := 0
        nudgeOrders := false
        nudgeRoom := false }
      report := { s.report with attention := true }
      port := s.port.ended [] })

/-- R185: a GO whose record passes every check brings the engine ONLINE with the record in force; the Report Unit, the
Reference Time, the trigger lines, the Order Unit and the generators take their GO values, Reports Written is written as 0,
and a held order nudge reads order slot 0. With every fetch context at rest a held channel nudge has no effect (R37); the
fresh ring has room, so a held room nudge has none (R170). The phase of trigger sampling is a free value (log 5), and the
free-value counter is the model's own. -/
def Obligations.AcceptedGoComesOnline : Prop :=
  ∀ (bytes : List Byte) (s : State),
    s.carriesSize .configReadGo 256 → s.engine.starting = true → bytes.length = 256 →
    firstRefusal (configRecordOf bytes) = none →
    (∀ c : Chan, s.chans[c].fetch.reader = .off) →
    exec (.goConfigReadComplete (.data bytes)) s = .next (State.portDone { s with
      engine := {
        state := .online
        starting := false
        cause := .none
        detail := .none
        page := s.engine.page
        goBase := none
        pageBase := s.engine.goBase
        config := some (configOf (configRecordOf bytes))
        nudgeChannels := 0
        nudgeOrders := false
        nudgeRoom := false }
      report := { s.report with
        writePos := 0
        written := 0
        seq := 1
        copy := 0
        newestDropped := 0
        losses := 0
        queue := []
        taken := if s.report.taken = .none then .none else .stale }
      trig := {
        lines := vec4 fun k => { s.trig.lines[k] with
          delaying := false
          agreement := 0
          delayCount := 0
          edgeTime := 0
          delayApplied := 0
          ignored := 0 }
        refTime := 0
        firstDue := true }
      orders := {
        state := if s.engine.nudgeOrders then .reading else .standby
        next := 0
        recheck := false
        inHand := none
        result := none }
      gens := vec4 fun g => { running := false, divisor := s.gens[g].divisor, pending := none, countdown := 0 }
      refPhase := (Config.samplePhase s.freeCount).val
      freeCount := s.freeCount + 1
      port := s.port.ended
        (writeOf (.reportsWritten none) (busAddr (s.engine.goBase.getD 0 + 0x108)) (zeros 8)
          :: if s.engine.nudgeOrders then [readOf .orderSlotRead (busAddr (s.engine.goBase.getD 0 + 0x800)) 64] else []) })

/-- R187 with R44, R95, R113, R119, R130, R153 and R160: a HALT of an ONLINE engine stops, purges and idles the playing channels,
ends every mirror and membership, shows every idle level, stops the generators, returns the trigger lines to IDLE, settles
the Order Unit and enters HALTED with attention pending. The purged channels' fetch and sample requests that wait and the Order
Unit's abandoned ones are withdrawn, and every other request stands. Each stopped channel's CHANNEL_STOPPED record is then handed
over, and the status block of each channel that was not IDLE written, in channel order; nothing else changes. Off ONLINE the HALT
is ignored (R182). That a stopped channel's starvation episode count is 0 is the model's reading (log 32). -/
def Obligations.HaltQuietsTheEngine : Prop :=
  ∀ s : State,
    (s.engine.state = .online →
      ∃ t, exec .halt s = .next t
        ∧ t.engine = { s.engine with state := .halted, starting := false, cause := .hostHalt, detail := .none }
        ∧ t.report.attention = true
        ∧ (∀ c : Chan,
            t.chans[c].play = haltedPlay s.chans[c].play
            ∧ t.chans[c].fetch =
                (if s.chans[c].play.state.counts then purgedFetch s.chans[c].fetch else s.chans[c].fetch)
            ∧ t.chans[c].pool =
                (if s.chans[c].play.state.counts then emptyShare else s.chans[c].pool)
            ∧ t.chans[c].level = { s.chans[c].level with
                mirror := none
                lane := s.chans[c].level.idle
                idleDue := false
                markers := #v[haltedMarker s.chans[c].level.markers[0], haltedMarker s.chans[c].level.markers[1]] }
            ∧ t.chans[c].accumulated = s.chans[c].accumulated)
        ∧ t.gens = vec4 (fun g =>
            { running := false, divisor := s.gens[g].pending.getD s.gens[g].divisor, pending := none, countdown := 0 })
        ∧ t.trig = { s.trig with lines := vec4 fun k =>
            { s.trig.lines[k] with delaying := false, agreement := 0, delayCount := 0 } }
        ∧ (s.orders.state = .closing → t.orders = { s.orders with recheck := false })
        ∧ (s.orders.state ≠ .closing →
            t.orders = { state := .standby, next := s.orders.next, recheck := false, inHand := none, result := none })
        ∧ t.pins = s.pins ∧ t.refPhase = s.refPhase ∧ t.freeCount = s.freeCount ∧ t.pending = s.pending
        ∧ (∀ halted : State,
            halted = { t with
              report := { s.report with attention := true }
              chans := vec8 fun c => { t.chans[c] with perRecord := s.chans[c].perRecord }
              port := { s.port with
                waiting := s.port.waiting.filter fun r =>
                  !((match r.kind.chan? with | some c => s.chans[c].play.state.counts | none => false)
                    || decide (s.orders.state ≠ .closing) && decide (r.kind = .orderSlotRead ∨ r.kind = .configReadOrder
                        ∨ r.kind = .snapshotWrite)) } } →
            t = (allChans.filter fun c => decide (s.chans[c].play.state ≠ .idle)).foldl State.writeStatusBlock
              (State.handOverAll
                ((allChans.filter fun c => s.chans[c].play.state.counts).map fun c =>
                  chanRecord c .channelStopped s.chans[c].play.sampleCount
                    (s.chans[c].play.lastRetired.getD s.chans[c].play.startSlot) 6 0)
                halted)))
    ∧ (s.engine.state ≠ .online → exec .halt s = .next s)

/-- R45: at power-on and at RESET every fetch context takes its power-on values, and the completion of a transfer granted
before the RESET changes none of them. The three fields of a context that the spec does not name are the model's (logs 13 and 40). -/
def Obligations.ResetFetchContexts : Prop :=
  ∀ (s : State) (i : Instr), i = .powerOn ∨ i = .reset →
    ∃ t, exec i s = .next t
      ∧ (∀ c : Chan, ∃ accepted nextOcc owed, t.chans[c].fetch = {
          reader := .off
          cursor := 0
          data := none
          window := []
          held := none
          map := []
          epoch := 0
          frontier := false
          nudge := false
          poll := 0
          accepted := accepted
          nextOcc := nextOcc
          owed := owed })
      ∧ (∃ u, exec .completionAfterReset t = .next u ∧ u.chans = t.chans)

/-- R96, R63, R113, R119, R130, R153, R163, R179, R189: what power-on and RESET leave in every block but the fetch contexts;
RESET keeps the PAGE value and the transfer in flight, whose completion is then discarded (R160). The pins, the phase of the
clock and the counters of the model are outside (logs 3, 5 and 19). -/
def Obligations.ResetValuesOfTheBlocks : Prop :=
  ∀ s : State,
    ∃ t u, exec .powerOn s = .next t ∧ exec .reset s = .next u
      ∧ t.engine = { state := .dormant, starting := false, cause := .none, detail := .none, page := 0, goBase := none,
                     pageBase := none, config := none, nudgeChannels := 0, nudgeOrders := false, nudgeRoom := false }
      ∧ t.orders = { state := .standby, next := 0, recheck := false, inHand := none, result := none }
      ∧ t.port = { busy := false, inFlight := none, discard := false, waiting := [], rr2 := 0, rr3 := 0, rr4 := 0 }
      ∧ (∀ g : GenIx, t.gens[g] = { running := false, divisor := 200, pending := none, countdown := 0 })
      ∧ (∀ k : LineIx, t.trig.lines[k] =
          { mode := .rising, qualifier := 2, delay := 0, capture := false, delaying := false, registered := false,
            stable := false, agreement := 0, delayCount := 0, edgeTime := 0, delayApplied := 0, ignored := 0 })
      ∧ t.trig.refTime = 0
      ∧ t.report = { writePos := 0, written := 0, seq := 1, copy := 0, newestDropped := 0, losses := 0, queue := [],
                     taken := .none, overrun := false, attention := false }
      ∧ (∀ c : Chan,
          t.chans[c].pool = emptyShare
          ∧ t.chans[c].play.state = .idle ∧ t.chans[c].play.wait = .none ∧ t.chans[c].play.pendingStop = .none
          ∧ t.chans[c].play.offset = 0 ∧ t.chans[c].play.holdCount = 0 ∧ t.chans[c].play.pass = 1
          ∧ t.chans[c].play.stepExpiries = 0 ∧ t.chans[c].play.advanceSeen = false ∧ t.chans[c].play.heldRaw = 0
          ∧ t.chans[c].play.waitCount = 0 ∧ t.chans[c].play.episode = 0 ∧ t.chans[c].play.sampleCount = 0
          ∧ t.chans[c].play.group = none ∧ t.chans[c].play.lastStop = .none ∧ t.chans[c].play.faultCause = .none
          ∧ t.chans[c].play.retired = 0 ∧ t.chans[c].play.samplesHeld = 0 ∧ t.chans[c].play.generator = 0
          ∧ t.chans[c].level.defGain = 16384 ∧ t.chans[c].level.defOffset = 0 ∧ t.chans[c].level.idle = 0
          ∧ t.chans[c].level.gain = 16384 ∧ t.chans[c].level.offset = 0 ∧ t.chans[c].level.lane = 0
          ∧ t.chans[c].level.stepClips = 0 ∧ t.chans[c].level.clipped = 0 ∧ t.chans[c].level.mirror = none
          ∧ t.chans[c].level.mirrorGain = 16384 ∧ t.chans[c].level.mirrorOffset = 0
          ∧ t.chans[c].level.markerCopy = false
          ∧ (∀ m : MarkIx, t.chans[c].level.markers[m] =
              { mode := .off, delay := 0, width := 0, inverted := false, phase := .quiet, delayCount := 0,
                widthCount := 0, latch := false, line := false })
          ∧ t.chans[c].perRecord = 0 ∧ t.chans[c].accumulated = 0)
      ∧ t.pins = s.pins ∧ t.refPhase = s.refPhase ∧ t.freeCount = s.freeCount ∧ t.pending = s.pending
      ∧ u = { t with
          engine := { t.engine with page := s.engine.page }
          port := { t.port with
            busy := s.port.inFlight.isSome
            inFlight := s.port.inFlight
            discard := s.port.inFlight.isSome } }

/-! ## Orders

An order row is taken in STANDBY, or as the completion or in place of the slot read in READING (log 7): `State.freed` and
`State.settled` say which, so that each statement covers all three. -/

/-- R136: a kind byte that names none of the nine kinds gives INVALID naming the kind byte at offset 1. And the model's choice
(log 7): an order row does nothing where the unit cannot take an order, off ONLINE or in EXECUTING or CLOSING (R132). -/
def Obligations.UnknownOrdersAndOrdersOutOfTurn : Prop :=
  (∀ (edition : BitVec 32) (kind : Byte) (s : State), s.takesOrders → s.port.idleEmpty →
    exec (.unknownOrderKind edition kind) s =
      .next (s.settled (s.freed.closed (.unknown kind) edition ⟨.invalid, none, some 0x01⟩)))
  ∧ (∀ (order : Order) (edition : BitVec 32) (s : State), ¬ s.takesOrders → exec (order.row edition) s = .next s)

/-- R134: an order slot read that finds the slot accepted is the command of the order it holds; one that does not reads again
under the recheck latch and otherwise stands by; one that fails raises an ORDER_READ_ERROR record besides. That the re-read is
raised before that record's writes is the model's reading (log 21). -/
def Obligations.OrderSlotReadCompletes : Prop :=
  ∀ s : State, s.carriesSize .orderSlotRead 64 → s.orders.state = .reading →
    (∀ bytes : List Byte, bytes.length = 64 → (slotBracket bytes).accepted = true → s.engine.state = .online →
      exec (.orderSlotReadComplete (.data bytes)) s = exec ((orderOf bytes).row (slotBracket bytes).headEdition) s)
    ∧ (∀ bytes : List Byte, bytes.length = 64 → (slotBracket bytes).accepted = false → s.orders.recheck = true →
      exec (.orderSlotReadComplete (.data bytes)) s = .next (State.portDone { s with
        orders := { s.orders with recheck := false }
        port := s.port.ended [s.orderSlotRequest] }))
    ∧ (∀ bytes : List Byte, bytes.length = 64 → (slotBracket bytes).accepted = false → s.orders.recheck = false →
      exec (.orderSlotReadComplete (.data bytes)) s = .next (State.portDone { s with
        orders := { s.orders with state := .standby }
        port := s.port.ended [] }))
    ∧ (∀ record : Record,
      record = { kind := .orderReadError, source := .engine, slot := s.orders.next.val, conditions := 0,
                 time := s.trig.refTime, detailA := 0, detailB := 0 } →
      (s.orders.recheck = true →
        exec (.orderSlotReadComplete .error) s = .next (State.portDone (State.handOver { s with
          orders := { s.orders with recheck := false }
          port := s.port.ended [s.orderSlotRequest] } record)))
      ∧ (s.orders.recheck = false →
        exec (.orderSlotReadComplete .error) s = .next (State.portDone (State.handOver { s with
          orders := { s.orders with state := .standby }
          port := s.port.ended [] } record))))

/-- R137 and R138: CONFIGURE is BUSY with the lowest-numbered playing channel, or raises the Configuration Record's read; the
read's error gives MEMORY_ERROR, a refused record INVALID with the field of the first check that failed and its channel, and
an accepted record is taken into force but for the report ring's base and capacity, with result OK. -/
def Obligations.ConfigureTakesTheRecordButTheRing : Prop :=
  (∀ (edition : BitVec 32) (s : State), s.takesOrders → s.port.idleEmpty →
    (∀ c : Chan, s.chans[c].play.state.counts = true → (∀ d : Chan, d < c → s.chans[d].play.state.counts = false) →
      exec (.configure edition) s =
        .next (s.settled (s.freed.closed .configure edition ⟨.busy, some c, none⟩)))
    ∧ ((∀ c : Chan, s.chans[c].play.state.counts = false) →
      exec (.configure edition) s = .next (s.settled { s.freed with
        orders := { s.orders with state := .executing, inHand := some ⟨.configure, edition⟩ }
        port := s.freed.port.after [readOf .configReadOrder (s.pageAddr 0) 256] })))
  ∧ (∀ (edition : BitVec 32) (s : State),
    s.carriesSize .configReadOrder 256 → s.orders.state = .executing → s.orders.inHand = some ⟨.configure, edition⟩ →
    (exec (.configureReadComplete .error) s = .next (State.portDone { s with
      orders := s.orders.closingWith .configure edition ⟨.memoryError, none, none⟩
      port := s.port.ended [s.resultWrite ⟨.memoryError, none, none⟩] }))
    ∧ (∀ (bytes : List Byte) (k : RecordCheck), bytes.length = 256 → firstRefusal (configRecordOf bytes) = some k →
      exec (.configureReadComplete (.data bytes)) s = .next (State.portDone { s with
        orders := s.orders.closingWith .configure edition ⟨.invalid, k.channel, some k.field⟩
        port := s.port.ended [s.resultWrite ⟨.invalid, k.channel, some k.field⟩] }))
    ∧ (∀ bytes : List Byte, bytes.length = 256 → firstRefusal (configRecordOf bytes) = none →
      exec (.configureReadComplete (.data bytes)) s = .next (State.portDone { s with
        engine := { s.engine with
          config := some { configOf (configRecordOf bytes) with ringBase := s.ring.1, ringCap := s.ring.2 } }
        orders := s.orders.closingWith .configure edition ⟨.ok, none, none⟩
        port := s.port.ended [s.resultWrite ⟨.ok, none, none⟩] })))

/-- R139 and R140: what refuses a START, and with which detail. The checks of fields come first, for one member before the
next in channel order; then the first member in channel order that is not to be armed decides. -/
def Obligations.StartIsRefusedByTheFirstFailure : Prop :=
  ∀ (edition : BitVec 32) (mask condition : Byte) (generators : Vector Byte 8) (slots : Vector (BitVec 16) 8) (s : State)
    (result : OrderResult), s.takesOrders → s.port.idleEmpty →
    (mask = 0 ∧ result = ⟨.invalid, none, some 0x10⟩
      ∨ mask ≠ 0 ∧ 2 ≤ condition.toNat % 4 ∧ result = ⟨.invalid, none, some 0x11⟩
      ∨ (∃ c : Chan, condition.toNat % 4 < 2 ∧ mask.getLsbD c.val = true
          ∧ (∀ d : Chan, d < c → mask.getLsbD d.val = true → s.startFieldsPass generators slots d)
          ∧ (3 < generators[c].toNat ∧ result = ⟨.invalid, some c, some (0x18 + c.val)⟩
            ∨ generators[c].toNat ≤ 3 ∧ 0 < (s.settings c).allotment ∧ (s.settings c).listSize ≤ slots[c].toNat
                ∧ result = ⟨.invalid, some c, some (0x20 + 2 * c.val)⟩))
      ∨ (∃ c lead : Chan, condition.toNat % 4 < 2 ∧ mask.getLsbD c.val = true ∧ mask.getLsbD lead.val = true
          ∧ (∀ d : Chan, d < lead → mask.getLsbD d.val = false)
          ∧ (∀ d : Chan, mask.getLsbD d.val = true → s.startFieldsPass generators slots d)
          ∧ (∀ d : Chan, d < c → mask.getLsbD d.val = true → s.toBeArmed generators lead d)
          ∧ ((s.chans[c].play.state = .mirroring ∨ ¬ s.unmirrored c) ∧ result = ⟨.mode, some c, none⟩
            ∨ s.unmirrored c ∧ s.chans[c].play.state.counts = true ∧ result = ⟨.busy, some c, none⟩
            ∨ s.unmirrored c ∧ (s.chans[c].play.state = .idle ∨ s.chans[c].play.state = .faulted)
                ∧ (s.settings c).allotment = 0 ∧ result = ⟨.noPool, some c, none⟩
            ∨ s.unmirrored c ∧ (s.chans[c].play.state = .idle ∨ s.chans[c].play.state = .faulted)
                ∧ (s.settings c).allotment ≠ 0 ∧ generators[c] ≠ generators[lead]
                ∧ result = ⟨.rateMismatch, some c, none⟩))) →
    exec (.start edition mask condition generators slots) s =
      .next (s.settled (s.freed.closed (.start mask condition generators slots) edition result))

/-- R141 and R142 with R43 and R90: an accepted START arms every member at once and no other channel changes; the members'
slot reads are raised, then their status blocks, then the result OK. That the slot reads are raised in channel order is the
model's reading (log 17). -/
def Obligations.StartArmsEveryMember : Prop :=
  ∀ (edition : BitVec 32) (mask condition : Byte) (generators : Vector Byte 8) (slots : Vector (BitVec 16) 8) (s : State)
    (lead : Chan) (start : StartCondition) (group : Membership), s.takesOrders → s.port.idleEmpty →
    mask.getLsbD lead.val = true → (∀ d : Chan, d < lead → mask.getLsbD d.val = false) →
    (condition.toNat % 4 = 0 ∧ start = .immediate
      ∨ condition.toNat % 4 = 1 ∧ start = .trigger (Fin.ofNat 4 (condition.toNat / 16))) →
    (∀ d : Chan, mask.getLsbD d.val = true → s.startFieldsPass generators slots d ∧ s.toBeArmed generators lead d) →
    group = { mask := mask, leader := lead, condition := start, generator := Fin.ofNat 4 generators[lead].toNat,
              latch := false, launched := false, leaderLost := false } →
    exec (.start edition mask condition generators slots) s = .next (s.settled (State.closedAfter
      { s.freed with
        chans := vec8 fun c =>
          if mask.getLsbD c.val then armedChannel s.chans[c] group slots[c] else s.chans[c] }
      (((allChans.filter fun c => mask.getLsbD c.val).map fun c =>
          readOf (.stepSlotRead c (s.chans[c].fetch.epoch + 1) false) (s.slotAddr c slots[c].toNat) 64)
        ++ (allChans.filter fun c => mask.getLsbD c.val).map fun c =>
          s.blockWrite c (armedChannel s.chans[c] group slots[c]))
      (.start mask condition generators slots) edition ⟨.ok, none, none⟩))

/-- R146 with R83: an undefined mode gives INVALID; a STOP that stops no channel at once leaves it pending at the RUNNING
channels of its mask, and, under DRAIN, at those that wait for a trigger or their leader, and does nothing to the IDLE,
FAULTED and MIRRORING ones; the result is OK. -/
def Obligations.StopThatWaitsBecomesPending : Prop :=
  ∀ (edition : BitVec 32) (mask mode : Byte) (s : State), s.takesOrders → s.port.idleEmpty →
    (3 ≤ mode.toNat →
      exec (.stop edition mask mode) s =
        .next (s.settled (s.freed.closed (.stop mask mode) edition ⟨.invalid, none, some 0x11⟩)))
    ∧ (mode.toNat ≤ 2 →
      (∀ c : Chan, mask.getLsbD c.val = true →
        s.chans[c].play.state.counts = false
          ∨ s.chans[c].play.state = .running ∧ mode ≠ 0
          ∨ s.chans[c].play.inEntryWait = true ∧ mode = 2) →
      exec (.stop edition mask mode) s = .next (s.settled (State.closed
        { s.freed with
          chans := vec8 fun c =>
            if mask.getLsbD c.val && s.chans[c].play.state.counts then
              { s.chans[c] with play := { s.chans[c].play with
                  pendingStop := pendingAfter s.chans[c].play.pendingStop mode } }
            else s.chans[c] }
        (.stop mask mode) edition ⟨.ok, none, none⟩)))

/-- R83, R84, R88 and R160: a STOP leaves each channel of its mask that it stops at once IDLE and purged, with no pending stop, its
lane at the idle level and none of its fetch and sample requests waiting; at the other playing channels of the mask it leaves the
stop pending; it leaves the IDLE, FAULTED and MIRRORING channels in their states, and so every channel outside the mask but
a follower WAITING for a leader the STOP has stopped, which stops with LEADER_GONE (R93). The engine's clocks, trigger lines and
configuration stand, and the result is OK. A CUT of a RUNNING channel retires its playing step, and no other stop retires one. A
STOP of one channel that no other mirrors or follows is given whole, a RUNNING one playing a streamed step: the retire write of a
step with Consume, the slot read of a reader that waited for room (R30), the STARVED record of an open episode or a late DATA wait,
the STEP_END record of a reported step, the CHANNEL_STOPPED record, the status block, then the result; an ARMED channel leaves its
group (R144). The starvation episode count after a stop is the model's (log 32). The port is well formed, as every step keeps
it. -/
def Obligations.CutStopsEveryPlayingChannel : Prop :=
  (∀ (edition : BitVec 32) (mask mode : Byte) (s : State), s.takesOrders → s.port.wf → mode.toNat ≤ 2 →
    ∃ t, exec (.stop edition mask mode) s = .next t
      ∧ (∀ (c : Chan) (reason : StopReason), mask.getLsbD c.val = true → s.chans[c].stopsAtOnce mode reason →
          t.chans[c].play.state = .idle ∧ t.chans[c].play.pendingStop = .none ∧ t.chans[c].play.wait = .none
          ∧ (t.chans[c].play.lastStop = reason
            ∨ t.chans[c].play.lastStop = .leaderGone ∧ s.chans[c].play.wait = .leader)
          ∧ t.chans[c].fetch.window = [] ∧ t.chans[c].fetch.reader = .off ∧ t.chans[c].pool = emptyShare
          ∧ t.chans[c].level.lane = s.chans[c].level.idle
          ∧ (∀ r ∈ t.port.waiting, r.kind.chan? ≠ some c)
          ∧ (s.chans[c].play.state ≠ .running →
            t.chans[c].play.retired = s.chans[c].play.retired ∧ t.chans[c].play.lastRetired = s.chans[c].play.lastRetired)
          ∧ (∀ ctx : StepContext, s.chans[c].plays ctx →
            t.chans[c].play.retired = (s.chans[c].play.retired + 1) % 4294967296
            ∧ t.chans[c].play.lastRetired = some ctx.slot
            ∧ (ctx.body.consume = true → s.retireOf c ctx ∈ t.port.standing)))
      ∧ (∀ c : Chan, mask.getLsbD c.val = true →
          s.chans[c].play.state = .running ∧ mode ≠ 0
            ∨ s.chans[c].play.inEntryWait = true ∧ mode = 2 ∧ s.chans[c].play.wait ≠ .leader →
          t.chans[c].play.state = s.chans[c].play.state ∧ t.chans[c].play.wait = s.chans[c].play.wait
          ∧ t.chans[c].play.pendingStop = pendingAfter s.chans[c].play.pendingStop mode
          ∧ t.chans[c].fetch = s.chans[c].fetch ∧ t.chans[c].pool = s.chans[c].pool)
      ∧ (∀ c : Chan, s.chans[c].play.state.counts = false ∨ mask.getLsbD c.val = false ∧ s.chans[c].play.wait ≠ .leader →
          t.chans[c].play.state = s.chans[c].play.state ∧ t.chans[c].fetch = s.chans[c].fetch
          ∧ t.chans[c].pool = s.chans[c].pool)
      ∧ t.orders = s.orders.closingWith (.stop mask mode) edition ⟨.ok, none, none⟩
      ∧ t.engine = s.engine ∧ t.gens = s.gens ∧ t.trig = s.trig ∧ t.pins = s.pins ∧ t.refPhase = s.refPhase
      ∧ t.freeCount = s.freeCount ∧ t.pending = s.pending)
  ∧ (∀ (edition : BitVec 32) (mask mode : Byte) (s : State) (c : Chan) (reason : StopReason)
      (left closed : Channel) (starved records : List Record) (retire : List Request),
    s.takesOrders → s.port.idleEmpty → mode.toNat ≤ 2 →
    (∀ d : Chan, mask.getLsbD d.val = true ↔ d = c) → s.unmirrored c → s.chans[c].stopsAtOnce mode reason →
    (∀ d : Chan, s.chans[d].follows d c = false) → s.chans[c].closesEpisode c left starved →
    (s.chans[c].play.state ≠ .running ∧ closed = left ∧ records = starved ∧ retire = []
      ∨ ∃ ctx : StepContext, s.chans[c].plays ctx ∧ ctx.resident = false
        ∧ closed = { left with play := { left.play with
            retired := (left.play.retired + 1) % 4294967296, lastRetired := some ctx.slot } }
        ∧ records = starved ++ left.endRecords c ctx ∧ retire = s.retireRequests c ctx) →
    exec (.stop edition mask mode) s = .next (s.settled (State.closed
      (State.writeStatusBlock
        (State.handOverAll
          (records ++ [chanRecord c .channelStopped closed.play.sampleCount
            (closed.play.lastRetired.getD closed.play.startSlot) reason.code 0])
          { s.freed with
            chans := vec8 fun d =>
              if d = c then
                { quietedChannel closed (decide (reason = .drain)) with
                  play := { closed.play with
                    state := .idle
                    wait := .none
                    pendingStop := .none
                    lastStop := reason
                    episode := 0
                    group := s.groupWithout c c } }
              else { s.chans[d] with play := { s.chans[d].play with group := s.groupWithout c d } }
            port := (s.freed.port.after retire).purgedOf c }) c)
      (.stop mask mode) edition ⟨.ok, none, none⟩)))

/-- R147 with R116: an undefined generator or action gives INVALID naming it; otherwise the divisor, 0 and 1 taken as 2, acts
on the named generator by its state, and the result is OK. -/
def Obligations.SetRateActsByTheGeneratorState : Prop :=
  ∀ (edition : BitVec 32) (g a : Byte) (d : BitVec 16) (s : State), s.takesOrders → s.port.idleEmpty →
    (3 < g.toNat →
      exec (.setRate edition g a d) s =
        .next (s.settled (s.freed.closed (.setRate g a d) edition ⟨.invalid, none, some 0x10⟩)))
    ∧ (g.toNat ≤ 3 → 2 < a.toNat →
      exec (.setRate edition g a d) s =
        .next (s.settled (s.freed.closed (.setRate g a d) edition ⟨.invalid, none, some 0x11⟩)))
    ∧ (∀ (i : GenIx) (x y : Gen) (n : Nat), g.toNat = i.val → a.toNat ≤ 2 → x = s.gens[i] →
      n = (if d.toNat < 2 then 2 else d.toNat) →
      y = (if x.running then
             if a = 1 then { running := false, divisor := n, pending := none, countdown := 0 }
             else { x with pending := some n }
           else if a = 0 then { x with running := true, divisor := n, countdown := n }
           else { x with divisor := n }) →
      exec (.setRate edition g a d) s = .next (s.settled (State.closed
        { s.freed with gens := s.gens.set i y } (.setRate g a d) edition ⟨.ok, none, none⟩)))

/-- R148 with R101 and R102: for each channel of the mask SET_LEVELS replaces each flagged value; a new idle level reaches
at once a lane that shows the idle level, in IDLE, ARMED, FRONTIER and FAULTED, and in a mirror whose source shows its own
(R105). The result is OK. What moves between a stop at a boundary and the next expiry (log 33), and for a mirror during a Wait
Level IDLE wait of its source (log 34), is the model's. -/
def Obligations.SetLevelsReplacesFlaggedValues : Prop :=
  ∀ (edition : BitVec 32) (mask flags : Byte) (gain offset idle : BitVec 16) (s : State),
    s.takesOrders → s.port.idleEmpty →
    exec (.setLevels edition mask flags gain offset idle) s = .next (s.settled (State.closed
      { s.freed with
        chans := vec8 fun c =>
          let ch := s.chans[c]
          let l := ch.level
          if mask.getLsbD c.val then
            { ch with level := { l with
              defGain := if flags.getLsbD 0 then gain.toInt else l.defGain
              defOffset := if flags.getLsbD 1 then offset.toInt else l.defOffset
              idle := if flags.getLsbD 2 then idle.toInt else l.idle
              lane := if flags.getLsbD 2 && (ch.play.state.presentsIdle
                  || (decide (ch.play.state = .mirroring) && s.mirrorShowsIdle c)) then idle.toInt else l.lane } }
          else ch }
      (.setLevels mask flags gain offset idle) edition ⟨.ok, none, none⟩))

/-- R149 with R127: an undefined line or edge mode gives INVALID naming it; otherwise the line takes its setup, a qualifier of
0 taken as 1, with agreement count 0 and any delay abandoned, and the result is OK. That the delay count stays as it stood is the
model's reading (log 35). -/
def Obligations.TriggerSetupReplacesTheLineSetup : Prop :=
  ∀ (edition : BitVec 32) (line mode qualifier capture : Byte) (delay : BitVec 32) (s : State),
    s.takesOrders → s.port.idleEmpty →
    (3 < line.toNat →
      exec (.triggerSetup edition line mode qualifier capture delay) s =
        .next (s.settled (s.freed.closed (.triggerSetup line mode qualifier capture delay) edition
          ⟨.invalid, none, some 0x10⟩)))
    ∧ (line.toNat ≤ 3 → 2 < mode.toNat →
      exec (.triggerSetup edition line mode qualifier capture delay) s =
        .next (s.settled (s.freed.closed (.triggerSetup line mode qualifier capture delay) edition
          ⟨.invalid, none, some 0x11⟩)))
    ∧ (∀ (k : LineIx) (m : EdgeMode), line.toNat = k.val →
      (mode = 0 ∧ m = .rising ∨ mode = 1 ∧ m = .falling ∨ mode = 2 ∧ m = .both) →
      exec (.triggerSetup edition line mode qualifier capture delay) s = .next (s.settled (State.closed
        { s.freed with trig := { s.trig with lines := s.trig.lines.set k { s.trig.lines[k] with
            mode := m
            qualifier := if qualifier = 0 then 1 else qualifier.toNat
            delay := (delay &&& 0xFFFFFF).toNat
            capture := capture.getLsbD 0
            agreement := 0
            delaying := false } } }
        (.triggerSetup line mode qualifier capture delay) edition ⟨.ok, none, none⟩)))

/-- R150: what refuses a MIRROR_SETUP, in the order of its table, and what source NONE does to a channel that mirrors
nothing. -/
def Obligations.MirrorSetupIsRefusedByTheFirstFailure : Prop :=
  ∀ (edition : BitVec 32) (channel source copy : Byte) (gain offset : BitVec 16) (s : State) (result : OrderResult),
    s.takesOrders → s.port.idleEmpty →
    (7 < channel.toNat ∧ result = ⟨.invalid, none, some 0x10⟩
      ∨ channel.toNat ≤ 7 ∧ 7 < source.toNat ∧ source ≠ 0xFF ∧ result = ⟨.invalid, none, some 0x11⟩
      ∨ channel.toNat ≤ 7 ∧ source = channel ∧ result = ⟨.invalid, none, some 0x11⟩
      ∨ (∃ c : Chan, channel.toNat = c.val ∧ (source = 0xFF ∨ source.toNat ≤ 7 ∧ source ≠ channel)
          ∧ s.chans[c].play.state.counts = true ∧ result = ⟨.busy, some c, none⟩)
      ∨ (∃ c : Chan, channel.toNat = c.val ∧ source = 0xFF
          ∧ (s.chans[c].play.state = .idle ∨ s.chans[c].play.state = .faulted) ∧ result = ⟨.ok, none, none⟩)
      ∨ (∃ c src : Chan, channel.toNat = c.val ∧ source.toNat = src.val ∧ src ≠ c
          ∧ s.chans[c].play.state.counts = false ∧ s.chans[src].play.state = .mirroring
          ∧ result = ⟨.mode, some src, none⟩)
      ∨ (∃ c src m : Chan, channel.toNat = c.val ∧ source.toNat = src.val ∧ src ≠ c
          ∧ s.chans[c].play.state.counts = false ∧ s.chans[src].play.state ≠ .mirroring
          ∧ s.chans[m].play.state = .mirroring ∧ s.chans[m].level.mirror = some c
          ∧ (∀ d : Chan, d < m → ¬ (s.chans[d].play.state = .mirroring ∧ s.chans[d].level.mirror = some c))
          ∧ result = ⟨.mode, some m, none⟩)) →
    exec (.mirrorSetup edition channel source gain offset copy) s =
      .next (s.settled (s.freed.closed (.mirrorSetup channel source gain offset copy) edition result))

/-- R104, R106, R107 and R150: an accepted MIRROR_SETUP naming a source takes the channel into MIRRORING with the setup, or
keeps it there with the new one; with a source that presents its idle level it takes effect at once. Naming NONE it returns a
mirror to IDLE, showing its idle level. A change of state writes the channel's status block, and the result is OK. That a mirror's
marker lines hold their levels until a setup that does not take effect at once does so is the model's choice (log 39). -/
def Obligations.MirrorSetupEntersAndLeavesTheMode : Prop :=
  ∀ (edition : BitVec 32) (channel source copy : Byte) (gain offset : BitVec 16) (s : State) (c : Chan) (ch : Channel),
    s.takesOrders → s.port.idleEmpty → channel.toNat = c.val → s.unmirrored c → s.chans[c].play.wait = .none →
    (∀ src : Chan, source.toNat = src.val → src ≠ c → s.chans[c].play.state.counts = false →
      s.chans[src].play.state ≠ .mirroring →
      ch = (let old := s.chans[c]
            let fresh := fun (m : OneShot) =>
              if old.play.state = .mirroring then m
              else { m with phase := .quiet, latch := false, inverted := false, line := false }
            let atOnce := s.chans[src].play.state.presentsIdle
            let shown := fun (m x : OneShot) => if atOnce then { m with line := copy.getLsbD 0 && x.line } else m
            { old with
              play := { old.play with state := .mirroring, group := none }
              level := { old.level with
                mirror := some src
                mirrorGain := gain.toInt
                mirrorOffset := offset.toInt
                markerCopy := copy.getLsbD 0
                idleDue := false
                lane := if atOnce then old.level.idle else old.level.lane
                markers := #v[shown (fresh old.level.markers[0]) s.chans[src].level.markers[0],
                              shown (fresh old.level.markers[1]) s.chans[src].level.markers[1]] } }) →
      exec (.mirrorSetup edition channel source gain offset copy) s = .next (s.settled (State.closedAfter
        { s.freed with chans := s.chans.set c ch }
        (if s.chans[c].play.state = .mirroring then [] else [s.blockWrite c ch])
        (.mirrorSetup channel source gain offset copy) edition ⟨.ok, none, none⟩)))
    ∧ (source = 0xFF → s.chans[c].play.state = .mirroring →
      ch = (let old := s.chans[c]
            { old with
              play := { old.play with state := .idle }
              level := { old.level with
                mirror := none
                lane := old.level.idle
                idleDue := false
                markers := #v[old.level.markers[0].present false, old.level.markers[1].present false] } }) →
      exec (.mirrorSetup edition channel source gain offset copy) s = .next (s.settled (State.closedAfter
        { s.freed with chans := s.chans.set c ch } [s.blockWrite c ch]
        (.mirrorSetup channel source gain offset copy) edition ⟨.ok, none, none⟩)))

/-- R151: CLEAR_CONDITIONS empties the accumulated set of each channel of the mask and writes its status block, in channel
order; with the engine flag it empties the engine's set and writes the engine conditions word after them; the result is
OK. -/
def Obligations.ClearConditionsEmptiesAndWrites : Prop :=
  ∀ (edition : BitVec 32) (mask flag : Byte) (s : State), s.takesOrders → s.port.idleEmpty →
    exec (.clearConditions edition mask flag) s = .next (s.settled (State.closedAfter
      { s.freed with
        chans := vec8 fun c => if mask.getLsbD c.val then { s.chans[c] with accumulated := 0 } else s.chans[c]
        report := if flag.getLsbD 0 then { s.report with overrun := false } else s.report }
      (((allChans.filter fun c => mask.getLsbD c.val).map fun c => s.blockWrite c { s.chans[c] with accumulated := 0 })
        ++ if flag.getLsbD 0 then [writeOf .engineConditions (s.pageAddr 0x100) (zeros 8)] else [])
      (.clearConditions mask flag) edition ⟨.ok, none, none⟩))

/-- R152 with R191 and 11.9: a SNAPSHOT at an address that is no multiple of 64 is INVALID; otherwise the 512 bytes of the snapshot
as the state stands are raised as one write, whose confirmation closes the order with OK. Each field stands at its place with its
code, a count held at its field's largest value, and what the layout does not define is zero. What a channel without a membership
shows (log 30) and the delay count of an IDLE line (log 35) are the model's. -/
def Obligations.SnapshotIsWrittenWhole : Prop :=
  (∀ s : State, (snapshotBytes s).length = 512)
  ∧ (∀ (s : State) (b : List Byte), b = snapshotBytes s →
    fieldAt b 0x000 1 = s.engine.state.code ∧ fieldAt b 0x001 1 = s.orders.state.code
    ∧ fieldAt b 0x002 1 = s.orders.next.val ∧ fieldAt b 0x003 1 = s.report.attention.toNat
    ∧ fieldAt b 0x004 1 = s.report.overrun.toNat ∧ fieldAt b 0x005 1 = s.port.busy.toNat
    ∧ fieldAt b 0x006 1 = s.port.rr2.val ∧ fieldAt b 0x007 1 = s.port.rr3.val ∧ fieldAt b 0x008 1 = s.port.rr4.val
    ∧ fieldAt b 0x009 1 = heldAt 1 s.report.queue.length ∧ fieldAt b 0x00A 6 = heldAt 6 s.trig.refTime
    ∧ fieldAt b 0x010 4 = heldAt 4 s.report.writePos ∧ fieldAt b 0x014 4 = heldAt 4 s.report.written
    ∧ fieldAt b 0x018 4 = heldAt 4 s.report.seq ∧ fieldAt b 0x01C 4 = heldAt 4 s.report.copy
    ∧ fieldAt b 0x020 2 = heldAt 2 s.report.newestDropped ∧ fieldAt b 0x022 2 = heldAt 2 s.report.losses
    ∧ (∀ i : Nat, 0x024 ≤ i ∧ i < 0x040 ∨ 0x0A0 ≤ i ∧ i < 0x100 → b.getD i 0 = 0)
    ∧ (∀ (g : GenIx) (at0 : Nat) (x : Gen), at0 = 0x040 + 8 * g.val → x = s.gens[g] →
      fieldAt b at0 1 = x.running.toNat ∧ fieldAt b (at0 + 1) 1 = 0 ∧ fieldAt b (at0 + 2) 2 = heldAt 2 x.divisor
      ∧ fieldAt b (at0 + 4) 2 = heldAt 2 (x.pending.getD 0)
      ∧ fieldAt b (at0 + 6) 2 = if x.running then heldAt 2 x.countdown else 0)
    ∧ (∀ (k : LineIx) (at0 : Nat) (l : TrigLine), at0 = 0x060 + 16 * k.val → l = s.trig.lines[k] →
      fieldAt b at0 1 = l.mode.code ∧ fieldAt b (at0 + 1) 1 = heldAt 1 l.qualifier
      ∧ fieldAt b (at0 + 2) 1 = l.capture.toNat + 2 * l.delaying.toNat + 4 * l.registered.toNat + 8 * l.stable.toNat
      ∧ fieldAt b (at0 + 3) 1 = heldAt 1 l.agreement ∧ fieldAt b (at0 + 4) 4 = heldAt 4 l.delay
      ∧ fieldAt b (at0 + 8) 4 = heldAt 4 l.delayCount ∧ fieldAt b (at0 + 12) 4 = heldAt 4 l.ignored)
    ∧ (∀ (c : Chan) (at0 : Nat) (ch : Channel), at0 = 0x100 + 32 * c.val → ch = s.chans[c] →
      fieldAt b at0 1 = ch.play.state.code ∧ fieldAt b (at0 + 1) 1 = ch.play.wait.code
      ∧ fieldAt b (at0 + 2) 1 = ch.play.pendingStop.code ∧ fieldAt b (at0 + 3) 1 = ch.fetch.reader.code
      ∧ fieldAt b (at0 + 4) 1 = heldAt 1 ch.fetch.window.length ∧ fieldAt b (at0 + 5) 1 = heldAt 1 ch.fetch.map.length
      ∧ fieldAt b (at0 + 6) 1 = ch.fetch.epoch.toNat
      ∧ fieldAt b (at0 + 7) 1 = ch.pool.bankA.code + 4 * ch.pool.bankB.code
      ∧ fieldAt b (at0 + 8) 2 = heldAt 2 ch.fetch.cursor
      ∧ fieldAt b (at0 + 10) 2 = (match ch.headStep with
          | some ctx => if ch.play.state = .running ∨ ch.play.inEntryWait = true then heldAt 2 ctx.slot else 0
          | none => 0)
      ∧ fieldAt b (at0 + 12) 4 = heldAt 4 ch.pool.queue.length ∧ fieldAt b (at0 + 16) 4 = heldAt 4 ch.pool.deficit
      ∧ fieldAt b (at0 + 20) 1 = heldAt 1 ch.pool.reserve
      ∧ (ch.play.group = none → fieldAt b (at0 + 21) 1 = 0xFF ∧ fieldAt b (at0 + 22) 1 = 0
        ∧ fieldAt b (at0 + 30) 1 = ch.fetch.frontier.toNat + 2 * ch.fetch.nudge.toNat)
      ∧ (∀ m : Membership, ch.play.group = some m →
        fieldAt b (at0 + 21) 1 = m.leader.val ∧ fieldAt b (at0 + 22) 1 = m.mask.toNat
        ∧ fieldAt b (at0 + 30) 1 = ch.fetch.frontier.toNat + 2 * ch.fetch.nudge.toNat + 4 * m.launched.toNat
            + 8 * m.leaderLost.toNat + 16 * m.latch.toNat)
      ∧ fieldAt b (at0 + 23) 1 = ch.play.generator.val ∧ fieldAt b (at0 + 24) 6 = heldAt 6 ch.play.sampleCount
      ∧ fieldAt b (at0 + 31) 1 = match ch.level.mirror with | some src => src.val | none => 0xFF))
  ∧ ([EngineState.dormant, .online, .halted].map EngineState.code = [0, 1, 2]
    ∧ [OrderState.standby, .reading, .executing, .closing].map OrderState.code = [0, 1, 2, 3]
    ∧ [EdgeMode.rising, .falling, .both].map EdgeMode.code = [0, 1, 2]
    ∧ [ChannelState.idle, .armed, .running, .waiting, .frontier, .faulted, .mirroring].map ChannelState.code
        = [0, 1, 2, 3, 4, 5, 6]
    ∧ [WaitReason.none, .leader, .data false, .data true].map WaitReason.code = [0, 2, 3, 0x83]
    ∧ (∀ k : LineIx, (WaitReason.trigger k).code = 1 + 16 * k.val)
    ∧ [PendingStop.none, .drain, .stepEnd].map PendingStop.code = [0, 1, 2]
    ∧ [ReaderState.off, .slotRead, .entryRead, .bankWait, .windowFull, .decisionPause, .atFrontier, .listEnd, .blocked].map
        ReaderState.code = [0, 1, 2, 3, 4, 5, 6, 7, 8]
    ∧ (∀ (occ : Nat) (l : List Int), [Bank.free, .loading occ l, .held occ l].map Bank.code = [0, 1, 2]))
  ∧ (∀ (edition : BitVec 32) (address : BitVec 64) (s e : State), s.takesOrders → s.port.idleEmpty →
    e = { s.freed with
      orders := { s.orders with state := .executing, inHand := some ⟨.snapshot address, edition⟩ } } →
    (address.toNat % 64 ≠ 0 →
      exec (.snapshot edition address) s =
        .next (s.settled (s.freed.closed (.snapshot address) edition ⟨.invalid, none, some 0x10⟩)))
    ∧ (address.toNat % 64 = 0 →
      exec (.snapshot edition address) s = .next (s.settled { e with
        port := e.port.after [writeOf .snapshotWrite address.toNat (snapshotBytes e)] })))
  ∧ (∀ (edition : BitVec 32) (address : BitVec 64) (s : State), s.carries .snapshotWrite →
    s.orders.state = .executing → s.orders.inHand = some ⟨.snapshot address, edition⟩ →
    exec (.snapshotWriteComplete .confirmed) s = .next (State.portDone { s with
      orders := s.orders.closingWith (.snapshot address) edition ⟨.ok, none, none⟩
      port := s.port.ended [s.resultWrite ⟨.ok, none, none⟩] }))

/-- R135 and R153: the result write's confirmation raises the write of the DONE head under the slot's kind and edition; the
head write's confirmation finishes the order, and an ONLINE unit reads the next slot while another stands by. -/
def Obligations.OrderIsClosedByTwoWrites : Prop :=
  (∀ (order : Order) (edition : BitVec 32) (s : State), s.carries .orderResult → s.orders.state = .closing →
    s.orders.inHand = some ⟨order, edition⟩ →
    exec (.orderResultWriteComplete .confirmed) s = .next (State.portDone { s with
      port := s.port.ended [writeOf .orderHead (s.pageAddr (0x800 + 64 * s.orders.next.val))
        ([2, order.kindByte, 0, 0] ++ toBytes 4 edition.toNat)] }))
  ∧ (∀ s : State, s.carries .orderHead → s.orders.state = .closing →
    (s.engine.state = .online →
      exec (.orderHeadWriteComplete .confirmed) s = .next (State.portDone { s with
        orders := { state := .reading, next := s.orders.next + 1, recheck := false, inHand := none, result := none }
        port := s.port.ended
          [readOf .orderSlotRead (s.pageAddr (0x800 + 64 * ((s.orders.next.val + 1) % 16))) 64] }))
    ∧ (s.engine.state ≠ .online →
      exec (.orderHeadWriteComplete .confirmed) s = .next (State.portDone { s with
        orders := { s.orders with state := .standby, next := s.orders.next + 1, inHand := none, result := none }
        port := s.port.ended [] })))

/-! ## Completions -/

/-- R41, R159 and R178: a slot retire, status block or engine conditions write confirmed ends its transfer and nothing else;
a record that overwrote the newest slot, and a Reports Written word that counts a record, set attention pending when the
notice mask in force has the record's kind. -/
def Obligations.ConfirmedWritesNotice : Prop :=
  ∀ (s e : State), e = { s with port := s.port.ended [] } →
    ((∃ c, s.carries (.slotRetire c)) → exec (.slotRetireWriteComplete .confirmed) s = .next e.portDone)
    ∧ ((∃ c, s.carries (.statusBlock c)) → exec (.statusBlockWriteComplete .confirmed) s = .next e.portDone)
    ∧ (s.carries .engineConditions → exec (.engineConditionsWriteComplete .confirmed) s = .next e.portDone)
    ∧ (s.carries (.reportsWritten none) → exec (.reportsWrittenWriteComplete .confirmed) s = .next e.portDone)
    ∧ (∀ kind : RecordKind, s.carries (.reportRecord kind false) →
      exec (.reportRecordWriteComplete .confirmed) s = .next e.portDone)
    ∧ (∀ (kind : RecordKind) (k : EngineConfig), s.engine.config = some k →
      (s.carries (.reportRecord kind true) →
        exec (.reportRecordWriteComplete .confirmed) s = .next (State.portDone { e with
          report := { s.report with attention := s.report.attention || k.notice.getLsbD kind.code } }))
      ∧ (s.carries (.reportsWritten (some kind)) →
        exec (.reportsWrittenWriteComplete .confirmed) s = .next (State.portDone { e with
          report := { s.report with attention := s.report.attention || k.notice.getLsbD kind.code } })))

/-- R162 and R188: a write that completes with an error halts an ONLINE engine with cause WRITE_ERROR and its requester, sets
attention pending, idles every channel and stops every generator; off ONLINE it is a second failure. Off ONLINE nothing changes
but this: after a closing write's error the Order Unit stands by with no order in hand (R153), its next index not advanced, which
it is not ONLINE either; and the Reports Written write that counts a record whose own write failed in a fresh slot, the first of
its kind that waits, no longer sets attention pending when it completes (R178). -/
def Obligations.WriteErrorHaltsTheEngine : Prop :=
  ∀ (i : Instr) (r : Requester) (s : State),
    (i = .slotRetireWriteComplete .error ∧ (∃ c, s.carries (.slotRetire c)) ∧ r = .slotRetire
      ∨ i = .statusBlockWriteComplete .error ∧ (∃ c, s.carries (.statusBlock c)) ∧ r = .statusBlock
      ∨ i = .engineConditionsWriteComplete .error ∧ s.carries .engineConditions ∧ r = .statusBlock
      ∨ i = .reportRecordWriteComplete .error ∧ (∃ k o, s.carries (.reportRecord k o)) ∧ r = .report
      ∨ i = .reportsWrittenWriteComplete .error ∧ (∃ k, s.carries (.reportsWritten k)) ∧ r = .report
      ∨ i = .orderResultWriteComplete .error ∧ s.carries .orderResult ∧ r = .orderResult
      ∨ i = .orderHeadWriteComplete .error ∧ s.carries .orderHead ∧ r = .orderResult
      ∨ i = .snapshotWriteComplete .error ∧ s.carries .snapshotWrite ∧ r = .snapshot) →
    (s.engine.state = .online →
      ∃ t, exec i s = .next t
        ∧ t.engine = { s.engine with
            state := .halted, starting := false, cause := .writeError, detail := .requester r }
        ∧ t.report.attention = true
        ∧ (∀ c : Chan, t.chans[c].play.state = .idle
            ∧ (s.chans[c].play.state.counts = true → t.chans[c].play.lastStop = .halt))
        ∧ (∀ g : GenIx, t.gens[g].running = false)
        ∧ t.orders.next = s.orders.next
        ∧ (r = .orderResult →
            t.orders = { state := .standby, next := s.orders.next, recheck := false, inHand := none, result := none }))
    ∧ (∀ (orders : OrderUnit) (waiting : List Request), s.engine.state ≠ .online →
      orders = (if r = .orderResult then { s.orders with state := .standby, inHand := none, result := none } else s.orders) →
      ((∃ k, s.carries (.reportRecord k false)) ∧
          ((∃ (before later : List Request) (w : Request) (k : RecordKind), s.port.waiting = before ++ w :: later
              ∧ w.kind = .reportsWritten (some k)
              ∧ (∀ (q : Request) (k' : RecordKind), q ∈ before → q.kind ≠ .reportsWritten (some k'))
              ∧ waiting = before ++ { w with kind := .reportsWritten none } :: later)
            ∨ (∀ (q : Request) (k : RecordKind), q ∈ s.port.waiting → q.kind ≠ .reportsWritten (some k))
              ∧ waiting = s.port.waiting)
        ∨ (∀ k, ¬ s.carries (.reportRecord k false)) ∧ waiting = s.port.waiting) →
      exec i s = .next (State.portDone { s with
        orders := orders, port := { s.port.ended [] with waiting := waiting } }))

/-- R39, R153, R159 and R160: a fetch or sample completion of another epoch, and the completion of an abandoned order's read or
write, are discarded whole, error included; a transfer granted before a RESET is completed by the port alone. And the model's
choice (log 1): a completion whose transfer is not the one in flight, or a read's whose data has another size than was asked for,
does nothing. -/
def Obligations.DiscardedCompletionsChangeThePortAlone : Prop :=
  ∀ (a : ReadAnswer) (w : WriteAnswer) (s e : State), e = { s with port := s.port.ended [] } →
    (∀ (c : Chan) (epoch : BitVec 8) (reread : Bool) (n occ offset size : Nat) (f : SampleFormat),
      s.chans[c].fetch.epoch ≠ epoch → a.hasSize size = true →
      (s.carriesSize (.stepSlotRead c epoch reread) size → exec (.stepSlotReadComplete a) s = .next e.portDone)
      ∧ (s.carriesSize (.segmentEntryRead c epoch) size → exec (.segmentEntryReadComplete a) s = .next e.portDone)
      ∧ (s.carriesSize (.streamRequest c epoch n f) size → exec (.streamRequestComplete a) s = .next e.portDone)
      ∧ (s.carriesSize (.bankLoad c epoch occ offset n f) size → exec (.bankLoadComplete a) s = .next e.portDone))
    ∧ (s.orders.state ≠ .reading → a.hasSize 64 = true → s.carriesSize .orderSlotRead 64 →
      exec (.orderSlotReadComplete a) s = .next e.portDone)
    ∧ (s.orders.state ≠ .executing → a.hasSize 256 = true → s.carriesSize .configReadOrder 256 →
      exec (.configureReadComplete a) s = .next e.portDone)
    ∧ (s.orders.state ≠ .executing → s.carries .snapshotWrite →
      exec (.snapshotWriteComplete .confirmed) s = .next e.portDone)
    ∧ (s.port.discard = true → s.port.inFlight.isSome = true → exec .completionAfterReset s = .next e.portDone)
    ∧ (∀ (i : Instr) (reads : List Instr),
      reads = [.goConfigReadComplete a, .orderSlotReadComplete a, .configureReadComplete a, .stepSlotReadComplete a,
               .segmentEntryReadComplete a, .streamRequestComplete a, .bankLoadComplete a, .reportsTakenReadComplete a] →
      i ∈ reads ++ [.snapshotWriteComplete w, .orderResultWriteComplete w, .orderHeadWriteComplete w,
                    .slotRetireWriteComplete w, .reportRecordWriteComplete w, .reportsWrittenWriteComplete w,
                    .statusBlockWriteComplete w, .engineConditionsWriteComplete w] →
      (∀ r ∈ s.port.inFlight, s.port.discard = false → r.kind.completion a w = i →
        i ∈ reads ∧ a.hasSize r.size = false) →
      exec i s = .next s)
    ∧ (s.port.discard = false ∨ s.port.inFlight = none → exec .completionAfterReset s = .next s)

/-- R27 and R36: a slot read that finds its slot not ready sets the frontier flag and stands AT_FRONTIER, or re-reads at once
under nudge pending; an accepted slot whose segment the table has is followed by the read of its entry; one whose segment it
has not, and a read that fails, place an invalid marker and block the reader, and where the marker is the first entry of an ARMED
channel the channel faults at once (R89). Every completion clears nudge pending. -/
def Obligations.SlotReadActsOnItsBracket : Prop :=
  ∀ (c : Chan) (epoch : BitVec 8) (reread : Bool) (s : State) (f : Fetch),
    s.carriesSize (.stepSlotRead c epoch reread) 64 → s.chans[c].fetch.epoch = epoch → f = s.chans[c].fetch →
    (∀ bytes : List Byte, bytes.length = 64 →
      ((slotBracket bytes).accepted = false → f.nudge = false →
        exec (.stepSlotReadComplete (.data bytes)) s = .next (State.portDone { s with
          chans := s.chans.set c { s.chans[c] with fetch :=
            { f with nudge := false, frontier := true, reader := .atFrontier, poll := 0 } }
          port := s.port.ended [] }))
      ∧ ((slotBracket bytes).accepted = false → f.nudge = true →
        exec (.stepSlotReadComplete (.data bytes)) s = .next (State.portDone { s with
          chans := s.chans.set c { s.chans[c] with fetch :=
            { f with nudge := false, frontier := true, reader := .slotRead, poll := 0 } }
          port := s.port.ended [readOf (.stepSlotRead c epoch true) (s.slotAddr c f.cursor) 64] }))
      ∧ (∀ a : AcceptedSlot, (slotBracket bytes).accepted = true →
        a = ⟨(slotBracket bytes).headEdition, (slotBracket bytes).kind, stepBodyOf bytes⟩ →
        a.body.segment < s.segTable.2 →
        exec (.stepSlotReadComplete (.data bytes)) s = .next (State.portDone { s with
          chans := s.chans.set c { s.chans[c] with fetch :=
            { f with nudge := false, frontier := false, reader := .entryRead, accepted := some a } }
          port := s.port.ended
            [readOf (.segmentEntryRead c epoch) (busAddr (s.segTable.1 + 16 * a.body.segment)) 16] })))
    ∧ (∀ (answer : ReadAnswer) (sub : SubCode),
      (answer = .error ∧ sub = .memoryError
        ∨ ∃ bytes, answer = .data bytes ∧ bytes.length = 64 ∧ (slotBracket bytes).accepted = true
            ∧ s.segTable.2 ≤ (stepBodyOf bytes).segment ∧ sub = .segmentRange) →
      (s.chans[c].play.state ≠ .armed ∨ s.chans[c].headStep.isSome = true →
        exec (.stepSlotReadComplete answer) s = .next (State.portDone { s with
          chans := s.chans.set c { s.chans[c] with fetch :=
            { f with
              nudge := false
              frontier := false
              accepted := none
              window := f.window ++ [.invalid f.nextOcc f.cursor sub]
              nextOcc := f.nextOcc + 1
              reader := .blocked
              data := if f.data = none then some (.invalid f.nextOcc) else f.data } }
          port := s.port.ended [] }))
      ∧ (s.chans[c].play.state = .armed → f.window = [] →
        ∃ t, exec (.stepSlotReadComplete answer) s = .next t ∧ s.faultedAtFirst t c sub))

/-- The reader state and slot cursor after a placed step (R28). -/
def readerAfter (ctx : StepContext) (before after : Fetch) : Prop :=
  if ctx.decision then after.reader = .decisionPause ∧ after.cursor = before.cursor
  else match ctx.successor with
    | none => after.reader = .listEnd ∧ after.cursor = before.cursor
    | some slot =>
      after.cursor = slot ∧ after.reader = if before.window.length + 1 < 4 then .slotRead else .windowFull

/-- R20, R27, R28, R29 and R56: the checks 3 to 11 of a step in their order, each with its sub-code. A segment entry read that
fails, or whose step fails a check, places an invalid marker with the first failed check's sub-code, which faults an ARMED channel
whose first entry it is (R89); a step that passes every check becomes a context at the tail of the window with its map
change, a resident one taking bank A if FREE, else B; a data cursor at none moves to it, the data feeder is asked, and the reader
goes on by the step, its next slot read raised behind the feeder's request; a resident step without a FREE bank is held in
BANK_WAIT. Nothing else changes. -/
def Obligations.EntryReadPlacesTheStep : Prop :=
  (∀ (s : State) (c : Chan) (slot size wEff : Nat) (b : StepBody) (seg : SegEntry) (map : List (Nat × Nat)) (leads : Bool),
    size = (s.settings c).listSize → map = s.chans[c].fetch.map →
    wEff = (if b.windowLength = 0 then seg.length - b.windowStart else min b.windowLength (seg.length - b.windowStart)) →
    leads = (match s.chans[c].play.group with | none => true | some m => decide (m.leader = c)) →
    firstFailure s c slot b seg =
      if seg.valid = false ∨ seg.format = none then some .segmentVoid
      else if seg.length = 0 then some .segmentEmpty
      else if seg.format = some .s16 ∧ seg.base % 2 = 1 then some .segmentAlign
      else if seg.length ≤ b.windowStart then some .windowRange
      else if b.entry = none ∨ b.nextKind = none ∨ b.markers[0].mode = none ∨ b.markers[1].mode = none
          ∨ b.rep = 0 ∧ b.advance = none then some .field
      else if b.nextKind = some .jump ∧ size ≤ b.jumpTarget
          ∨ b.entry ≠ some .immediate ∧ 1 ≤ b.waitTimeout ∧ size ≤ b.branchTarget then some .targetRange
      else if b.rep = 0 ∧ ¬ (0 < (s.settings c).bankSize ∧ wEff ≤ (s.settings c).bankSize) then some .openStreamed
      else if (b.entry = some .leader ∨ b.rep = 0 ∧ b.advance = some .leader) ∧ leads = true then some .leaderAlone
      else if b.nextKind = some .jump ∧ 2 ≤ b.passes ∧ mapEntry map slot = none ∧ 8 ≤ map.length then some .loopDepth
      else none)
  ∧ ∀ (c : Chan) (epoch : BitVec 8) (s : State) (f : Fetch) (a : AcceptedSlot),
    s.carriesSize (.segmentEntryRead c epoch) 16 → s.chans[c].fetch.epoch = epoch → f = s.chans[c].fetch →
    f.accepted = some a →
    (∀ (answer : ReadAnswer) (sub : SubCode),
      (answer = .error ∧ sub = .memoryError
        ∨ ∃ bytes, answer = .data bytes ∧ bytes.length = 16
            ∧ firstFailure s c f.cursor a.body (segEntryOf bytes) = some sub) →
      (s.chans[c].play.state ≠ .armed ∨ s.chans[c].headStep.isSome = true →
        exec (.segmentEntryReadComplete answer) s = .next (State.portDone { s with
          chans := s.chans.set c { s.chans[c] with fetch :=
            { f with
              accepted := none
              window := f.window ++ [.invalid f.nextOcc f.cursor sub]
              nextOcc := f.nextOcc + 1
              reader := .blocked
              data := if f.data = none then some (.invalid f.nextOcc) else f.data } }
          port := s.port.ended [] }))
      ∧ (s.chans[c].play.state = .armed → f.window = [] →
        ∃ t, exec (.segmentEntryReadComplete answer) s = .next t ∧ s.faultedAtFirst t c sub))
    ∧ (∀ (bytes : List Byte) (seg : SegEntry) (wEff : Nat) (ctx : StepContext), bytes.length = 16 →
      seg = segEntryOf bytes → firstFailure s c f.cursor a.body seg = none →
      wEff = (if a.body.windowLength = 0 then seg.length - a.body.windowStart
              else min a.body.windowLength (seg.length - a.body.windowStart)) →
      ctx = {
        occ := f.nextOcc
        slot := f.cursor
        edition := a.edition
        kind := a.kind
        body := a.body
        seg := seg
        wEff := wEff
        hold := if a.body.hold = 0 then 1 else min a.body.hold 256
        resident := decide (0 < (s.settings c).bankSize) && decide (wEff ≤ (s.settings c).bankSize)
        bank := none
        successor := successorOf a.body f.cursor (s.settings c).listSize f.map
        decision := a.body.isDecision } →
      (∀ bank : Option BankId,
        (ctx.resident = false ∧ bank = none
          ∨ ctx.resident = true ∧ s.chans[c].pool.bankA = .free ∧ bank = some .a
          ∨ ctx.resident = true ∧ s.chans[c].pool.bankA ≠ .free ∧ s.chans[c].pool.bankB = .free ∧ bank = some .b) →
        exec (.segmentEntryReadComplete (.data bytes)) s = .next (State.portDone (State.placed { s with
          chans := s.chans.set c { s.chans[c] with fetch := { f with nextOcc := f.nextOcc + 1 } }
          port := s.port.ended [] } c ctx bank)))
      ∧ (ctx.resident = true → s.chans[c].pool.bankA ≠ .free → s.chans[c].pool.bankB ≠ .free →
        exec (.segmentEntryReadComplete (.data bytes)) s = .next (State.portDone { s with
          chans := s.chans.set c { s.chans[c] with fetch :=
            { f with nextOcc := f.nextOcc + 1, held := some ctx, accepted := none, reader := .bankWait } }
          port := s.port.ended [] })))

/-- R3, R52, R53 and R57: an arrival for the stream queue pays off the deficit with its oldest samples and appends the rest,
and the reserve is given back before the feeder asks again; a bank load joins the bank assigned to its occurrence, which becomes
HELD when whole, and one whose bank has been released fills nothing. S16 samples are taken as stored and S8 samples times 256.
The data feeder, asked while no sample request of the epoch stands, asks for the next 64 samples of the pass or what is left of it:
for a resident step always, for a streamed one when the stream capacity has room for them beside fill and reserve; otherwise
it does nothing. Where the cursor leaves a step it goes to the next one in window order. No rule says in so many words that a
streamed step which retired before the cursor reached it keeps its place in that order, so that the cursor goes through its samples,
which are owed, before those of a later step: that is the model's reading (log 40). -/
def Obligations.ArrivalsFillQueueAndBanks : Prop :=
  (∀ (b : List Byte) (i : Nat),
    widenSample .s16 b i = (b.getD (2 * i + 1) 0 ++ b.getD (2 * i) 0 : BitVec 16).toInt
    ∧ widenSample .s8 b i = 256 * (b.getD i 0).toInt)
  ∧ (∀ (c : Chan) (epoch : BitVec 8) (n size : Nat) (f : SampleFormat) (bytes : List Byte) (s : State) (samples : List Int),
    s.carriesSize (.streamRequest c epoch n f) size → s.chans[c].fetch.epoch = epoch → bytes.length = size →
    samples = (List.range n).map (widenSample f bytes) →
    exec (.streamRequestComplete (.data bytes)) s = .next (State.portDone (State.feed { s with
      chans := s.chans.set c { s.chans[c] with
        pool := { s.chans[c].pool with
          queue := s.chans[c].pool.queue ++ samples.drop s.chans[c].pool.deficit
          deficit := s.chans[c].pool.deficit - n
          reserve := 0 } }
      port := s.port.ended [] } c)))
  ∧ (∀ (c : Chan) (epoch : BitVec 8) (occ offset n size wEff : Nat) (f : SampleFormat) (bytes : List Byte) (s : State)
      (samples held : List Int) (id : BankId) (b : Bank),
    s.carriesSize (.bankLoad c epoch occ offset n f) size → s.chans[c].fetch.epoch = epoch → bytes.length = size →
    samples = (List.range n).map (widenSample f bytes) →
    s.chans[c].fetch.extentOf occ = some wEff → s.chans[c].pool.bank id = .loading occ held →
    (∀ other : BankId, other ≠ id → (s.chans[c].pool.bank other).occ? ≠ some occ) →
    b = (if wEff ≤ held.length + n then .held occ (held ++ samples) else .loading occ (held ++ samples)) →
    exec (.bankLoadComplete (.data bytes)) s = .next (State.portDone (State.feed { s with
      chans := s.chans.set c { s.chans[c] with pool := s.chans[c].pool.setBank id b }
      port := s.port.ended [] } c)))
  ∧ (∀ (c : Chan) (epoch : BitVec 8) (occ offset n size : Nat) (f : SampleFormat) (a : ReadAnswer) (s : State),
    s.carriesSize (.bankLoad c epoch occ offset n f) size → s.chans[c].fetch.epoch = epoch → a.hasSize size = true →
    s.chans[c].pool.bankA.occ? ≠ some occ → s.chans[c].pool.bankB.occ? ≠ some occ →
    exec (.bankLoadComplete a) s = .next (State.portDone (State.feed { s with port := s.port.ended [] } c)))
  ∧ (∀ (s : State) (c : Chan) (f : Fetch) (out : Bool), f = s.chans[c].fetch →
    (out = true ↔ (∃ r ∈ s.port.waiting, r.kind.isSampleOf c f.epoch = true)
      ∨ s.port.discard = false ∧ ∃ r ∈ s.port.inFlight, r.kind.isSampleOf c f.epoch = true) →
    (out = true ∨ (∀ ctx pass offset, f.data ≠ some (.step ctx pass offset)) → s.feed c = s)
    ∧ (∀ (ctx : StepContext) (pass offset n : Nat) (address : Nat) (format : SampleFormat) (next : Option DataCursor)
        (owed : List StepContext) (reserve : Nat) (kind : Transfer), out = false → f.data = some (.step ctx pass offset) →
      n = min 64 (ctx.wEff - offset) → ctx.seg.format = some format →
      address = busAddr (ctx.seg.base + (if format = .s16 then 2 else 1) * (ctx.body.windowStart + offset)) →
      next = (if offset + n < ctx.wEff then some (.step ctx pass (offset + n))
              else if ctx.resident = false ∧ pass < ctx.body.rep then some (.step ctx (pass + 1) 0)
              else match (f.owed.map WindowEntry.step ++ f.window).find? fun e => decide (ctx.occ < e.occ) with
                | some (.step later) => some (.step later 1 0)
                | some (.invalid occ _ _) => some (.invalid occ)
                | none => none) →
      owed = (match next with
              | some (.step d _ _) => f.owed.filter fun o => decide (d.occ < o.occ)
              | _ => []) →
      (ctx.resident = true ∧ kind = .bankLoad c f.epoch ctx.occ offset n format ∧ reserve = s.chans[c].pool.reserve
        ∨ ctx.resident = false ∧ kind = .streamRequest c f.epoch n format ∧ reserve = n) →
      (ctx.resident = true ∨ s.chans[c].pool.queue.length + s.chans[c].pool.reserve + n ≤ (s.settings c).capacity →
        s.feed c = State.raise { s with
          chans := s.chans.set c { s.chans[c] with
            fetch := { f with data := next, owed := owed }
            pool := { s.chans[c].pool with reserve := reserve } } }
          (readOf kind address ((if format = .s16 then 2 else 1) * n)))
      ∧ (ctx.resident = false → (s.settings c).capacity < s.chans[c].pool.queue.length + s.chans[c].pool.reserve + n →
        s.feed c = s)))

/-- R61 and R89: a stream request or a bank load of the current epoch that completes with an error faults a channel that is
ARMED, RUNNING, WAITING or FRONTIER, with cause MEMORY_ERROR and its condition, purged, its lane at the idle level.
Engine, generators, trigger lines and orders stand. For a channel that no other mirrors or follows the fault is given whole: the
STARVED record of an open episode or a late DATA wait, the CHANNEL_FAULT record, then its status block; an ARMED channel leaves its
group (R144), and every other keeps its membership (R145). That a channel in any other
state, in which no such completion can meet it, is left as it is, is the model's reading (log 23); so are the slot of the record of
a channel without a step at its head (log 20) and the starvation episode count after a fault (log 32). -/
def Obligations.SampleErrorFaultsTheChannel : Prop :=
  ∀ (i : Instr) (c : Chan) (epoch : BitVec 8) (s : State), s.chans[c].fetch.epoch = epoch →
    (i = .streamRequestComplete .error ∧ (∃ n f, s.carries (.streamRequest c epoch n f))
      ∨ i = .bankLoadComplete .error ∧ (∃ occ offset n f, s.carries (.bankLoad c epoch occ offset n f)
          ∧ (s.chans[c].pool.bankA.occ? = some occ ∨ s.chans[c].pool.bankB.occ? = some occ))) →
    (s.chans[c].play.state.counts = true →
      ∃ t, exec i s = .next t
        ∧ t.chans[c].play.state = .faulted ∧ t.chans[c].play.faultCause = .memoryError
        ∧ t.chans[c].play.wait = .none ∧ t.chans[c].play.pendingStop = .none
        ∧ t.chans[c].play.retired = s.chans[c].play.retired
        ∧ t.chans[c].fetch = purgedFetch s.chans[c].fetch ∧ t.chans[c].pool = emptyShare
        ∧ t.chans[c].level.lane = s.chans[c].level.idle
        ∧ t.chans[c].accumulated.getLsbD 6 = true ∧ t.chans[c].perRecord = 0
        ∧ t.engine = s.engine ∧ t.gens = s.gens ∧ t.trig = s.trig ∧ t.orders = s.orders
        ∧ t.pins = s.pins ∧ t.refPhase = s.refPhase ∧ t.freeCount = s.freeCount ∧ t.pending = s.pending)
    ∧ (∀ (closed faulted : Channel) (records : List Record), s.chans[c].play.state.counts = true → s.unmirrored c →
      (∀ d : Chan, s.chans[d].follows d c = false) → s.chans[c].closesEpisode c closed records →
      faulted = faultedChannel closed .memoryError →
      exec i s = .next (State.portDone (State.writeStatusBlock
        (State.handOverAll
          (records ++ [chanRecord c .channelFault closed.play.sampleCount
            (match s.chans[c].fetch.window with
              | .step ctx :: _ => ctx.slot
              | .invalid _ slot _ :: _ => slot
              | [] => closed.play.startSlot) 2 0])
          { s with
            chans := vec8 fun d =>
              if d = c then { faulted with play := { faulted.play with group := s.groupWithout c c } }
              else { s.chans[d] with play := { s.chans[d].play with group := s.groupWithout c d } }
            port := (s.port.ended []).purgedOf c }) c)))
    ∧ (s.chans[c].play.state.counts = false →
      exec i s = .next (State.portDone { s with port := s.port.ended [] }))

/-- R167, R171 and R179: a Taken read's value is taken as the copy if it counts no record the engine has not written, and the
waiting records are then placed in order; one from before a GO is discarded, and made afresh while records wait. Its error
halts an ONLINE engine with cause PAGE_READ_ERROR and detail TAKEN, and leaves the cause of another. -/
def Obligations.TakenReadServesTheQueue : Prop :=
  ∀ s : State, s.carriesSize .reportsTakenRead 8 →
    (∀ (bytes : List Byte) (value : Nat), bytes.length = 8 → s.report.taken ≠ .stale → value = le32 bytes 0 →
      exec (.reportsTakenReadComplete (.data bytes)) s = .next (State.portDone (s.report.queue.foldl State.placeQueued
        { s with
          report := { s.report with
            copy := if (s.report.written + 4294967296 - value) % 4294967296 ≤ s.ring.2 then value else s.report.copy
            queue := []
            taken := .none }
          port := s.port.ended [] })))
    ∧ (∀ a : ReadAnswer, a.hasSize 8 = true → s.report.taken = .stale → s.report.queue = [] →
      exec (.reportsTakenReadComplete a) s = .next (State.portDone { s with
        report := { s.report with taken := .none }, port := s.port.ended [] }))
    ∧ (∀ a : ReadAnswer, a.hasSize 8 = true → s.report.taken = .stale → s.report.queue ≠ [] →
      exec (.reportsTakenReadComplete a) s = .next (State.portDone { s with
        report := { s.report with taken := .outstanding }
        port := s.port.ended [readOf .reportsTakenRead (s.pageAddr 0x110) 8] }))
    ∧ (s.report.taken ≠ .stale →
      ∃ t, exec (.reportsTakenReadComplete .error) s = .next t ∧ t.report.queue = [] ∧ t.report.taken = .none
        ∧ (s.engine.state = .online →
            t.engine = { s.engine with
              state := .halted, starting := false, cause := .pageReadError, detail := .taken }
            ∧ t.report.attention = true ∧ (∀ c : Chan, t.chans[c].play.state = .idle))
        ∧ (s.engine.state ≠ .online →
            t.engine = s.engine ∧ t.chans = s.chans ∧ t.report.attention = s.report.attention))

/-! ## Expiries and the events within them -/

/-- R115 with R66 and R118: a STOPPED generator makes no expiry; a RUNNING one takes its pending divisor and reloads its
countdown. At an expiry at which no group launches, each attached channel in ARMED, RUNNING, WAITING or FRONTIER adds 1 to its
sample count, wrapping at 2^48, and every other sample count stands; a channel of another generator in no group that mirrors
nothing is untouched, and so are orders, trigger lines and the engine. A mirror of the one channel on the generator follows it
(R105, R106): at every expiry at which its source plays, launching, leaving a stay and ending its step among them, it shows the
computation of its source's raw sample with its own levels; at an expiry of a Wait Level IDLE wait, and where its source shows the
idle level, its own idle level; at an expiry of a HOLD_LAST or DATA wait it keeps its code. Where its source stops or enters
FRONTIER at the expiry it turns to its idle level at the next, and where it faults at once. Its marker lines show its source's with
COPY and are low with OFF. When the lane turns at an expiry that is no boundary, a timeout's with a DRAIN pending and a LEADER_GONE
stop's, is the model's reading (log 11), and so is that a channel without a membership has no leader (log 25). -/
def Obligations.ExpiryReloadsAndIsCounted : Prop :=
  (∀ (g : GenIx) (s : State),
    (s.gens[g].running = false → exec (.expiry g) s = .next s)
    ∧ (s.gens[g].running = true → (∀ c : Chan, s.chans[c].play.generator = g → s.launchDue c = false) →
      ∃ t, exec (.expiry g) s = .next t
        ∧ t.gens = s.gens.set g (reloaded s.gens[g])
        ∧ (∀ c : Chan, t.chans[c].play.sampleCount =
            if s.chans[c].play.generator = g ∧ s.chans[c].play.state.counts = true then
              (s.chans[c].play.sampleCount + 1) % 281474976710656
            else s.chans[c].play.sampleCount)
        ∧ (∀ c : Chan, s.chans[c].play.generator ≠ g → s.chans[c].play.group = none →
            s.chans[c].play.state ≠ .mirroring → t.chans[c] = s.chans[c])
        ∧ t.engine = s.engine ∧ t.orders = s.orders ∧ t.trig = s.trig ∧ t.pins = s.pins ∧ t.refPhase = s.refPhase
        ∧ t.freeCount = s.freeCount ∧ t.pending = s.pending))
  ∧ (∀ (g : GenIx) (c m : Chan) (s : State), s.soleOn g c → s.chans[m].play.state = .mirroring →
    s.chans[m].level.mirror = some c → s.chans[m].play.group = none →
    ∃ t, exec (.expiry g) s = .next t
      ∧ (∀ ctx : StepContext, s.chans[c].plays ctx ∨ s.chans[c].leavesFor ctx ∧ ctx.body.entry = some .immediate
            ∨ s.launchesAlone c ctx →
          t.chans[m] = mirrorAfter (mirrorShowing s.chans[m] t.chans[c] t.chans[c].play.heldRaw) t.chans[c])
      ∧ (∀ ctx : StepContext, s.chans[c].play.inEntryWait = true ∧ s.chans[c].headStep = some ctx
            ∨ s.chans[c].leavesFor ctx ∧ ((∃ k : LineIx, ctx.body.entry = some (.trigger k))
              ∨ ctx.body.entry = some .leader ∧ s.chans[c].noLeader c = false) →
          t.chans[m] = mirrorAfter
            (if ctx.body.waitIdle then mirrorAtIdle s.chans[m] t.chans[c] else mirrorLines s.chans[m] t.chans[c]) t.chans[c])
      ∧ (∀ late : Bool, s.chans[c].play.state = .waiting → s.chans[c].play.wait = .data late →
          (s.chans[c].head = none ∨ ∃ ctx, s.chans[c].headStep = some ctx ∧ s.chans[c].dataPresent ctx = false) →
          t.chans[m] = mirrorLines s.chans[m] t.chans[c])
      ∧ (s.chans[c].play.state = .frontier ∧
            (s.chans[c].head = none ∨ ∃ ctx, s.chans[c].headStep = some ctx ∧ s.chans[c].dataPresent ctx = false)
          ∨ s.chans[c].play.state = .armed ∧ s.launchDue c = false
          ∨ (∃ ctx : StepContext, s.chans[c].leavesFor ctx ∧ ctx.body.entry = some .leader ∧ s.chans[c].noLeader c = true)
          ∨ (s.chans[c].play.state = .frontier
                ∨ s.chans[c].play.state = .waiting ∧ ∃ late : Bool, s.chans[c].play.wait = .data late)
              ∧ (∃ (occ slot : Nat) (sub : SubCode), s.chans[c].head = some (.invalid occ slot sub))
          ∨ (s.chans[c].play.state = .idle ∨ s.chans[c].play.state = .faulted) ∧ s.chans[c].level.idleDue = true →
          t.chans[m] = mirrorAtIdle s.chans[m] t.chans[c])
      ∧ ((s.chans[c].play.state = .idle ∨ s.chans[c].play.state = .faulted) → s.chans[c].level.idleDue = false →
          t.chans[m] = s.chans[m]))

/-- R67, R68 and R69 with R38, R54, R58, R70, R75 to R77, R80 and R81: what one expiry does to the one channel on its generator
while it plays, or leaves a DATA wait or a FRONTIER stay for a step with Entry IMMEDIATE: its frontier poll counts it, it takes in
its step at a step start, obtains its raw sample or repeats the held one, shows its level computation, counts the expiry and moves its
position on. A streamed step with hold count 0 takes the head of the queue, after which the feeder may ask for more, or owes one
more entry of an empty queue; a resident step reads its bank. A sample not obtained counts toward the starvation episode, and one
that is obtained ends it. The records are handed over in the order FRONTIER_LEFT or the late wait's STARVED, STEP_START, the
episode's STARVED; a channel that entered RUNNING then has its status block written. The expiry that outputs the step's last
sample, at the end of its last pass or where an advance has cut it, ends at its boundary: the step retires, its STEP_END record
follows those, and the channel goes on, stops or faults there, all in the one event. No channel follows one that makes a step start
or that stops or faults here. What an expiry that ends so leaves of the offset is the model's (log 6), and so is the frontier
poll's count as it is counted before the channel acts (log 22), and the place in the data cursor's order that a streamed step keeps
which retires before the cursor reaches it (log 40). -/
def Obligations.RunningExpiryOutputsTheNextSample : Prop :=
  ∀ (g : GenIx) (c : Chan) (s u : State) (ctx : StepContext) (q b : Channel) (raw : Int) (pool : Pool)
    (obtained missed fed entered : Bool) (before : List Record),
    s.soleOn g c → s.unmirrored c → (s.chans[c].fetch.reader ≠ .atFrontier ∨ s.port.idleEmpty) →
    u = { s.polled c with gens := s.gens.set g (reloaded s.gens[g]) } →
    (s.chans[c].plays ctx ∧ q = u.chans[c] ∧ before = [] ∧ entered = false
      ∨ (∃ ended : Channel, u.chans[c].endsStay c ctx ended before ∧ q = enteredChannel ended)
          ∧ ctx.body.entry = some .immediate ∧ entered = true) →
    (q.play.stepExpiries = 0 → ∀ d : Chan, s.chans[d].follows d c = false) →
    b = startedChannel q ctx → b.play.offset < ctx.wEff → b.obtains ctx raw pool obtained missed fed →
    (∀ (position : Nat × Nat × Nat) (t : State), nextPosition b.play ctx = some position →
      t = u.afterAction c (playedChannel b ctx raw pool obtained missed position) fed
        (before ++ playingRecords c b ctx obtained) →
      exec (.expiry g) s = .next (if entered then t.writeStatusBlock c else t))
    ∧ (∀ (last r : State) (placed : Option (StepContext × BankId)) (went : Channel) (records : List Record),
      nextPosition b.play ctx = none → s.port.idleEmpty →
      last = u.lastSample c ctx b raw pool obtained missed fed → last.chans[c].letsIn ctx placed →
      r = last.retires c ctx (lastPosition b.play ctx).1 placed → r.chans[c].leavesBoundary c ctx went records →
      (went.play.state.counts = true ∨ ∀ d : Chan, s.chans[d].follows d c = false) →
      exec (.expiry g) s = .next (r.leftBoundary c
        { went with level := { went.level with expiryCode := went.level.lane } }
        (before ++ playingRecords c b ctx obtained ++ last.chans[c].endRecords c ctx ++ records)))

/-- R72, R74, R75, R76 and R77 with R34, R38, R66, R73, R78 and R102: what one expiry does to the one channel on its generator while
it waits on or rests, its frontier poll counting it. A trigger or leader wait that does not time out counts it and shows the wait
level; at the timeout expiry it shows the wait level too, and the timeout is then taken, as WAIT_TIMEOUT takes it. A DATA wait or
FRONTIER stay whose data is not there counts it in its episode and repeats its code, or shows the idle level; an ARMED channel that
does not launch shows the idle level. A DATA wait or FRONTIER stay that finds its data ends with its record: a trigger or leader
step begins its wait with this expiry counted, which times out at once under a Wait Timeout of 1, a leader step without a leader
stops the channel, and an invalid marker faults it. And with a leader and one follower on the generator: a leader step start ends a
LEADER wait that counted the expiry, its paused reader resuming, and is an advance for a follower's open repeat that had output a
sample before; without a leader step start the wait goes on. That the LEADER_GONE stop shows the idle level within its expiry is the
model's reading (log 11), that a channel without a membership has no leader (log 25), and that the frontier poll counts before the
channel acts (log 22). -/
def Obligations.WaitingExpiryShowsTheWaitLevel : Prop :=
  (∀ (g : GenIx) (c : Chan) (s u : State) (b : Channel),
    s.soleOn g c → s.unmirrored c → (s.chans[c].fetch.reader ≠ .atFrontier ∨ s.port.idleEmpty) →
    u = { s.polled c with gens := s.gens.set g (reloaded s.gens[g]) } →
    b = { u.chans[c] with play := { s.chans[c].play with
          sampleCount := (s.chans[c].play.sampleCount + 1) % 281474976710656 } } →
    (∀ (ctx : StepContext) (n : Nat) (waited : State), s.chans[c].play.inEntryWait = true → s.chans[c].headStep = some ctx →
      n = (s.chans[c].play.waitCount + 1) % 4294967296 →
      waited = { u with chans := u.chans.set c (restingChannel { b with play := { b.play with waitCount := n } }
          (if ctx.body.waitIdle then b.level.idle else b.level.expiryCode)) } →
      ((ctx.decision = true → n ≠ ctx.body.waitTimeout) → exec (.expiry g) s = .next waited)
      ∧ (ctx.decision = true → n = ctx.body.waitTimeout →
        (s.chans[c].play.pendingStop = .drain → ∀ d : Chan, s.chans[d].follows d c = false) →
        exec (.expiry g) s = exec (.waitTimeout c) waited
        ∧ (s.chans[c].play.pendingStop ≠ .drain → s.port.idleEmpty →
          exec (.expiry g) s = .next (waited.afterTimeout c ctx []))))
    ∧ (∀ late : Bool, s.chans[c].play.state = .waiting → s.chans[c].play.wait = .data late →
      (s.chans[c].head = none ∨ ∃ ctx, s.chans[c].headStep = some ctx ∧ s.chans[c].dataPresent ctx = false) →
      exec (.expiry g) s = .next { u with
        chans := u.chans.set c (restingChannel
          { b with play := { b.play with episode := b.play.episode + 1 } } b.level.expiryCode) })
    ∧ (s.chans[c].play.state = .frontier →
      (s.chans[c].head = none ∨ ∃ ctx, s.chans[c].headStep = some ctx ∧ s.chans[c].dataPresent ctx = false) →
      exec (.expiry g) s = .next { u with
        chans := u.chans.set c (restingChannel
          { b with play := { b.play with episode := b.play.episode + 1 } } b.level.idle) })
    ∧ (s.chans[c].play.state = .armed → s.launchDue c = false →
      exec (.expiry g) s = .next { u with chans := u.chans.set c (restingChannel b b.level.idle) })
    ∧ (∀ (ctx : StepContext) (ended : Channel) (records : List Record), u.chans[c].endsStay c ctx ended records →
      (∀ (wait : WaitReason) (waited : State),
        (∃ k : LineIx, ctx.body.entry = some (.trigger k) ∧ wait = .trigger k)
          ∨ ctx.body.entry = some .leader ∧ s.chans[c].noLeader c = false ∧ wait = .leader →
        waited = { u with chans := u.chans.set c (restingChannel
            { ended with play := { ended.play with
              sampleCount := b.play.sampleCount, state := .waiting, wait := wait, waitCount := 1 } }
            (if ctx.body.waitIdle then b.level.idle else b.level.expiryCode)) } →
        ((ctx.decision = true → ctx.body.waitTimeout ≠ 1) →
          exec (.expiry g) s = .next (State.writeStatusBlock (State.handOverAll records waited) c))
        ∧ (ctx.decision = true → ctx.body.waitTimeout = 1 → s.chans[c].play.pendingStop ≠ .drain → s.port.idleEmpty →
          exec (.expiry g) s = .next (waited.afterTimeout c ctx records)))
      ∧ (ctx.body.entry = some .leader → s.chans[c].noLeader c = true →
        ∃ t, exec (.expiry g) s = .next t ∧ t.chans[c].play.state = .idle ∧ t.chans[c].play.lastStop = .leaderGone
          ∧ t.chans[c].accumulated.getLsbD 7 = true ∧ t.chans[c].level.lane = b.level.idle
          ∧ t.chans[c].fetch.window = [] ∧ t.chans[c].pool = emptyShare))
    ∧ (∀ (occ slot : Nat) (sub : SubCode) (late : Bool), s.chans[c].head = some (.invalid occ slot sub) →
      (s.chans[c].play.state = .frontier ∨ s.chans[c].play.state = .waiting ∧ s.chans[c].play.wait = .data late) →
      ∃ t, exec (.expiry g) s = .next t ∧ t.chans[c].play.state = .faulted
        ∧ t.chans[c].play.faultCause = .stepInvalid sub ∧ t.chans[c].accumulated.getLsbD 5 = true
        ∧ t.chans[c].level.lane = b.level.idle ∧ t.chans[c].pool = emptyShare))
  ∧ (∀ (g : GenIx) (lead f : Chan) (s : State) (ctx step : StepContext), s.gens[g].running = true → lead ≠ f →
    (∀ d : Chan, s.chans[d].play.generator = g ↔ d = lead ∨ d = f) →
    s.chans[lead].plays ctx → s.chans[lead].leadsLaunched lead = true → s.chans[f].follows f lead = true →
    s.chans[f].headStep = some step →
    ∃ t, exec (.expiry g) s = .next t
      ∧ (∀ n : Nat, s.chans[f].play.state = .waiting → s.chans[f].play.wait = .leader →
        n = (s.chans[f].play.waitCount + 1) % 4294967296 → (step.decision = true → n ≠ step.body.waitTimeout) →
        (s.chans[lead].play.stepExpiries = 0 →
          t.chans[f].play.state = .running ∧ t.chans[f].play.wait = .none ∧ t.chans[f].play.waitCount = 0
          ∧ t.chans[f].play.stepExpiries = 0
          ∧ t.chans[f].fetch = resumedFetch (s.polled f).chans[f].fetch step
          ∧ (∀ r ∈ s.resumeReads f step, r ∈ t.port.standing)
          ∧ t.chans[f].level.lane =
              (if step.body.waitIdle then s.chans[f].level.idle else s.chans[f].level.expiryCode))
        ∧ (s.chans[lead].play.stepExpiries ≠ 0 → nextPosition s.chans[lead].play ctx ≠ none →
          s.chans[lead].play.offset < ctx.wEff →
          t.chans[f].play.state = .waiting ∧ t.chans[f].play.wait = .leader ∧ t.chans[f].play.waitCount = n))
      ∧ (s.chans[f].plays step → step.body.rep = 0 → step.body.advance = some .leader →
        s.chans[lead].play.stepExpiries = 0 → (startedChannel s.chans[f] step).play.offset < step.wEff →
        nextPosition (startedChannel s.chans[f] step).play step ≠ none →
        t.chans[f].play.advanceSeen = decide (1 ≤ s.chans[f].play.stepExpiries)))

/-- R91 and R92 with R34, R38, R78 and R111: an ARMED group on its generator, every member ready, launches at the expiry if its
condition is IMMEDIATE or its latch is set: every member becomes RUNNING with sample count 0 and the launched flag and shows the
level computation of its first sample, under its step's levels or its default ones, and no member takes the launch as an advance.
Each member's first step has more to play. The launch of a group of one member, whom no other follows, is given whole: the slot read
of a reader that its first step had paused (R34), its LAUNCH record, then the records of its first expiry, then its status block. A
mirror of a member shows its source's first sample with its own levels (R105). And R60: a member is ready when the first step of its
window is resident and its bank is HELD, or is streamed and the fill is at least the lesser of the start level and the effective
window; a step's data is present when its bank is HELD or has loaded at least one sample, or the queue holds an entry. That the
frontier poll counts the expiry before the launch is the model's reading (log 22). -/
def Obligations.ReadyGroupLaunchesTogether : Prop :=
  (∀ (g : GenIx) (s : State) (m : Membership), s.gens[g].running = true →
    m.mask.getLsbD m.leader.val = true → (m.condition = .immediate ∨ m.latch = true) → m.launched = false →
    (∀ c : Chan, s.chans[c].play.generator = g ↔ m.mask.getLsbD c.val = true) →
    (∀ c : Chan, m.mask.getLsbD c.val = true →
      s.chans[c].play.state = .armed ∧ s.chans[c].play.group = some m ∧ s.memberReady c = true
        ∧ s.chans[c].play.episode = 0) →
    (∀ (c : Chan) (ctx : StepContext), m.mask.getLsbD c.val = true → s.chans[c].headStep = some ctx →
      1 ≤ ctx.wEff ∧ (1 < ctx.hold ∨ 1 < ctx.wEff ∨ 1 < ctx.body.rep)) →
    ∃ t, exec (.expiry g) s = .next t
      ∧ t.gens = s.gens.set g (reloaded s.gens[g])
      ∧ (∀ (c : Chan) (ctx : StepContext) (raw gain offset : Int), m.mask.getLsbD c.val = true →
          s.chans[c].headStep = some ctx →
          (ctx.resident = false ∧ s.chans[c].pool.queue.head? = some raw
            ∨ ctx.resident = true ∧ s.chans[c].pool.bankRead ctx 0 = some raw) →
          gain = (if ctx.body.levelsPresent then ctx.body.gain else s.chans[c].level.defGain) →
          offset = (if ctx.body.levelsPresent then ctx.body.offset else s.chans[c].level.defOffset) →
          t.chans[c].play.state = .running ∧ t.chans[c].play.wait = .none ∧ t.chans[c].play.sampleCount = 0
          ∧ t.chans[c].play.group = some { m with launched := true }
          ∧ t.chans[c].play.stepExpiries = 1 ∧ t.chans[c].play.heldRaw = raw ∧ t.chans[c].play.advanceSeen = false
          ∧ t.chans[c].level.lane = levelCode raw gain offset
          ∧ t.chans[c].level.markers[0].latch = false ∧ t.chans[c].level.markers[1].latch = false
          ∧ (∀ d : Chan, s.chans[d].play.state = .mirroring → s.chans[d].level.mirror = some c →
              t.chans[d] = mirrorShowing s.chans[d] t.chans[c] raw))
      ∧ t.engine = s.engine ∧ t.orders = s.orders ∧ t.trig = s.trig ∧ t.pins = s.pins ∧ t.refPhase = s.refPhase
      ∧ t.freeCount = s.freeCount ∧ t.pending = s.pending)
  ∧ (∀ (g : GenIx) (c : Chan) (s u : State) (m : Membership) (ctx : StepContext) (ch b : Channel)
      (position : Nat × Nat × Nat) (raw : Int) (pool : Pool) (obtained missed fed : Bool),
    s.soleOn g c → s.unmirrored c → s.chans[c].play.state = .armed → s.chans[c].play.group = some m →
    (∀ d : Chan, m.mask.getLsbD d.val = true ↔ d = c) → m.leader = c → (m.condition = .immediate ∨ m.latch = true) →
    s.memberReady c = true → s.chans[c].headStep = some ctx →
    (s.chans[c].fetch.reader ≠ .atFrontier ∧ s.chans[c].fetch.reader ≠ .decisionPause ∨ s.port.idleEmpty) →
    (∀ d : Chan, s.chans[d].follows d c = false) →
    u = { s.polled c with
      gens := s.gens.set g (reloaded s.gens[g])
      port := (s.polled c).port.after (s.resumeReads c ctx) } →
    ch = { s.chans[c] with fetch := resumedFetch u.chans[c].fetch ctx } →
    b = { startedChannel
            { enteredChannel ch with
              level := { ch.level with
                stepClips := 0
                markers := #v[{ ch.level.markers[0] with latch := false }, { ch.level.markers[1] with latch := false }] } } ctx
          with play := { (startedChannel (enteredChannel ch) ctx).play with
            sampleCount := 0, group := some { m with launched := true } } } →
    b.play.offset < ctx.wEff → nextPosition b.play ctx = some position →
    b.obtains ctx raw pool obtained missed fed →
    exec (.expiry g) s = .next (State.writeStatusBlock
      (u.afterAction c (playedChannel b ctx raw pool obtained missed position) fed
        (chanRecord c .launch 0 ch.play.startSlot m.mask.toNat m.generator.val
          :: playingRecords c b ctx obtained)) c))
  ∧ (∀ (s : State) (c : Chan), s.memberReady c = true ↔
      ∃ ctx : StepContext, s.chans[c].headStep = some ctx
        ∧ (ctx.resident = true ∧ (∃ (id : BankId) (loaded : List Int), s.chans[c].pool.bank id = .held ctx.occ loaded)
          ∨ ctx.resident = false ∧ min (s.settings c).startLevel ctx.wEff ≤ s.chans[c].pool.queue.length))
  ∧ (∀ (ch : Channel) (ctx : StepContext), ch.dataPresent ctx = true ↔
      ctx.resident = true ∧ (∃ (id : BankId) (loaded : List Int), ch.pool.bank id = .held ctx.occ loaded
          ∨ ch.pool.bank id = .loading ctx.occ loaded ∧ 1 ≤ loaded.length)
        ∨ ctx.resident = false ∧ 1 ≤ ch.pool.queue.length)

/-- R68 with R70: a PASS_END that finds the offset of the RUNNING channel's started step at the end of its window returns the
offset to 0 and goes on to the next pass of a counted repeat, or of an open repeat whose advance has not been taken. And the
model's choice (log 6): as commands of their own PASS_END and STEP_BOUNDARY do nothing when they are not due: before the step's
first sample, and within a pass, an advance of an open repeat with Exit CUT taken or not (R80). -/
def Obligations.PassEndBeginsTheNextPass : Prop :=
  ∀ (c : Chan) (s : State) (p : Play), p = s.chans[c].play →
    (∀ ctx : StepContext, s.chans[c].plays ctx → 1 ≤ p.stepExpiries → ctx.wEff ≤ p.offset → ctx.body.rep ≠ 0 →
      p.pass < ctx.body.rep →
      exec (.passEnd c) s = .next { s with chans := s.chans.set c { s.chans[c] with
        play := { p with offset := 0, pass := p.pass + 1 } } }
      ∧ exec (.stepBoundary c) s = .next s)
    ∧ (∀ ctx : StepContext, s.chans[c].plays ctx → 1 ≤ p.stepExpiries → ctx.wEff ≤ p.offset → ctx.body.rep = 0 →
      p.advanceSeen = false →
      exec (.passEnd c) s = .next { s with chans := s.chans.set c { s.chans[c] with play := { p with offset := 0 } } }
      ∧ exec (.stepBoundary c) s = .next s)
    ∧ (∀ ctx : StepContext, s.chans[c].plays ctx → (p.stepExpiries = 0 ∨ p.offset < ctx.wEff) →
      exec (.passEnd c) s = .next s ∧ exec (.stepBoundary c) s = .next s)
    ∧ (p.state ≠ .running → exec (.passEnd c) s = .next s ∧ exec (.stepBoundary c) s = .next s)

/-- R70 and R71 with R29, R30, R59, R68, R77, R81, R85, R86 and R93: a playing step that has output its last sample retires: its
retire write is raised if Consume is set, it leaves the window and is counted, a reader in WINDOW_FULL raises its next slot read, and
the channel goes on by the pending stop and the head of the window that is left. Where the step was resident its bank is released,
and a context held in BANK_WAIT takes the bank, is placed at the tail with its map change, and counts as part of the window. For a
channel that no other mirrors, and none follows where it stops or faults, the boundary is given whole, with its STEP_END record of
the samples and clips if reported, the STARVED record of an open episode, and the FRONTIER, CHANNEL_STOPPED or CHANNEL_FAULT record.
The other channels stand, but for a lost leader's followers. That a channel without a membership has no leader
is the model's reading (log 25), and so are the offset that is left standing until the next step start and STEP_BOUNDARY as a command
of its own (log 6), and the place in the data cursor's order that a streamed step keeps which retires before the cursor reaches it
(log 40). -/
def Obligations.StepBoundaryRetiresAndGoesOn : Prop :=
  ∀ (i : Instr) (c : Chan) (s : State) (ctx : StepContext) (p : Play) (placed : Option (StepContext × BankId))
    (rest : List WindowEntry),
    (i = .passEnd c ∨ i = .stepBoundary c) → s.chans[c].plays ctx → p = s.chans[c].play → 1 ≤ p.stepExpiries →
    ctx.wEff ≤ p.offset →
    (ctx.body.rep ≠ 0 ∧ ctx.body.rep ≤ p.pass ∨ ctx.body.rep = 0 ∧ p.advanceSeen = true) →
    s.chans[c].letsIn ctx placed →
    rest = s.chans[c].fetch.window.tail
      ++ (match placed with | some (held, id) => [.step { held with bank := some id }] | none => []) →
    ∃ t, exec i s = .next t
      ∧ t.chans[c].play.retired = (p.retired + 1) % 4294967296 ∧ t.chans[c].play.lastRetired = some ctx.slot
      ∧ t.chans[c].play.sampleCount = p.sampleCount
      ∧ (ctx.body.consume = true →
          s.retireOf c ctx
            ∈ t.port.standing)
      ∧ (ctx.body.nextKind = some .endStep →
          t.chans[c].play.state = .idle ∧ t.chans[c].play.lastStop = .endStep ∧ t.chans[c].pool = emptyShare)
      ∧ (ctx.body.nextKind ≠ some .endStep → p.pendingStop = .stepEnd →
          t.chans[c].play.state = .idle ∧ t.chans[c].play.lastStop = .stepEnd ∧ t.chans[c].pool = emptyShare)
      ∧ (t.chans[c].play.state.counts = true →
          (∀ id : BankId, t.chans[c].pool.bank id =
            match placed with
            | some (held, taken) => if id = taken then .loading held.occ [] else s.chans[c].pool.bank id
            | none =>
              if ctx.resident = true ∧ (s.chans[c].pool.bank id).occ? = some ctx.occ then .free
              else s.chans[c].pool.bank id)
          ∧ (placed = none → t.chans[c].fetch.map = s.chans[c].fetch.map)
          ∧ (∀ (held : StepContext) (id : BankId), placed = some (held, id) →
            t.chans[c].fetch.held = none
            ∧ t.chans[c].fetch.map = mapAfter held.body held.slot s.chans[c].fetch.map
            ∧ readerAfter held { s.chans[c].fetch with window := s.chans[c].fetch.window.tail } t.chans[c].fetch))
      ∧ (ctx.body.nextKind ≠ some .endStep → p.pendingStop ≠ .stepEnd →
          (∀ (occ slot : Nat) (sub : SubCode) (r : List WindowEntry), rest = .invalid occ slot sub :: r →
            t.chans[c].play.state = .faulted ∧ t.chans[c].play.faultCause = .stepInvalid sub)
          ∧ (∀ (next : StepContext) (r : List WindowEntry), rest = .step next :: r →
            (next.body.entry = some .immediate →
              t.chans[c].play.state = .running ∧ t.chans[c].play.stepExpiries = 0 ∧ t.chans[c].level.stepClips = 0
              ∧ t.chans[c].fetch.window = rest)
            ∧ (∀ k : LineIx, next.body.entry = some (.trigger k) →
              t.chans[c].play.state = .waiting ∧ t.chans[c].play.wait = .trigger k ∧ t.chans[c].play.waitCount = 0
              ∧ t.chans[c].fetch.window = rest)
            ∧ (next.body.entry = some .leader → s.chans[c].noLeader c = false →
              t.chans[c].play.state = .waiting ∧ t.chans[c].play.wait = .leader ∧ t.chans[c].play.waitCount = 0
              ∧ t.chans[c].fetch.window = rest)
            ∧ (next.body.entry = some .leader → s.chans[c].noLeader c = true →
              t.chans[c].play.state = .idle ∧ t.chans[c].play.lastStop = .leaderGone
              ∧ t.chans[c].accumulated.getLsbD 7 = true))
          ∧ (rest = [] → p.pendingStop = .drain →
            t.chans[c].play.state = .idle ∧ t.chans[c].play.lastStop = .drain ∧ t.chans[c].pool = emptyShare)
          ∧ (rest = [] → p.pendingStop ≠ .drain → s.chans[c].fetch.frontier = true →
            t.chans[c].play.state = .frontier ∧ t.chans[c].play.wait = .none ∧ t.chans[c].play.episode = 0
            ∧ t.chans[c].accumulated.getLsbD 2 = true)
          ∧ (rest = [] → p.pendingStop ≠ .drain → s.chans[c].fetch.frontier = false →
            t.chans[c].play.state = .waiting ∧ t.chans[c].play.wait = .data true ∧ t.chans[c].play.episode = 0))
      ∧ (∀ (went : Channel) (records : List Record) (r : State), s.port.idleEmpty → s.unmirrored c →
          r = s.retires c ctx (if i = .passEnd c then 0 else p.offset) placed →
          r.chans[c].leavesBoundary c ctx went records →
          (went.play.state.counts = true ∨ ∀ d : Chan, s.chans[d].follows d c = false) →
          t = r.leftBoundary c went (s.chans[c].endRecords c ctx ++ records))
      ∧ (∀ d : Chan, d ≠ c → s.chans[d].follows d c = false → s.chans[d].play.state ≠ .mirroring →
          t.chans[d] = s.chans[d])
      ∧ t.engine = s.engine ∧ t.orders = s.orders ∧ t.gens = s.gens ∧ t.trig = s.trig ∧ t.pins = s.pins
      ∧ t.refPhase = s.refPhase ∧ t.freeCount = s.freeCount ∧ t.pending = s.pending

/-- R74 with R35, R40 and R86: the timeout of a decision step retires it with a WAIT_TIMEOUT record and the TIMEOUT condition; the
channel is purged with its loop counters kept, its reader reads on from the Branch Target, and it waits for data, not late; with a
DRAIN pending it stops instead (log 14 on its two purges). Without a DRAIN the branch is given whole: the retire write if Consume is
set, the slot read of a reader that waited for room, which the purge withdraws where it still waits (R30, R160), the Branch Target's
read, the record, the status block. And the model's choice (log 6): a WAIT_TIMEOUT that is not due does
nothing. -/
def Obligations.WaitTimeoutBranches : Prop :=
  ∀ (c : Chan) (s : State) (p : Play), p = s.chans[c].play →
    (∀ ctx : StepContext, p.inEntryWait = true → s.chans[c].headStep = some ctx → ctx.decision = true →
      p.waitCount = ctx.body.waitTimeout →
      ∃ t, exec (.waitTimeout c) s = .next t
        ∧ t.chans[c].accumulated = s.chans[c].accumulated ||| 0x010 ∧ t.chans[c].perRecord = 0
        ∧ t.chans[c].pool = emptyShare ∧ t.chans[c].play.retired = (p.retired + 1) % 4294967296
        ∧ t.chans[c].play.lastRetired = some ctx.slot
        ∧ (p.pendingStop ≠ .drain →
          t.chans[c].play = { p with
            state := .waiting
            wait := .data false
            retired := (p.retired + 1) % 4294967296
            lastRetired := some ctx.slot
            episode := 0 }
          ∧ t.chans[c].fetch = { purgedFetch s.chans[c].fetch with
              map := s.chans[c].fetch.map
              cursor := ctx.body.branchTarget
              reader := .slotRead }
          ∧ readOf (.stepSlotRead c (s.chans[c].fetch.epoch + 1) false) (s.slotAddr c ctx.body.branchTarget) 64
              ∈ t.port.standing)
        ∧ (p.pendingStop = .drain →
          t.chans[c].play.state = .idle ∧ t.chans[c].play.lastStop = .drain ∧ t.chans[c].fetch.reader = .off
          ∧ t.chans[c].fetch.window = [] ∧ t.chans[c].fetch.map = [])
        ∧ (ctx.body.consume = true →
          s.retireOf c ctx
            ∈ t.port.standing)
        ∧ (p.pendingStop ≠ .drain → s.port.idleEmpty → t = s.afterTimeout c ctx [])
        ∧ t.engine = s.engine ∧ t.orders = s.orders ∧ t.gens = s.gens ∧ t.trig = s.trig ∧ t.pins = s.pins
        ∧ t.refPhase = s.refPhase ∧ t.freeCount = s.freeCount ∧ t.pending = s.pending)
    ∧ (p.inEntryWait = false → exec (.waitTimeout c) s = .next s)
    ∧ (∀ ctx : StepContext, s.chans[c].headStep = some ctx → (ctx.decision = false ∨ p.waitCount ≠ ctx.body.waitTimeout) →
      exec (.waitTimeout c) s = .next s)

/-- R38 and R109: a FRONTIER_POLL that is due raises the re-read of the slot under the cursor and enters SLOT_READ; a marker
whose delay count has reached 0 becomes PULSING with width count Width, and one whose width count has reached 0 becomes QUIET.
And the model's choice (log 6): as commands of their own these do nothing when they are not due. -/
def Obligations.PollsAndMarkerCountsComeDue : Prop :=
  ∀ (c : Chan) (m : MarkIx) (s : State) (n : Nat) (o : OneShot), s.port.idleEmpty →
    n = (let v := (s.settings c).frontierPoll; if v = 0 then 0 else if v < 64 then 64 else v) →
    o = s.chans[c].level.markers[m] →
    (s.chans[c].fetch.reader = .atFrontier → s.chans[c].play.state.counts = true → n ≠ 0 → n ≤ s.chans[c].fetch.poll →
      exec (.frontierPoll c) s = .next { s with
        chans := s.chans.set c { s.chans[c] with fetch := { s.chans[c].fetch with reader := .slotRead } }
        port := s.port.after [readOf (.stepSlotRead c s.chans[c].fetch.epoch true)
          (s.slotAddr c s.chans[c].fetch.cursor) 64] })
    ∧ (s.chans[c].fetch.reader ≠ .atFrontier ∨ s.chans[c].play.state.counts = false ∨ n = 0 ∨ s.chans[c].fetch.poll < n →
      exec (.frontierPoll c) s = .next s)
    ∧ (o.phase = .delaying → o.delayCount = 0 →
      exec (.markerDelayElapsed c m) s = .next { s with chans := s.chans.set c { s.chans[c] with
        level := { s.chans[c].level with
          markers := s.chans[c].level.markers.set m { o with phase := .pulsing, widthCount := o.width } } } })
    ∧ (o.phase ≠ .delaying ∨ o.delayCount ≠ 0 → exec (.markerDelayElapsed c m) s = .next s)
    ∧ (o.phase = .pulsing → o.widthCount = 0 →
      exec (.markerWidthElapsed c m) s = .next { s with chans := s.chans.set c { s.chans[c] with
        level := { s.chans[c].level with
          markers := s.chans[c].level.markers.set m { o with phase := .quiet } } } })
    ∧ (o.phase ≠ .pulsing ∨ o.widthCount ≠ 0 → exec (.markerWidthElapsed c m) s = .next s)

/-! ## Trigger lines -/

/-- R120, R122 to R126: a trigger sample while ONLINE advances the Reference Time and, for every line, its delay and its
qualification, the levels registered being those of the pins; the first sample after GO takes the pins as registered and stable and
compares nothing, and counts a delay that a STRIKE before it has started. No line delivers at this sample. An edge that finds its
line DELAYING is ignored, and raises EDGE_IGNORED for the channels that attend the line. Off ONLINE there is no trigger sample. -/
def Obligations.TriggerSampleQualifiesTheLines : Prop :=
  ∀ (levels : BitVec 4) (s : State) (time : Nat), time = (s.trig.refTime + 1) % 281474976710656 →
    (s.engine.state ≠ .online → exec (.triggerSample levels) s = .next s)
    ∧ (s.engine.state = .online → s.trig.firstDue = true →
      (∀ k : LineIx, s.trig.lines[k].delaying = true → 2 ≤ s.trig.lines[k].delayCount) →
      exec (.triggerSample levels) s = .next { s with
        pins := levels
        refPhase := 0
        trig := {
          refTime := time
          firstDue := false
          lines := vec4 fun k => firstSampledLine s.trig.lines[k] (levels.getLsbD k.val) } })
    ∧ (s.engine.state = .online → s.trig.firstDue = false → (∀ k : LineIx, s.trig.lines[k].deliversNothing) →
      exec (.triggerSample levels) s = .next { s with
        pins := levels
        refPhase := 0
        trig := {
          refTime := time
          firstDue := false
          lines := vec4 fun k => sampledLine s.trig.lines[k] (levels.getLsbD k.val) time }
        chans := vec8 fun c =>
          let ch := s.chans[c]
          if allLines.any fun k => s.trig.lines[k].edgeNow && s.trig.lines[k].delaying && ch.attendsLine k then
            { ch with perRecord := ch.perRecord ||| 0x100, accumulated := ch.accumulated ||| 0x100 }
          else ch })

/-- R124 with R122 and R126: a delay that ends at a trigger sample delivers its event at that sample, as TRIGGER_EVENT does, before
the line's level is compared: an edge that the same sample qualifies finds the line IDLE and starts a new delay, or, with D 0,
delivers a second event there. The first trigger sample after GO, which may end the delay of a STRIKE, compares nothing. And R123
with R124: an edge that a sample qualifies on an IDLE line with D 0 is delivered at that very sample. A delivery that an edge makes
is that of the qualified edge, as QUALIFIED_EDGE has it, with the pin registered and the agreement counted; TRIGGER_EVENT and
QUALIFIED_EDGE as commands of their own are the model's choice (log 6). The other lines neither deliver nor ignore an edge at this
sample. -/
def Obligations.DelayEndsAtItsTriggerSample : Prop :=
  (∀ (levels : BitVec 4) (s : State) (k : LineIx) (time : Nat) (after : TrigLine → LineIx → TrigLine),
    s.engine.state = .online →
    time = (s.trig.refTime + 1) % 281474976710656 →
    after = (fun l j =>
      if s.trig.firstDue then firstSampledLine l (levels.getLsbD j.val) else sampledLine l (levels.getLsbD j.val) time) →
    s.trig.lines[k].delaying = true → s.trig.lines[k].delayCount = 1 →
    (s.trig.firstDue = false → s.trig.lines[k].edgeNow = true → 1 ≤ s.trig.lines[k].delay) →
    (∀ j : LineIx, j ≠ k →
      if s.trig.firstDue then s.trig.lines[j].delaying = true → 2 ≤ s.trig.lines[j].delayCount
      else s.trig.lines[j].deliversNothing ∧ (s.trig.lines[j].edgeNow && s.trig.lines[j].delaying) = false) →
    ∃ t : State,
      exec (.triggerEvent k) { s with
        pins := levels
        refPhase := 0
        trig := {
          refTime := time
          firstDue := false
          lines := vec4 fun j =>
            if j = k then { s.trig.lines[k] with delayCount := 0 } else after s.trig.lines[j] j } } = .next t
      ∧ t.trig.lines[k].delaying = false
      ∧ exec (.triggerSample levels) s = .next { t with
          trig := { t.trig with lines := t.trig.lines.set k (after t.trig.lines[k] k) } })
  ∧ ∀ (levels : BitVec 4) (s : State) (k : LineIx) (time : Nat) (others : LineIx → TrigLine) (counted : TrigLine → TrigLine),
    s.engine.state = .online → s.trig.firstDue = false →
    time = (s.trig.refTime + 1) % 281474976710656 →
    others = (fun j => sampledLine s.trig.lines[j] (levels.getLsbD j.val) time) →
    counted = (fun l => { l with registered := levels.getLsbD k.val, agreement := l.agreement + 1 }) →
    s.trig.lines[k].edgeNow = true → s.trig.lines[k].delay = 0 →
    (∀ j : LineIx, j ≠ k →
      s.trig.lines[j].deliversNothing ∧ (s.trig.lines[j].edgeNow && s.trig.lines[j].delaying) = false) →
    (s.trig.lines[k].delaying = false →
      exec (.triggerSample levels) s = exec (.qualifiedEdge k) { s with
        pins := levels
        refPhase := 0
        trig := {
          refTime := time
          firstDue := false
          lines := vec4 fun j => if j = k then counted s.trig.lines[k] else others j } })
    ∧ (s.trig.lines[k].delaying = true → s.trig.lines[k].delayCount = 1 →
      ∃ t : State,
        exec (.triggerEvent k) { s with
          pins := levels
          refPhase := 0
          trig := {
            refTime := time
            firstDue := false
            lines := vec4 fun j => if j = k then { s.trig.lines[k] with delayCount := 0 } else others j } } = .next t
        ∧ exec (.triggerSample levels) s = exec (.qualifiedEdge k) { t with
            trig := { t.trig with lines := t.trig.lines.set k (counted t.trig.lines[k]) } })

/-- R128, R129, R143 with R34, R73 and R78: a trigger event reaches the channels that attend the line and no other: one that waits
for it becomes RUNNING, its paused reader going on with the decision step's successor, an open repeat takes its advance, and an
ARMED group sets its latch if every member is ready and otherwise raises EARLY_TRIGGER from each member that is not, in channel
order. With capture on a TRIGGER_CAPTURE record carries the edge time, the delay applied and the ignored-edge count, which returns
to 0. A channel attends line k when it is WAITING for TRIGGER(k), RUNNING with an open repeat with Advance TRIGGER(k) from the
step's start, or ARMED in a group with start condition TRIGGER(k), and in no other case. Where no ARMED channel attends, the event
is given whole: the slot reads of the resumed readers in channel order, the capture record, then the status blocks of the channels
that became RUNNING. That the capture record is raised before the channels' records is the model's reading (log 16), and so is the
order of those requests (log 17); TRIGGER_EVENT and QUALIFIED_EDGE as commands of their own are the model's choice (log 6). -/
def Obligations.DeliveredEventReachesTheAttending : Prop :=
  (∀ (ch : Channel) (k : LineIx), ch.attendsLine k = true ↔
    ch.play.state = .waiting ∧ ch.play.wait = .trigger k
    ∨ ch.play.state = .running ∧ 1 ≤ ch.play.stepExpiries
      ∧ (∃ ctx : StepContext, ch.headStep = some ctx ∧ ctx.body.rep = 0 ∧ ctx.body.advance = some (.trigger k))
    ∨ ch.play.state = .armed ∧ ∃ m : Membership, ch.play.group = some m ∧ m.condition = .trigger k)
  ∧ ∀ (k : LineIx) (i : Instr) (edge applied : Nat) (s : State) (l : TrigLine), s.deliversBy k i edge applied →
    l = s.trig.lines[k] →
    ((∀ c : Chan, s.chans[c].play.state = .armed → s.chans[c].attendsLine k = false) →
      ∃ t, exec i s = .next t
        ∧ (∀ c : Chan,
          (∀ ctx : StepContext, s.chans[c].play.state = .waiting → s.chans[c].play.wait = .trigger k →
            s.chans[c].headStep = some ctx →
            t.chans[c] = { s.chans[c] with
              fetch := resumedFetch s.chans[c].fetch ctx
              play := { s.chans[c].play with state := .running, wait := .none, waitCount := 0, stepExpiries := 0 }
              level := { s.chans[c].level with stepClips := 0 } })
          ∧ (s.chans[c].play.state = .running → s.chans[c].attendsLine k = true →
            t.chans[c] = { s.chans[c] with play := { s.chans[c].play with advanceSeen := true } })
          ∧ (s.chans[c].attendsLine k = false → t.chans[c] = s.chans[c]))
        ∧ t.trig.lines[k].delaying = false ∧ t.trig.lines[k].edgeTime = edge ∧ t.trig.lines[k].delayApplied = applied
        ∧ t.trig.lines[k].ignored = (if l.capture then 0 else l.ignored)
        ∧ (∀ j : LineIx, j ≠ k → t.trig.lines[j] = s.trig.lines[j]) ∧ t.trig.refTime = s.trig.refTime
        ∧ (∀ record : Record,
          record = { kind := .triggerCapture, source := .line k, slot := 0, conditions := 0, time := edge,
                     detailA := applied, detailB := l.ignored } →
          t.report = if l.capture then (s.handOver record).report else s.report)
        ∧ (∀ (woken : List Chan) (reads : List Request), s.port.idleEmpty →
          woken = allChans.filter (fun c => decide (s.chans[c].play.state = .waiting)
            && decide (s.chans[c].play.wait = .trigger k) && s.chans[c].headStep.isSome) →
          reads = woken.flatMap (fun c => match s.chans[c].headStep with
            | some ctx => s.resumeReads c ctx
            | none => []) →
          t = woken.foldl State.writeStatusBlock (State.handOverAll
            (if l.capture then
              [{ kind := .triggerCapture, source := .line k, slot := 0, conditions := 0, time := edge,
                 detailA := applied, detailB := l.ignored }] else [])
            { s with trig := t.trig, chans := t.chans, port := s.port.after reads }))
        ∧ t.engine = s.engine ∧ t.orders = s.orders ∧ t.gens = s.gens ∧ t.pins = s.pins ∧ t.refPhase = s.refPhase
        ∧ t.freeCount = s.freeCount ∧ t.pending = s.pending)
    ∧ (∀ (c : Chan) (m : Membership), s.chans[c].armedLeader c = some m → m.condition = .trigger k →
      m.mask.getLsbD c.val = true →
      (∀ (d : Chan) (n : Membership), s.chans[d].armedLeader d = some n → n.condition = .trigger k → d = c) →
      (∀ d : Chan, m.mask.getLsbD d.val = true → s.chans[d].play.state = .armed ∧ s.chans[d].play.group = some m) →
      ∃ t, exec i s = .next t
        ∧ (∀ d : Chan, m.mask.getLsbD d.val = true →
          (s.groupReady m = true → t.chans[d] = { s.chans[d] with
            play := { s.chans[d].play with group := some { m with latch := true } } })
          ∧ (s.groupReady m = false → s.memberReady d = true → t.chans[d] = s.chans[d])
          ∧ (s.groupReady m = false → s.memberReady d = false → t.chans[d] = { s.chans[d] with
            accumulated := s.chans[d].accumulated ||| 0x008
            perRecord := 0 }))
        ∧ t.trig.lines[k].delaying = false ∧ t.trig.lines[k].edgeTime = edge ∧ t.trig.lines[k].delayApplied = applied
        ∧ t.trig.lines[k].ignored = (if l.capture then 0 else l.ignored)
        ∧ (∀ j : LineIx, j ≠ k → t.trig.lines[j] = s.trig.lines[j]) ∧ t.trig.refTime = s.trig.refTime
        ∧ (s.groupReady m = true →
          (∀ d : Chan, m.mask.getLsbD d.val = false → s.chans[d].attendsLine k = false) →
          t = State.handOverAll
            (if l.capture then
              [{ kind := .triggerCapture, source := .line k, slot := 0, conditions := 0, time := edge,
                 detailA := applied, detailB := l.ignored }] else [])
            { s with
              trig := t.trig
              chans := vec8 fun d =>
                if m.mask.getLsbD d.val then
                  { s.chans[d] with play := { s.chans[d].play with group := some { m with latch := true } } }
                else s.chans[d] })
        ∧ (∀ early : List Chan, s.groupReady m = false →
          (∀ d : Chan, m.mask.getLsbD d.val = false → s.chans[d].attendsLine k = false) →
          early = allChans.filter (fun d => m.mask.getLsbD d.val && !s.memberReady d) →
          t = State.handOverAll
            ((if l.capture then
                [{ kind := .triggerCapture, source := .line k, slot := 0, conditions := 0, time := edge,
                   detailA := applied, detailB := l.ignored }] else [])
              ++ early.map fun d => chanRecord d .earlyTrigger s.chans[d].play.sampleCount s.chans[d].play.startSlot k.val 0)
            { s with
              trig := t.trig
              chans := vec8 fun d =>
                if d ∈ early then
                  { s.chans[d] with
                    perRecord := s.chans[d].perRecord ||| 0x008, accumulated := s.chans[d].accumulated ||| 0x008 }
                else s.chans[d] }))

/-- R123, R124 and R125: a QUALIFIED_EDGE that has come due makes the compared level the stable one; where the change matches
the edge mode, an IDLE line with a delay of at least 1 starts it, and a DELAYING one counts an ignored edge. And the model's
choice (log 6): as commands of their own QUALIFIED_EDGE and TRIGGER_EVENT do nothing when they are not due. -/
def Obligations.QualifiedEdgeStartsADelay : Prop :=
  ∀ (k : LineIx) (s : State) (l : TrigLine), l = s.trig.lines[k] →
    (s.engine.state = .online → l.qualifier ≤ l.agreement →
      (l.mode.takes (!l.stable) = false →
        exec (.qualifiedEdge k) s = .next { s with trig := { s.trig with
          lines := s.trig.lines.set k { l with stable := !l.stable, agreement := 0 } } })
      ∧ (l.mode.takes (!l.stable) = true → l.delaying = false → 1 ≤ l.delay →
        exec (.qualifiedEdge k) s = .next { s with trig := { s.trig with
          lines := s.trig.lines.set k { l with
            stable := !l.stable
            agreement := 0
            delaying := true
            delayCount := l.delay
            delayApplied := l.delay
            edgeTime := s.trig.refTime } } })
      ∧ (l.mode.takes (!l.stable) = true → l.delaying = true →
        exec (.qualifiedEdge k) s = .next { s with
          trig := { s.trig with
            lines := s.trig.lines.set k { l with
              stable := !l.stable
              agreement := 0
              ignored := min 4294967295 (l.ignored + 1) } }
          chans := vec8 fun c =>
            if s.chans[c].attendsLine k then
              { s.chans[c] with
                perRecord := s.chans[c].perRecord ||| 0x100
                accumulated := s.chans[c].accumulated ||| 0x100 }
            else s.chans[c] }))
    ∧ (s.engine.state ≠ .online ∨ l.agreement < l.qualifier → exec (.qualifiedEdge k) s = .next s)
    ∧ (s.engine.state ≠ .online ∨ l.delaying = false ∨ l.delayCount ≠ 0 → exec (.triggerEvent k) s = .next s)

/-! ## Levels, pool settings, loops, the arbiter and the report ring -/

/-- R98 and R99: V is S times G over 16384 rounded to the nearest with ties upward, the offset is added, the code is the sum
kept within -32768 to 32767, and the computation clips exactly when the sum lies outside. Gain 16384 with offset 0 shows every
raw sample as it is. -/
def Obligations.LevelComputationRoundsAndSaturates : Prop :=
  ∀ raw gain offset y : Int, y = scaleSample raw gain + offset →
    16384 * scaleSample raw gain ≤ raw * gain + 8192 ∧ raw * gain + 8192 < 16384 * scaleSample raw gain + 16384
    ∧ isCode (levelCode raw gain offset)
    ∧ (isCode y → levelCode raw gain offset = y ∧ levelClips raw gain offset = false)
    ∧ (32767 < y → levelCode raw gain offset = 32767 ∧ levelClips raw gain offset = true)
    ∧ (y < -32768 → levelCode raw gain offset = -32768 ∧ levelClips raw gain offset = true)
    ∧ (isCode raw → levelCode raw 16384 0 = raw)

/-- R46 to R49 and R184: the checks of a Configuration Record in their order, each with the field and the channel it names; and what
a record that passes every check brings into force for the pool. All allotments 0 select the default division; otherwise each
channel with a share has bank sizes and a capacity in their ranges, its low-water mark and start level clamped, and the shares fit
the pool. -/
def Obligations.PoolSettingsInForce : Prop :=
  (∀ (r : ConfigRecord) (dflt : Prop) (poolOk listOk : Chan → Prop) (sum : Chan → Nat),
    (dflt ↔ ∀ c : Chan, r.chan[c].allotment = 0) →
    (∀ c : Chan, poolOk c ↔ r.chan[c].allotment % 256 = 0
      ∧ (0 < r.chan[c].allotment → r.chan[c].bankSize % 256 = 0 ∧ r.chan[c].bankSize ≤ 8192
          ∧ 2 * r.chan[c].bankSize + 256 ≤ r.chan[c].allotment)) →
    (∀ c : Chan, listOk c ↔ (dflt ∨ 0 < r.chan[c].allotment →
      r.chan[c].listSize ∈ [16, 32, 64, 128, 256, 512, 1024] ∧ r.chan[c].listBase % 64 = 0)) →
    (∀ c : Chan, sum c = ((allChans.take (c.val + 1)).map fun d => r.chan[d].allotment).sum) →
    (r.format ≠ 1 → firstRefusal r = some ⟨true, 0x00, none⟩)
    ∧ (r.format = 1 → r.segCount = 0 ∨ 4096 < r.segCount → firstRefusal r = some ⟨true, 0x10, none⟩)
    ∧ (r.format = 1 → 1 ≤ r.segCount → r.segCount ≤ 4096 →
      (r.segBase % 16 ≠ 0 → firstRefusal r = some ⟨true, 0x08, none⟩)
      ∧ (r.segBase % 16 = 0 →
        (r.ringCap < 64 ∨ 65536 < r.ringCap ∨ r.ringCap % 64 ≠ 0 → firstRefusal r = some ⟨true, 0x20, none⟩)
        ∧ (64 ≤ r.ringCap → r.ringCap ≤ 65536 → r.ringCap % 64 = 0 →
          (r.ringBase % 32 ≠ 0 → firstRefusal r = some ⟨true, 0x18, none⟩)
          ∧ (r.ringBase % 32 = 0 →
            (∀ c : Chan, ¬ dflt → ¬ poolOk c → (∀ d : Chan, d < c → poolOk d) →
              firstRefusal r = some
                ⟨true, 0x40 + 24 * c.val + (if r.chan[c].allotment % 256 ≠ 0 then 12 else 16), some c⟩)
            ∧ (∀ c : Chan, ¬ dflt → (∀ d : Chan, poolOk d) → 65536 < sum c → (∀ d : Chan, d < c → sum d ≤ 65536) →
              firstRefusal r = some ⟨true, 0x40 + 24 * c.val + 12, some c⟩)
            ∧ (dflt ∨ (∀ d : Chan, poolOk d ∧ sum d ≤ 65536) →
              (∀ c : Chan, ¬ listOk c → (∀ d : Chan, d < c → listOk d) →
                firstRefusal r = some
                  ⟨true, 0x40 + 24 * c.val + (if r.chan[c].listSize ∈ [16, 32, 64, 128, 256, 512, 1024] then 0 else 8), some c⟩)
              ∧ ((∀ c : Chan, listOk c) → firstRefusal r = none)))))))
  ∧ ∀ (r : ConfigRecord) (k : EngineConfig), firstRefusal r = none → k = configOf r →
    ((∀ c : Chan, r.chan[c].allotment = 0) → ∀ c : Chan,
      k.chan[c].allotment = 8192 ∧ k.chan[c].bankSize = 2048 ∧ k.chan[c].capacity = 4096 ∧ k.chan[c].lowWater = 1024
      ∧ k.chan[c].startLevel = 512)
    ∧ ((∃ c : Chan, r.chan[c].allotment ≠ 0) → ∀ c : Chan,
      k.chan[c].allotment = r.chan[c].allotment ∧ k.chan[c].allotment % 256 = 0
      ∧ (0 < k.chan[c].allotment →
        k.chan[c].bankSize = r.chan[c].bankSize ∧ k.chan[c].bankSize % 256 = 0 ∧ k.chan[c].bankSize ≤ 8192
        ∧ k.chan[c].capacity + 2 * k.chan[c].bankSize = k.chan[c].allotment ∧ 256 ≤ k.chan[c].capacity
        ∧ k.chan[c].lowWater = min r.chan[c].lowWater k.chan[c].capacity
        ∧ 64 ≤ k.chan[c].startLevel ∧ k.chan[c].startLevel ≤ k.chan[c].capacity
        ∧ (r.chan[c].startLevel < 64 → k.chan[c].startLevel = 64)
        ∧ (64 ≤ r.chan[c].startLevel → k.chan[c].startLevel = min r.chan[c].startLevel k.chan[c].capacity)))
    ∧ (allChans.map fun c => k.chan[c].allotment).sum ≤ 65536

/-- R12 and R13 with R31: the successor of a NEXT step is the next slot of the ring, that of an END step none, and neither touches
the loop counter map. And one complete run of a counted loop, its entry not yet in the map: the placements of the JUMP step with
Passes P take the jump P - 1 times and then fall through once, and leave the map as it was. Passes 0 always jumps and Passes 1 never
does, and neither touches the map. -/
def Obligations.CountedLoopJumpsPassesLessOneTimes : Prop :=
  ∀ (b : StepBody) (slot size : Nat) (map : List (Nat × Nat)),
    (b.nextKind = some .next → successorOf b slot size map = some ((slot + 1) % size) ∧ mapAfter b slot map = map)
    ∧ (b.nextKind = some .endStep → successorOf b slot size map = none ∧ mapAfter b slot map = map)
    ∧ (b.nextKind = some .jump →
      (b.passes = 0 → successorOf b slot size map = some b.jumpTarget ∧ mapAfter b slot map = map)
      ∧ (b.passes = 1 → successorOf b slot size map = some ((slot + 1) % size) ∧ mapAfter b slot map = map)
      ∧ (2 ≤ b.passes → mapEntry map slot = none →
        (∀ i : Nat, i + 1 < b.passes → successorOf b slot size ((mapAfter b slot)^[i] map) = some b.jumpTarget)
        ∧ successorOf b slot size ((mapAfter b slot)^[b.passes - 1] map) = some ((slot + 1) % size)
        ∧ (mapAfter b slot)^[b.passes] map = map))

/-- R157 and R158: when a completion has been handled and requests wait, the lowest class that holds one is served: the request
raised earliest in classes 1 and 5, and in classes 2, 3 and 4 that of the first channel counting upward from the class's pointer,
which then names the channel after it, the other pointers standing. With none waiting the port becomes IDLE. And R155 with R55, the
class of each transfer: 1 for the engine's writes but the snapshot's, 3 for step slot reads and segment entry reads, 5 for frontier
re-reads, order slot reads, Configuration Record reads, Taken reads and snapshot writes; a sample request is of class 2 when urgent
and of class 4 otherwise: a stream request is urgent while the fill is below the low-water mark, a bank load while its occurrence is
the oldest window entry and the channel is RUNNING or WAITING. -/
def Obligations.ArbiterServesClassesInOrder : Prop :=
  (∀ (s : State) (c : Chan) (epoch : BitVec 8) (occ offset n : Nat) (f : SampleFormat) (kind : RecordKind) (overwrite : Bool)
      (counted : Option RecordKind),
    s.classOf (.reportRecord kind overwrite) = 1 ∧ s.classOf (.reportsWritten counted) = 1 ∧ s.classOf (.statusBlock c) = 1
    ∧ s.classOf .engineConditions = 1 ∧ s.classOf (.slotRetire c) = 1
    ∧ s.classOf .orderResult = 1 ∧ s.classOf .orderHead = 1
    ∧ s.classOf (.streamRequest c epoch n f) =
      (if s.chans[c].pool.queue.length < (s.settings c).lowWater then 2 else 4)
    ∧ s.classOf (.bankLoad c epoch occ offset n f) =
      (if s.chans[c].fetch.window.head?.map WindowEntry.occ = some occ
          ∧ (s.chans[c].play.state = .running ∨ s.chans[c].play.state = .waiting) then 2 else 4)
    ∧ s.classOf (.stepSlotRead c epoch false) = 3 ∧ s.classOf (.segmentEntryRead c epoch) = 3
    ∧ s.classOf (.stepSlotRead c epoch true) = 5 ∧ s.classOf .orderSlotRead = 5 ∧ s.classOf .configReadGo = 5
    ∧ s.classOf .configReadOrder = 5 ∧ s.classOf .reportsTakenRead = 5 ∧ s.classOf .snapshotWrite = 5)
  ∧ ∀ s t : State, t = s.portDone →
    (s.port.waiting = [] → t = { s with port := { s.port with busy := false } })
    ∧ (s.port.waiting ≠ [] →
      ∃ r ∈ s.port.waiting,
        t = { s with port := { t.port with busy := true, inFlight := some r, discard := false
                                           waiting := s.port.waiting.erase r } }
        ∧ (∀ q ∈ s.port.waiting, s.classOf r.kind ≤ s.classOf q.kind)
        ∧ (s.classOf r.kind = 1 ∨ s.classOf r.kind = 5 →
          s.port.waiting.find? (fun q => s.classOf q.kind == s.classOf r.kind) = some r
          ∧ t.port.rr2 = s.port.rr2 ∧ t.port.rr3 = s.port.rr3 ∧ t.port.rr4 = s.port.rr4)
        ∧ (∀ k : Nat, k = 2 ∨ k = 3 ∨ k = 4 → s.classOf r.kind = k →
          ∃ c : Chan, r.kind.chan? = some c
            ∧ (∀ (q : Request) (d : Chan), q ∈ s.port.waiting → s.classOf q.kind = k → q.kind.chan? = some d →
                (c - s.port.pointer k).val ≤ (d - s.port.pointer k).val)
            ∧ t.port.pointer k = c + 1
            ∧ (∀ j : Nat, j = 2 ∨ j = 3 ∨ j = 4 → j ≠ k → t.port.pointer j = s.port.pointer j)))

/-- R165 to R169 and R171: where a record handed over goes. A queue that holds records takes it at its tail, in the place of
its newest record when it is full; otherwise a ring with room takes it in a fresh slot, with the Reports Written word after it;
without room it waits for a Taken read while ONLINE and is lost off ONLINE; and a record placed after a Taken read that gave no
room overwrites the newest slot. A record that comes from the queue counts the losses it carries in its Dropped, or off ONLINE,
where it is lost without room, in the unwritten losses. Of the records of one event the last of each channel takes the channel's
conditions along and empties the set; the earlier ones, and those of lines and of the engine, carry an empty Conditions field. -/
def Obligations.RecordsArePlacedByTheRoom : Prop :=
  ∀ (s : State) (rec : Record) (r : ReportUnit), s.port.idleEmpty → r = s.report →
    (∀ dropped : Nat, r.queue = [] → r.untaken r.copy < s.ring.2 → dropped = min 65535 r.losses →
      s.handOver rec = { s with
        report := { r with
          writePos := if r.writePos + 1 < s.ring.2 then r.writePos + 1 else 0
          written := (r.written + 1) % 4294967296
          seq := (r.seq + 1) % 4294967296
          newestDropped := dropped
          losses := 0 }
        port := s.port.after [s.recordWrite ⟨rec, 0⟩ false r.writePos dropped,
          writeOf (.reportsWritten (some rec.kind)) (s.pageAddr 0x108) (toBytes 4 ((r.written + 1) % 4294967296) ++ zeros 4)] })
    ∧ (r.queue = [] → s.ring.2 ≤ r.untaken r.copy → s.engine.state = .online →
      s.handOver rec = { s with
        report := { r with queue := [⟨rec, 0⟩], taken := if r.taken = .none then .outstanding else r.taken }
        port := s.port.after (if r.taken = .none then [readOf .reportsTakenRead (s.pageAddr 0x110) 8] else []) })
    ∧ (r.queue = [] → s.ring.2 ≤ r.untaken r.copy → s.engine.state ≠ .online →
      s.handOver rec = { s with
        report := { r with losses := min 65535 (r.losses + 1), overrun := true }
        port := s.port.after s.overrunWrite })
    ∧ (r.queue ≠ [] → r.queue.length < 16 →
      s.handOver rec = { s with report := { r with queue := r.queue ++ [⟨rec, 0⟩] } })
    ∧ (∀ (older : List QueuedRecord) (newest : QueuedRecord), r.queue = older ++ [newest] → older.length = 15 →
      s.handOver rec = { s with
        report := { r with queue := older ++ [⟨rec, min 65535 (newest.losses + 1)⟩], overrun := true }
        port := s.port.after s.overrunWrite })
    ∧ (∀ (q : QueuedRecord) (dropped slot : Nat), s.ring.2 ≤ r.untaken r.copy → s.engine.state = .online →
      dropped = min 65535 (r.newestDropped + 1 + r.losses + q.losses) →
      slot = (if r.writePos = 0 then s.ring.2 - 1 else r.writePos - 1) →
      s.placeQueued q = { s with
        report := { r with newestDropped := dropped, losses := 0, seq := (r.seq + 1) % 4294967296, overrun := true }
        port := s.port.after (s.recordWrite q true slot dropped :: s.overrunWrite) })
    ∧ (∀ (q : QueuedRecord) (dropped : Nat), r.untaken r.copy < s.ring.2 → dropped = min 65535 (r.losses + q.losses) →
      s.placeQueued q = { s with
        report := { r with
          writePos := if r.writePos + 1 < s.ring.2 then r.writePos + 1 else 0
          written := (r.written + 1) % 4294967296
          seq := (r.seq + 1) % 4294967296
          newestDropped := dropped
          losses := 0 }
        port := s.port.after [s.recordWrite q false r.writePos dropped,
          writeOf (.reportsWritten (some q.record.kind)) (s.pageAddr 0x108)
            (toBytes 4 ((r.written + 1) % 4294967296) ++ zeros 4)] })
    ∧ (∀ q : QueuedRecord, s.ring.2 ≤ r.untaken r.copy → s.engine.state ≠ .online →
      s.placeQueued q = { s with
        report := { r with losses := min 65535 (r.losses + 1 + q.losses), overrun := true }
        port := s.port.after s.overrunWrite })
    ∧ (∀ (c : Chan) (earlier : List Record), (∀ e ∈ earlier, e.source = .channel c) → rec.source = .channel c →
      State.handOverAll (earlier ++ [rec]) s =
        State.modChan
          (((earlier.map fun e => { e with conditions := 0 }).foldl State.handOver s).handOver
            { rec with conditions := s.chans[c].perRecord })
          c fun ch => { ch with perRecord := 0 })
    ∧ (∀ later : List Record,
      ((∃ k : LineIx, rec.source = .line k) ∨ rec.source = .engine
        ∨ ∃ c : Chan, rec.source = .channel c ∧ ∃ e ∈ later, e.source = .channel c) →
      State.handOverAll (rec :: later) s = State.handOverAll later (s.handOver { rec with conditions := 0 }))
    ∧ (∀ (c : Chan) (later : List Record), rec.source = .channel c → (∀ e ∈ later, e.source ≠ .channel c) →
      State.handOverAll (rec :: later) s =
        State.handOverAll later
          ((s.handOver { rec with conditions := s.chans[c].perRecord }).modChan c fun ch => { ch with perRecord := 0 }))

/-! ## Invariants that every step keeps -/

/-- R164, R166 and R169: the Report Unit's counts stay in their ranges, and its queue holds at most 16 records. -/
def Obligations.ReportCountsStayInRange : Prop :=
  ∀ s t : State, s.reportInRange → step s = .next t → t.reportInRange

/-- R154 and R156: the port stays BUSY exactly with a transfer in flight, and an IDLE port holds no waiting request. And R24, R31,
R51 and R52 with R22, R39 and R40: every channel's window stays at 4 entries or fewer, its loop counter map at 8 or fewer under
distinct keys, its fill with the reserve within the stream capacity, and its requests in order, from every state in which a
channel off ONLINE is IDLE. The retired steps that the data cursor has still to reach, which stay streamed and of which none is left
at a cursor of none, are the model's (log 40). -/
def Obligations.PortStaysWellFormed : Prop :=
  (∀ s t : State, s.port.wf → step s = .next t → t.port.wf)
  ∧ (∀ s t : State, s.quietOffline → s.fetchesOrdered → step s = .next t → t.fetchesOrdered)

/-- R54 and R98: a channel's deficit stays zero whenever its stream queue holds an entry, and every lane and every idle level
stays a code. -/
def Obligations.DeficitsStayPaidAndLanesStayCodes : Prop :=
  ∀ s t : State, s.deficitPaid → s.lanesInRange → step s = .next t → t.deficitPaid ∧ t.lanesInRange

/-- R104, R132, R180 and R182: off ONLINE every channel stays IDLE and no order is read or executed, a halt detail stays a field
of the Configuration Record, and the source of a mirror stays no mirror. -/
def Obligations.OfflineStaysQuietAndMirrorsStand : Prop :=
  ∀ s t : State, s.quietOffline → s.haltFieldFits → s.mirrorsStand → step s = .next t →
    t.quietOffline ∧ t.haltFieldFits ∧ t.mirrorsStand

/-- R114, R120, R121, R122 and R124: the generators' and the trigger lines' values stay in their ranges. -/
def Obligations.GeneratorsAndLinesStayInRange : Prop :=
  ∀ s t : State, s.gensInRange → s.linesInRange → step s = .next t → t.gensInRange ∧ t.linesInRange

/-- The invariants hold after power-on. -/
def Obligations.InvariantsHoldAfterPowerOn : Prop :=
  State.reset.reportInRange ∧ State.reset.port.wf ∧ State.reset.deficitPaid ∧ State.reset.lanesInRange
    ∧ State.reset.quietOffline ∧ State.reset.haltFieldFits ∧ State.reset.mirrorsStand ∧ State.reset.gensInRange
    ∧ State.reset.linesInRange ∧ State.reset.fetchesOrdered
end

