-- ==== Sys2Proof/Laws/State.lean ====
section
/-! SUPPORT. One lemma per field per update of the state, so that no proof unfolds a record update; and how the channels
read after a change of one of them. -/

namespace Sys2Proof.Machine

open Sys2Proof

/-! ### `State.modChan` -/

@[simp] theorem State.modChan_engine (s : State) (c : Chan) (f : Channel → Channel) :
    (s.modChan c f).engine = s.engine := rfl
@[simp] theorem State.modChan_orders (s : State) (c : Chan) (f : Channel → Channel) :
    (s.modChan c f).orders = s.orders := rfl
@[simp] theorem State.modChan_port (s : State) (c : Chan) (f : Channel → Channel) :
    (s.modChan c f).port = s.port := rfl
@[simp] theorem State.modChan_gens (s : State) (c : Chan) (f : Channel → Channel) :
    (s.modChan c f).gens = s.gens := rfl
@[simp] theorem State.modChan_trig (s : State) (c : Chan) (f : Channel → Channel) :
    (s.modChan c f).trig = s.trig := rfl
@[simp] theorem State.modChan_report (s : State) (c : Chan) (f : Channel → Channel) :
    (s.modChan c f).report = s.report := rfl
@[simp] theorem State.modChan_pins (s : State) (c : Chan) (f : Channel → Channel) :
    (s.modChan c f).pins = s.pins := rfl
@[simp] theorem State.modChan_refPhase (s : State) (c : Chan) (f : Channel → Channel) :
    (s.modChan c f).refPhase = s.refPhase := rfl
@[simp] theorem State.modChan_freeCount (s : State) (c : Chan) (f : Channel → Channel) :
    (s.modChan c f).freeCount = s.freeCount := rfl
@[simp] theorem State.modChan_pending (s : State) (c : Chan) (f : Channel → Channel) :
    (s.modChan c f).pending = s.pending := rfl

/-! ### `State.modFetch` -/

@[simp] theorem State.modFetch_engine (s : State) (c : Chan) (f : Fetch → Fetch) :
    (s.modFetch c f).engine = s.engine := rfl
@[simp] theorem State.modFetch_orders (s : State) (c : Chan) (f : Fetch → Fetch) :
    (s.modFetch c f).orders = s.orders := rfl
@[simp] theorem State.modFetch_port (s : State) (c : Chan) (f : Fetch → Fetch) :
    (s.modFetch c f).port = s.port := rfl
@[simp] theorem State.modFetch_gens (s : State) (c : Chan) (f : Fetch → Fetch) :
    (s.modFetch c f).gens = s.gens := rfl
@[simp] theorem State.modFetch_trig (s : State) (c : Chan) (f : Fetch → Fetch) :
    (s.modFetch c f).trig = s.trig := rfl
@[simp] theorem State.modFetch_report (s : State) (c : Chan) (f : Fetch → Fetch) :
    (s.modFetch c f).report = s.report := rfl
@[simp] theorem State.modFetch_pins (s : State) (c : Chan) (f : Fetch → Fetch) :
    (s.modFetch c f).pins = s.pins := rfl
@[simp] theorem State.modFetch_refPhase (s : State) (c : Chan) (f : Fetch → Fetch) :
    (s.modFetch c f).refPhase = s.refPhase := rfl
@[simp] theorem State.modFetch_freeCount (s : State) (c : Chan) (f : Fetch → Fetch) :
    (s.modFetch c f).freeCount = s.freeCount := rfl
@[simp] theorem State.modFetch_pending (s : State) (c : Chan) (f : Fetch → Fetch) :
    (s.modFetch c f).pending = s.pending := rfl

/-! ### `State.modPool` -/

@[simp] theorem State.modPool_engine (s : State) (c : Chan) (f : Pool → Pool) :
    (s.modPool c f).engine = s.engine := rfl
@[simp] theorem State.modPool_orders (s : State) (c : Chan) (f : Pool → Pool) :
    (s.modPool c f).orders = s.orders := rfl
@[simp] theorem State.modPool_port (s : State) (c : Chan) (f : Pool → Pool) :
    (s.modPool c f).port = s.port := rfl
@[simp] theorem State.modPool_gens (s : State) (c : Chan) (f : Pool → Pool) :
    (s.modPool c f).gens = s.gens := rfl
@[simp] theorem State.modPool_trig (s : State) (c : Chan) (f : Pool → Pool) :
    (s.modPool c f).trig = s.trig := rfl
@[simp] theorem State.modPool_report (s : State) (c : Chan) (f : Pool → Pool) :
    (s.modPool c f).report = s.report := rfl
@[simp] theorem State.modPool_pins (s : State) (c : Chan) (f : Pool → Pool) :
    (s.modPool c f).pins = s.pins := rfl
@[simp] theorem State.modPool_refPhase (s : State) (c : Chan) (f : Pool → Pool) :
    (s.modPool c f).refPhase = s.refPhase := rfl
@[simp] theorem State.modPool_freeCount (s : State) (c : Chan) (f : Pool → Pool) :
    (s.modPool c f).freeCount = s.freeCount := rfl
@[simp] theorem State.modPool_pending (s : State) (c : Chan) (f : Pool → Pool) :
    (s.modPool c f).pending = s.pending := rfl

/-! ### `State.modPlay` -/

@[simp] theorem State.modPlay_engine (s : State) (c : Chan) (f : Play → Play) :
    (s.modPlay c f).engine = s.engine := rfl
@[simp] theorem State.modPlay_orders (s : State) (c : Chan) (f : Play → Play) :
    (s.modPlay c f).orders = s.orders := rfl
@[simp] theorem State.modPlay_port (s : State) (c : Chan) (f : Play → Play) :
    (s.modPlay c f).port = s.port := rfl
@[simp] theorem State.modPlay_gens (s : State) (c : Chan) (f : Play → Play) :
    (s.modPlay c f).gens = s.gens := rfl
@[simp] theorem State.modPlay_trig (s : State) (c : Chan) (f : Play → Play) :
    (s.modPlay c f).trig = s.trig := rfl
@[simp] theorem State.modPlay_report (s : State) (c : Chan) (f : Play → Play) :
    (s.modPlay c f).report = s.report := rfl
@[simp] theorem State.modPlay_pins (s : State) (c : Chan) (f : Play → Play) :
    (s.modPlay c f).pins = s.pins := rfl
@[simp] theorem State.modPlay_refPhase (s : State) (c : Chan) (f : Play → Play) :
    (s.modPlay c f).refPhase = s.refPhase := rfl
@[simp] theorem State.modPlay_freeCount (s : State) (c : Chan) (f : Play → Play) :
    (s.modPlay c f).freeCount = s.freeCount := rfl
@[simp] theorem State.modPlay_pending (s : State) (c : Chan) (f : Play → Play) :
    (s.modPlay c f).pending = s.pending := rfl

/-! ### `State.modLevel` -/

@[simp] theorem State.modLevel_engine (s : State) (c : Chan) (f : Levels → Levels) :
    (s.modLevel c f).engine = s.engine := rfl
@[simp] theorem State.modLevel_orders (s : State) (c : Chan) (f : Levels → Levels) :
    (s.modLevel c f).orders = s.orders := rfl
@[simp] theorem State.modLevel_port (s : State) (c : Chan) (f : Levels → Levels) :
    (s.modLevel c f).port = s.port := rfl
@[simp] theorem State.modLevel_gens (s : State) (c : Chan) (f : Levels → Levels) :
    (s.modLevel c f).gens = s.gens := rfl
@[simp] theorem State.modLevel_trig (s : State) (c : Chan) (f : Levels → Levels) :
    (s.modLevel c f).trig = s.trig := rfl
@[simp] theorem State.modLevel_report (s : State) (c : Chan) (f : Levels → Levels) :
    (s.modLevel c f).report = s.report := rfl
@[simp] theorem State.modLevel_pins (s : State) (c : Chan) (f : Levels → Levels) :
    (s.modLevel c f).pins = s.pins := rfl
@[simp] theorem State.modLevel_refPhase (s : State) (c : Chan) (f : Levels → Levels) :
    (s.modLevel c f).refPhase = s.refPhase := rfl
@[simp] theorem State.modLevel_freeCount (s : State) (c : Chan) (f : Levels → Levels) :
    (s.modLevel c f).freeCount = s.freeCount := rfl
@[simp] theorem State.modLevel_pending (s : State) (c : Chan) (f : Levels → Levels) :
    (s.modLevel c f).pending = s.pending := rfl

/-! ### `State.modGen` -/

@[simp] theorem State.modGen_engine (s : State) (g : GenIx) (f : Gen → Gen) :
    (s.modGen g f).engine = s.engine := rfl
@[simp] theorem State.modGen_orders (s : State) (g : GenIx) (f : Gen → Gen) :
    (s.modGen g f).orders = s.orders := rfl
@[simp] theorem State.modGen_chans (s : State) (g : GenIx) (f : Gen → Gen) :
    (s.modGen g f).chans = s.chans := rfl
@[simp] theorem State.modGen_port (s : State) (g : GenIx) (f : Gen → Gen) :
    (s.modGen g f).port = s.port := rfl
@[simp] theorem State.modGen_trig (s : State) (g : GenIx) (f : Gen → Gen) :
    (s.modGen g f).trig = s.trig := rfl
@[simp] theorem State.modGen_report (s : State) (g : GenIx) (f : Gen → Gen) :
    (s.modGen g f).report = s.report := rfl
@[simp] theorem State.modGen_pins (s : State) (g : GenIx) (f : Gen → Gen) :
    (s.modGen g f).pins = s.pins := rfl
@[simp] theorem State.modGen_refPhase (s : State) (g : GenIx) (f : Gen → Gen) :
    (s.modGen g f).refPhase = s.refPhase := rfl
@[simp] theorem State.modGen_freeCount (s : State) (g : GenIx) (f : Gen → Gen) :
    (s.modGen g f).freeCount = s.freeCount := rfl
@[simp] theorem State.modGen_pending (s : State) (g : GenIx) (f : Gen → Gen) :
    (s.modGen g f).pending = s.pending := rfl

/-! ### `State.modLine` -/

@[simp] theorem State.modLine_engine (s : State) (k : LineIx) (f : TrigLine → TrigLine) :
    (s.modLine k f).engine = s.engine := rfl
@[simp] theorem State.modLine_orders (s : State) (k : LineIx) (f : TrigLine → TrigLine) :
    (s.modLine k f).orders = s.orders := rfl
@[simp] theorem State.modLine_chans (s : State) (k : LineIx) (f : TrigLine → TrigLine) :
    (s.modLine k f).chans = s.chans := rfl
@[simp] theorem State.modLine_port (s : State) (k : LineIx) (f : TrigLine → TrigLine) :
    (s.modLine k f).port = s.port := rfl
@[simp] theorem State.modLine_gens (s : State) (k : LineIx) (f : TrigLine → TrigLine) :
    (s.modLine k f).gens = s.gens := rfl
@[simp] theorem State.modLine_report (s : State) (k : LineIx) (f : TrigLine → TrigLine) :
    (s.modLine k f).report = s.report := rfl
@[simp] theorem State.modLine_pins (s : State) (k : LineIx) (f : TrigLine → TrigLine) :
    (s.modLine k f).pins = s.pins := rfl
@[simp] theorem State.modLine_refPhase (s : State) (k : LineIx) (f : TrigLine → TrigLine) :
    (s.modLine k f).refPhase = s.refPhase := rfl
@[simp] theorem State.modLine_freeCount (s : State) (k : LineIx) (f : TrigLine → TrigLine) :
    (s.modLine k f).freeCount = s.freeCount := rfl
@[simp] theorem State.modLine_pending (s : State) (k : LineIx) (f : TrigLine → TrigLine) :
    (s.modLine k f).pending = s.pending := rfl

/-! ### `State.modReport` -/

@[simp] theorem State.modReport_engine (s : State) (f : ReportUnit → ReportUnit) :
    (s.modReport f).engine = s.engine := rfl
@[simp] theorem State.modReport_orders (s : State) (f : ReportUnit → ReportUnit) :
    (s.modReport f).orders = s.orders := rfl
@[simp] theorem State.modReport_chans (s : State) (f : ReportUnit → ReportUnit) :
    (s.modReport f).chans = s.chans := rfl
@[simp] theorem State.modReport_port (s : State) (f : ReportUnit → ReportUnit) :
    (s.modReport f).port = s.port := rfl
@[simp] theorem State.modReport_gens (s : State) (f : ReportUnit → ReportUnit) :
    (s.modReport f).gens = s.gens := rfl
@[simp] theorem State.modReport_trig (s : State) (f : ReportUnit → ReportUnit) :
    (s.modReport f).trig = s.trig := rfl
@[simp] theorem State.modReport_pins (s : State) (f : ReportUnit → ReportUnit) :
    (s.modReport f).pins = s.pins := rfl
@[simp] theorem State.modReport_refPhase (s : State) (f : ReportUnit → ReportUnit) :
    (s.modReport f).refPhase = s.refPhase := rfl
@[simp] theorem State.modReport_freeCount (s : State) (f : ReportUnit → ReportUnit) :
    (s.modReport f).freeCount = s.freeCount := rfl
@[simp] theorem State.modReport_pending (s : State) (f : ReportUnit → ReportUnit) :
    (s.modReport f).pending = s.pending := rfl

/-! ### `State.modOrders` -/

@[simp] theorem State.modOrders_engine (s : State) (f : OrderUnit → OrderUnit) :
    (s.modOrders f).engine = s.engine := rfl
@[simp] theorem State.modOrders_chans (s : State) (f : OrderUnit → OrderUnit) :
    (s.modOrders f).chans = s.chans := rfl
@[simp] theorem State.modOrders_port (s : State) (f : OrderUnit → OrderUnit) :
    (s.modOrders f).port = s.port := rfl
@[simp] theorem State.modOrders_gens (s : State) (f : OrderUnit → OrderUnit) :
    (s.modOrders f).gens = s.gens := rfl
@[simp] theorem State.modOrders_trig (s : State) (f : OrderUnit → OrderUnit) :
    (s.modOrders f).trig = s.trig := rfl
@[simp] theorem State.modOrders_report (s : State) (f : OrderUnit → OrderUnit) :
    (s.modOrders f).report = s.report := rfl
@[simp] theorem State.modOrders_pins (s : State) (f : OrderUnit → OrderUnit) :
    (s.modOrders f).pins = s.pins := rfl
@[simp] theorem State.modOrders_refPhase (s : State) (f : OrderUnit → OrderUnit) :
    (s.modOrders f).refPhase = s.refPhase := rfl
@[simp] theorem State.modOrders_freeCount (s : State) (f : OrderUnit → OrderUnit) :
    (s.modOrders f).freeCount = s.freeCount := rfl
@[simp] theorem State.modOrders_pending (s : State) (f : OrderUnit → OrderUnit) :
    (s.modOrders f).pending = s.pending := rfl

/-! ### `State.modEngine` -/

@[simp] theorem State.modEngine_orders (s : State) (f : EngineControl → EngineControl) :
    (s.modEngine f).orders = s.orders := rfl
@[simp] theorem State.modEngine_chans (s : State) (f : EngineControl → EngineControl) :
    (s.modEngine f).chans = s.chans := rfl
@[simp] theorem State.modEngine_port (s : State) (f : EngineControl → EngineControl) :
    (s.modEngine f).port = s.port := rfl
@[simp] theorem State.modEngine_gens (s : State) (f : EngineControl → EngineControl) :
    (s.modEngine f).gens = s.gens := rfl
@[simp] theorem State.modEngine_trig (s : State) (f : EngineControl → EngineControl) :
    (s.modEngine f).trig = s.trig := rfl
@[simp] theorem State.modEngine_report (s : State) (f : EngineControl → EngineControl) :
    (s.modEngine f).report = s.report := rfl
@[simp] theorem State.modEngine_pins (s : State) (f : EngineControl → EngineControl) :
    (s.modEngine f).pins = s.pins := rfl
@[simp] theorem State.modEngine_refPhase (s : State) (f : EngineControl → EngineControl) :
    (s.modEngine f).refPhase = s.refPhase := rfl
@[simp] theorem State.modEngine_freeCount (s : State) (f : EngineControl → EngineControl) :
    (s.modEngine f).freeCount = s.freeCount := rfl
@[simp] theorem State.modEngine_pending (s : State) (f : EngineControl → EngineControl) :
    (s.modEngine f).pending = s.pending := rfl

/-! ### `State.withdraw` -/

@[simp] theorem State.withdraw_engine (s : State) (p : Transfer → Bool) :
    (s.withdraw p).engine = s.engine := rfl
@[simp] theorem State.withdraw_orders (s : State) (p : Transfer → Bool) :
    (s.withdraw p).orders = s.orders := rfl
@[simp] theorem State.withdraw_chans (s : State) (p : Transfer → Bool) :
    (s.withdraw p).chans = s.chans := rfl
@[simp] theorem State.withdraw_gens (s : State) (p : Transfer → Bool) :
    (s.withdraw p).gens = s.gens := rfl
@[simp] theorem State.withdraw_trig (s : State) (p : Transfer → Bool) :
    (s.withdraw p).trig = s.trig := rfl
@[simp] theorem State.withdraw_report (s : State) (p : Transfer → Bool) :
    (s.withdraw p).report = s.report := rfl
@[simp] theorem State.withdraw_pins (s : State) (p : Transfer → Bool) :
    (s.withdraw p).pins = s.pins := rfl
@[simp] theorem State.withdraw_refPhase (s : State) (p : Transfer → Bool) :
    (s.withdraw p).refPhase = s.refPhase := rfl
@[simp] theorem State.withdraw_freeCount (s : State) (p : Transfer → Bool) :
    (s.withdraw p).freeCount = s.freeCount := rfl
@[simp] theorem State.withdraw_pending (s : State) (p : Transfer → Bool) :
    (s.withdraw p).pending = s.pending := rfl

/-! ### `State.portEnd` -/

@[simp] theorem State.portEnd_engine (s : State) :
    (s.portEnd).engine = s.engine := rfl
@[simp] theorem State.portEnd_orders (s : State) :
    (s.portEnd).orders = s.orders := rfl
@[simp] theorem State.portEnd_chans (s : State) :
    (s.portEnd).chans = s.chans := rfl
@[simp] theorem State.portEnd_gens (s : State) :
    (s.portEnd).gens = s.gens := rfl
@[simp] theorem State.portEnd_trig (s : State) :
    (s.portEnd).trig = s.trig := rfl
@[simp] theorem State.portEnd_report (s : State) :
    (s.portEnd).report = s.report := rfl
@[simp] theorem State.portEnd_pins (s : State) :
    (s.portEnd).pins = s.pins := rfl
@[simp] theorem State.portEnd_refPhase (s : State) :
    (s.portEnd).refPhase = s.refPhase := rfl
@[simp] theorem State.portEnd_freeCount (s : State) :
    (s.portEnd).freeCount = s.freeCount := rfl
@[simp] theorem State.portEnd_pending (s : State) :
    (s.portEnd).pending = s.pending := rfl

/-! ### `State.raiseCond` -/

@[simp] theorem State.raiseCond_engine (s : State) (c : Chan) (k : Condition) :
    (s.raiseCond c k).engine = s.engine := rfl
@[simp] theorem State.raiseCond_orders (s : State) (c : Chan) (k : Condition) :
    (s.raiseCond c k).orders = s.orders := rfl
@[simp] theorem State.raiseCond_port (s : State) (c : Chan) (k : Condition) :
    (s.raiseCond c k).port = s.port := rfl
@[simp] theorem State.raiseCond_gens (s : State) (c : Chan) (k : Condition) :
    (s.raiseCond c k).gens = s.gens := rfl
@[simp] theorem State.raiseCond_trig (s : State) (c : Chan) (k : Condition) :
    (s.raiseCond c k).trig = s.trig := rfl
@[simp] theorem State.raiseCond_report (s : State) (c : Chan) (k : Condition) :
    (s.raiseCond c k).report = s.report := rfl
@[simp] theorem State.raiseCond_pins (s : State) (c : Chan) (k : Condition) :
    (s.raiseCond c k).pins = s.pins := rfl
@[simp] theorem State.raiseCond_refPhase (s : State) (c : Chan) (k : Condition) :
    (s.raiseCond c k).refPhase = s.refPhase := rfl
@[simp] theorem State.raiseCond_freeCount (s : State) (c : Chan) (k : Condition) :
    (s.raiseCond c k).freeCount = s.freeCount := rfl
@[simp] theorem State.raiseCond_pending (s : State) (c : Chan) (k : Condition) :
    (s.raiseCond c k).pending = s.pending := rfl

/-! ### The changed field -/

@[simp] theorem State.modReport_report (s : State) (f : ReportUnit → ReportUnit) : (s.modReport f).report = f s.report := rfl
@[simp] theorem State.modOrders_orders (s : State) (f : OrderUnit → OrderUnit) : (s.modOrders f).orders = f s.orders := rfl
@[simp] theorem State.modEngine_engine (s : State) (f : EngineControl → EngineControl) :
    (s.modEngine f).engine = f s.engine := rfl
@[simp] theorem State.modLine_refTime (s : State) (k : LineIx) (f : TrigLine → TrigLine) :
    (s.modLine k f).trig.refTime = s.trig.refTime := rfl
@[simp] theorem State.modLine_firstDue (s : State) (k : LineIx) (f : TrigLine → TrigLine) :
    (s.modLine k f).trig.firstDue = s.trig.firstDue := rfl

/-! ### Channels, generators and lines after a change of one

Stated at the number of the channel, generator or line (`c.val`), which is the form simp puts an index in. -/

/-- The changed channel. -/
@[simp] theorem State.modChan_same (s : State) (c : Chan) (f : Channel → Channel) :
    (s.modChan c f).chans[c.val] = f s.chans[c.val] := by
  simp [State.modChan]

/-- Any other channel stands. -/
theorem State.modChan_other (s : State) (c d : Chan) (f : Channel → Channel) (h : c ≠ d) :
    (s.modChan c f).chans[d.val] = s.chans[d.val] := by
  have h' : c.val ≠ d.val := fun e => h (Fin.ext e)
  simp [State.modChan, Vector.getElem_set_ne, h']

/-- Both cases at once. -/
theorem State.modChan_get (s : State) (c d : Chan) (f : Channel → Channel) :
    (s.modChan c f).chans[d.val] = if c = d then f s.chans[d.val] else s.chans[d.val] := by
  by_cases h : c = d
  · subst h; rw [if_pos rfl]; exact State.modChan_same s c f
  · rw [if_neg h]; exact State.modChan_other s c d f h

@[simp] theorem State.modFetch_same (s : State) (c : Chan) (f : Fetch → Fetch) :
    (s.modFetch c f).chans[c.val] = { s.chans[c.val] with fetch := f s.chans[c.val].fetch } :=
  State.modChan_same s c _

@[simp] theorem State.modPool_same (s : State) (c : Chan) (f : Pool → Pool) :
    (s.modPool c f).chans[c.val] = { s.chans[c.val] with pool := f s.chans[c.val].pool } :=
  State.modChan_same s c _

@[simp] theorem State.modPlay_same (s : State) (c : Chan) (f : Play → Play) :
    (s.modPlay c f).chans[c.val] = { s.chans[c.val] with play := f s.chans[c.val].play } :=
  State.modChan_same s c _

@[simp] theorem State.modLevel_same (s : State) (c : Chan) (f : Levels → Levels) :
    (s.modLevel c f).chans[c.val] = { s.chans[c.val] with level := f s.chans[c.val].level } :=
  State.modChan_same s c _

/-- The changed generator. -/
@[simp] theorem State.modGen_same (s : State) (g : GenIx) (f : Gen → Gen) :
    (s.modGen g f).gens[g.val] = f s.gens[g.val] := by
  simp [State.modGen]

/-- Any other generator stands. -/
theorem State.modGen_other (s : State) (g h : GenIx) (f : Gen → Gen) (hne : g ≠ h) :
    (s.modGen g f).gens[h.val] = s.gens[h.val] := by
  have h' : g.val ≠ h.val := fun e => hne (Fin.ext e)
  simp [State.modGen, Vector.getElem_set_ne, h']

/-- The changed line. -/
@[simp] theorem State.modLine_same (s : State) (k : LineIx) (f : TrigLine → TrigLine) :
    (s.modLine k f).trig.lines[k.val] = f s.trig.lines[k.val] := by
  simp [State.modLine]

/-- Any other line stands. -/
theorem State.modLine_other (s : State) (k j : LineIx) (f : TrigLine → TrigLine) (h : k ≠ j) :
    (s.modLine k f).trig.lines[j.val] = s.trig.lines[j.val] := by
  have h' : k.val ≠ j.val := fun e => h (Fin.ext e)
  simp [State.modLine, Vector.getElem_set_ne, h']

/-! ### `Fetch.moveData` and `Fetch.withoutHead` -/

@[simp] theorem Fetch.moveData_data (f : Fetch) (d : Option DataCursor) : (f.moveData d).data = d := rfl
@[simp] theorem Fetch.moveData_reader (f : Fetch) (d : Option DataCursor) : (f.moveData d).reader = f.reader := rfl
@[simp] theorem Fetch.moveData_cursor (f : Fetch) (d : Option DataCursor) : (f.moveData d).cursor = f.cursor := rfl
@[simp] theorem Fetch.moveData_window (f : Fetch) (d : Option DataCursor) : (f.moveData d).window = f.window := rfl
@[simp] theorem Fetch.moveData_held (f : Fetch) (d : Option DataCursor) : (f.moveData d).held = f.held := rfl
@[simp] theorem Fetch.moveData_map (f : Fetch) (d : Option DataCursor) : (f.moveData d).map = f.map := rfl
@[simp] theorem Fetch.moveData_epoch (f : Fetch) (d : Option DataCursor) : (f.moveData d).epoch = f.epoch := rfl
@[simp] theorem Fetch.moveData_frontier (f : Fetch) (d : Option DataCursor) : (f.moveData d).frontier = f.frontier := rfl
@[simp] theorem Fetch.moveData_nudge (f : Fetch) (d : Option DataCursor) : (f.moveData d).nudge = f.nudge := rfl
@[simp] theorem Fetch.moveData_poll (f : Fetch) (d : Option DataCursor) : (f.moveData d).poll = f.poll := rfl
@[simp] theorem Fetch.moveData_accepted (f : Fetch) (d : Option DataCursor) : (f.moveData d).accepted = f.accepted := rfl
@[simp] theorem Fetch.moveData_nextOcc (f : Fetch) (d : Option DataCursor) : (f.moveData d).nextOcc = f.nextOcc := rfl

/-- A cursor at none has no retired step left to reach. -/
theorem Fetch.moveData_none (f : Fetch) : f.moveData none = { f with data := none, owed := [] } := by
  simp [Fetch.moveData]

/-- A cursor at an invalid marker has passed every retired step. -/
theorem Fetch.moveData_invalid (f : Fetch) (occ : Nat) :
    f.moveData (some (.invalid occ)) = { f with data := some (.invalid occ), owed := [] } := by
  simp [Fetch.moveData, DataCursor.before]

/-- A cursor on a step keeps the retired steps behind it in the order (log 40). -/
theorem Fetch.moveData_step (f : Fetch) (d : StepContext) (pass offset : Nat) :
    f.moveData (some (.step d pass offset)) =
      { f with data := some (.step d pass offset), owed := f.owed.filter fun o => decide (d.occ < o.occ) } := rfl

@[simp] theorem Fetch.withoutHead_window (f : Fetch) (ctx : StepContext) : (f.withoutHead ctx).window = f.window.tail := rfl
@[simp] theorem Fetch.withoutHead_data (f : Fetch) (ctx : StepContext) : (f.withoutHead ctx).data = f.data := rfl
@[simp] theorem Fetch.withoutHead_reader (f : Fetch) (ctx : StepContext) : (f.withoutHead ctx).reader = f.reader := rfl
@[simp] theorem Fetch.withoutHead_cursor (f : Fetch) (ctx : StepContext) : (f.withoutHead ctx).cursor = f.cursor := rfl
@[simp] theorem Fetch.withoutHead_held (f : Fetch) (ctx : StepContext) : (f.withoutHead ctx).held = f.held := rfl
@[simp] theorem Fetch.withoutHead_map (f : Fetch) (ctx : StepContext) : (f.withoutHead ctx).map = f.map := rfl
@[simp] theorem Fetch.withoutHead_epoch (f : Fetch) (ctx : StepContext) : (f.withoutHead ctx).epoch = f.epoch := rfl
@[simp] theorem Fetch.withoutHead_frontier (f : Fetch) (ctx : StepContext) : (f.withoutHead ctx).frontier = f.frontier := rfl
@[simp] theorem Fetch.withoutHead_nudge (f : Fetch) (ctx : StepContext) : (f.withoutHead ctx).nudge = f.nudge := rfl
@[simp] theorem Fetch.withoutHead_poll (f : Fetch) (ctx : StepContext) : (f.withoutHead ctx).poll = f.poll := rfl
@[simp] theorem Fetch.withoutHead_accepted (f : Fetch) (ctx : StepContext) : (f.withoutHead ctx).accepted = f.accepted := rfl
@[simp] theorem Fetch.withoutHead_nextOcc (f : Fetch) (ctx : StepContext) : (f.withoutHead ctx).nextOcc = f.nextOcc := rfl

end Sys2Proof.Machine
end

