-- ==== Sys2Proof/Laws/Port.lean ====
section
/-! SUPPORT. What raising, withdrawing, granting and completing do to the state: the port alone changes, nothing raised is
lost, and an IDLE port holds no waiting request. -/

namespace Sys2Proof.Machine

open Sys2Proof

/-! ## Only the port changes -/

/-- A state whose port alone differs. -/
theorem State.withPort_self (s : State) : { s with port := s.port } = s := rfl

/-- A grant takes the request off the waiting list and moves at most one pointer (R154, R158). -/
theorem State.grant_port (s : State) (r : Request) :
    ∃ p, s.grant r = { s with port := p } ∧ p.busy = true ∧ p.inFlight = some r ∧ p.discard = false
      ∧ p.waiting = s.port.waiting.erase r := by
  unfold State.grant
  split <;> exact ⟨_, rfl, rfl, rfl, rfl, rfl⟩

/-- The arbiter changes the port alone (R156). -/
theorem State.arbitrate_port (s : State) : ∃ p, s.arbitrate = { s with port := p } := by
  unfold State.arbitrate
  split
  · exact ⟨s.port, rfl⟩
  · split
    · obtain ⟨p, h, -⟩ := s.grant_port ‹_›; exact ⟨p, h⟩
    · exact ⟨s.port, rfl⟩

/-- Raising a request changes the port alone (R156). -/
theorem State.raise_port (s : State) (r : Request) : ∃ p, s.raise r = { s with port := p } :=
  State.arbitrate_port { s with port := { s.port with waiting := s.port.waiting ++ [r] } }

/-- A completion's end changes the port alone (R156). -/
theorem State.portDone_port (s : State) : ∃ p, s.portDone = { s with port := p } :=
  State.arbitrate_port { s with port := { s.port with busy := false } }

/-! ## Raising at a BUSY and at an IDLE port -/

/-- A request raised while the port is BUSY waits (R156). -/
theorem State.raise_busy (s : State) (r : Request) (h : s.port.busy = true) :
    s.raise r = { s with port := { s.port with waiting := s.port.waiting ++ [r] } } := by
  simp [State.raise, State.arbitrate, h]

/-- The first channel of a list for which a search answers. -/
theorem findSome_only {α : Type} (l : List Chan) (c : Chan) (r : α) (h : c ∈ l) :
    (l.findSome? fun d => if c = d then some r else none) = some r := by
  induction l with
  | nil => cases h
  | cons d l ih =>
    by_cases e : c = d
    · simp [List.findSome?, e]
    · simp only [List.findSome?, if_neg e]
      exact ih ((List.mem_cons.mp h).resolve_left e)

/-- Counting upward from any channel reaches every channel (R158). -/
theorem mem_upward (p c : Chan) : c ∈ allChans.map (p + ·) := by
  revert p c; decide

/-- Every transfer is in class 1 or 5, or in a round-robin class with a channel (R155, R157). -/
theorem State.classOf_cases (s : State) (k : Transfer) :
    (s.classOf k = 1 ∨ s.classOf k = 5)
      ∨ ((s.classOf k = 2 ∨ s.classOf k = 3 ∨ s.classOf k = 4) ∧ ∃ c, k.chan? = some c) := by
  cases k with
  | stepSlotRead c e reread => cases reread <;> simp [State.classOf, Transfer.chan?]
  | streamRequest c e n f =>
    simp only [State.classOf, Transfer.chan?]
    split <;> simp
  | bankLoad c e o off n f =>
    simp only [State.classOf, Transfer.chan?]
    split <;> simp
  | _ => simp [State.classOf, Transfer.chan?]

/-- A request alone at the port is the arbiter's choice (R157). -/
theorem State.choose_single (s : State) (r : Request) (h : s.port.waiting = [r]) : s.choose = some r := by
  have hrr : ∀ k p, s.classOf r.kind = k → (∃ c, r.kind.chan? = some c) → s.roundRobin k p = some r := by
    rintro k p hk ⟨c, hc⟩
    have := findSome_only (allChans.map (p + ·)) c r (mem_upward p c)
    simpa [State.roundRobin, h, List.find?, hk, hc] using this
  have hno : ∀ k p, s.classOf r.kind ≠ k → s.roundRobin k p = none := by
    intro k p hk
    simp [State.roundRobin, h, List.find?, hk]
  have he : ∀ k, s.earliest k = if s.classOf r.kind = k then some r else none := by
    intro k
    by_cases hk : s.classOf r.kind = k <;> simp [State.earliest, h, List.find?, hk]
  unfold State.choose
  rcases s.classOf_cases r.kind with (hc | hc) | ⟨hc | hc | hc, hch⟩
  · simp [he, hc]
  · simp [he, hc, hno]
  · simp [he, hc, hrr 2 _ hc hch]
  · simp [he, hc, hno, hrr 3 _ hc hch]
  · simp [he, hc, hno, hrr 4 _ hc hch]

/-- A request raised while the port is IDLE is granted at that moment (R156). -/
theorem State.raise_idle (s : State) (r : Request) (h : s.port.busy = false) (he : s.port.idleEmpty) :
    s.raise r = State.grant { s with port := { s.port with waiting := [r] } } r := by
  have hw : s.port.waiting ++ [r] = [r] := by rw [he h]; rfl
  unfold State.raise
  rw [hw, State.arbitrate, State.choose_single _ r rfl]
  simp [h]

/-- The request is not a sample request, whose class the pool decides (R55). -/
def Transfer.fixedClass : Transfer → Bool
  | .streamRequest _ _ _ _ => false
  | .bankLoad _ _ _ _ _ _ => false
  | _ => true

/-- Raising a request of class 1, 3 or 5, at an IDLE or a BUSY port (R156). -/
theorem State.raise_after (s : State) (r : Request) (he : s.port.idleEmpty) (hk : r.kind.fixedClass = true) :
    s.raise r = { s with port := s.port.after [r] } := by
  cases hb : s.port.busy
  · rw [s.raise_idle r hb he]
    have hw := he hb
    obtain ⟨k, a, n, d⟩ := r
    cases k with
    | stepSlotRead c e reread => cases reread <;> simp [State.grant, State.classOf, Transfer.chan?, Port.after, Port.granted, hb, hw]
    | streamRequest => cases hk
    | bankLoad => cases hk
    | _ => simp [State.grant, State.classOf, Transfer.chan?, Port.after, Port.granted, hb, hw]
  · rw [s.raise_busy r hb]
    simp [Port.after, hb]

/-- Ports after requests hold no waiting request while IDLE. -/
theorem Port.after_idleEmpty (p : Port) (l : List Request) (h : p.idleEmpty) : (p.after l).idleEmpty := by
  intro hb
  cases l with
  | nil => exact h hb
  | cons r rest =>
    exfalso
    simp only [Port.after] at hb
    split at hb
    · simp_all
    · simp only [Port.granted] at hb
      split at hb <;> simp_all

/-- Requests raised in two lots, in order. -/
theorem Port.after_append (p : Port) (l m : List Request) : (p.after l).after m = p.after (l ++ m) := by
  cases l with
  | nil => rfl
  | cons r rest =>
    cases m with
    | nil => simp [Port.after]
    | cons q m =>
      simp only [Port.after, List.cons_append]
      split
      · simp_all
      · have : (p.granted r).busy = true := by unfold Port.granted; split <;> rfl
        simp [this]

/-- Raising two requests is raising the first, then the second. -/
theorem State.raise_after_after (s : State) (l : List Request) (r : Request) (he : s.port.idleEmpty)
    (hk : r.kind.fixedClass = true) :
    State.raise { s with port := s.port.after l } r = { s with port := s.port.after (l ++ [r]) } := by
  rw [State.raise_after _ r (s.port.after_idleEmpty l he) hk]
  simp [Port.after_append]

/-! ## Nothing raised is lost -/

/-- What the arbiter chooses waits at the port. -/
theorem State.choose_mem (s : State) (r : Request) (h : s.choose = some r) : r ∈ s.port.waiting := by
  have hrr : ∀ k p, s.roundRobin k p = some r → r ∈ s.port.waiting := by
    intro k p h
    obtain ⟨c, -, hc⟩ := List.exists_of_findSome?_eq_some h
    exact List.mem_of_find?_eq_some hc
  have he : ∀ k, s.earliest k = some r → r ∈ s.port.waiting := fun k h => List.mem_of_find?_eq_some h
  unfold State.choose at h
  simp only [HOrElse.hOrElse, OrElse.orElse, Option.orElse] at h
  revert h
  cases h1 : s.earliest 1 with
  | some _ => intro h; exact he 1 (h1.trans h)
  | none =>
    cases h2 : s.roundRobin 2 s.port.rr2 with
    | some _ => intro h; exact hrr 2 _ (h2.trans h)
    | none =>
      cases h3 : s.roundRobin 3 s.port.rr3 with
      | some _ => intro h; exact hrr 3 _ (h3.trans h)
      | none =>
        cases h4 : s.roundRobin 4 s.port.rr4 with
        | some _ => intro h; exact hrr 4 _ (h4.trans h)
        | none => intro h; exact he 5 h

/-- A port with a waiting request has a choice (R157): every request is in one of the five classes. -/
theorem State.choose_none (s : State) (h : s.choose = none) : s.port.waiting = [] := by
  unfold State.choose at h
  simp only [HOrElse.hOrElse, OrElse.orElse] at h
  obtain ⟨h1, h2, h3, h4, h5⟩ : s.earliest 1 = none ∧ s.roundRobin 2 s.port.rr2 = none ∧ s.roundRobin 3 s.port.rr3 = none
      ∧ s.roundRobin 4 s.port.rr4 = none ∧ s.earliest 5 = none := by
    revert h
    cases s.earliest 1 <;> cases s.roundRobin 2 s.port.rr2 <;> cases s.roundRobin 3 s.port.rr3
      <;> cases s.roundRobin 4 s.port.rr4 <;> cases s.earliest 5 <;> simp [Option.orElse]
  have hrr : ∀ k p, s.roundRobin k p = none → ∀ r ∈ s.port.waiting, ∀ c, r.kind.chan? = some c → s.classOf r.kind ≠ k := by
    intro k p h r hr c hc hk
    rw [State.roundRobin, List.findSome?_eq_none_iff] at h
    have := h c (mem_upward p c)
    rw [List.find?_eq_none] at this
    exact this r hr (by simp [hk, hc])
  have he : ∀ k, s.earliest k = none → ∀ r ∈ s.port.waiting, s.classOf r.kind ≠ k := by
    intro k h r hr hk
    rw [State.earliest, List.find?_eq_none] at h
    exact h r hr (by simp [hk])
  rw [List.eq_nil_iff_forall_not_mem]
  intro r hr
  rcases s.classOf_cases r.kind with (hc | hc) | ⟨hc | hc | hc, c, hch⟩
  · exact he 1 h1 r hr hc
  · exact he 5 h5 r hr hc
  · exact hrr 2 _ h2 r hr c hch hc
  · exact hrr 3 _ h3 r hr c hch hc
  · exact hrr 4 _ h4 r hr c hch hc

/-- All that voiding a notice can do to the waiting requests (R178): the first Reports Written write that counts a record counts
none any more, or there is no such write and nothing changes. -/
theorem voidCounted_cases (l : List Request) :
    (∃ (before later : List Request) (w : Request) (k : RecordKind), l = before ++ w :: later
        ∧ w.kind = .reportsWritten (some k) ∧ (∀ (q : Request) (k' : RecordKind), q ∈ before → q.kind ≠ .reportsWritten (some k'))
        ∧ voidCounted l = before ++ { w with kind := .reportsWritten none } :: later)
      ∨ (∀ (q : Request) (k : RecordKind), q ∈ l → q.kind ≠ .reportsWritten (some k)) ∧ voidCounted l = l := by
  induction l with
  | nil => exact Or.inr ⟨fun _ _ h => (List.not_mem_nil h).elim, rfl⟩
  | cons r rest ih =>
    by_cases hr : ∃ k, r.kind = .reportsWritten (some k)
    · obtain ⟨k, hk⟩ := hr
      exact Or.inl ⟨[], rest, r, k, rfl, hk, fun _ _ h => (List.not_mem_nil h).elim, by simp [voidCounted, hk]⟩
    · have hstep : voidCounted (r :: rest) = r :: voidCounted rest := by
        rw [voidCounted]
        split
        · rename_i k hk; exact (hr ⟨k, hk⟩).elim
        · rfl
      have hne : ∀ k, r.kind ≠ .reportsWritten (some k) := fun k hk => hr ⟨k, hk⟩
      rcases ih with ⟨before, later, w, k, rfl, hw, hb, hv⟩ | ⟨hb, hv⟩
      · exact Or.inl ⟨r :: before, later, w, k, rfl, hw,
          fun q k' hq => (List.mem_cons.1 hq).elim (fun e => e ▸ hne k') (hb q k'), by rw [hstep, hv]; rfl⟩
      · exact Or.inr ⟨fun q k hq => (List.mem_cons.1 hq).elim (fun e => e ▸ hne k) (hb q k), by rw [hstep, hv]⟩

/-- Voiding a notice leaves everything but the waiting requests (R178). -/
theorem State.voidNotice_port (s : State) :
    s.voidNotice = { s with port := { s.port with waiting := voidCounted s.port.waiting } } := rfl

/-- The arbiter keeps an IDLE port without waiting requests, and a grant makes it BUSY (R156). -/
theorem State.arbitrate_wf (s : State) (h : s.port.busy = s.port.inFlight.isSome) : s.arbitrate.port.wf := by
  unfold State.arbitrate
  split
  · rename_i hb; exact ⟨h, fun hf => by simp_all⟩
  · split
    · rename_i r _
      obtain ⟨p, hp, hb, hf, -⟩ := s.grant_port r
      rw [hp]
      exact ⟨by simp [hb, hf], fun hf => by simp_all⟩
    · rename_i hn
      exact ⟨h, fun _ => s.choose_none hn⟩

/-- Raising keeps the port well-formed (R156). -/
theorem State.raise_wf (s : State) (r : Request) (h : s.port.wf) : (s.raise r).port.wf :=
  State.arbitrate_wf { s with port := { s.port with waiting := s.port.waiting ++ [r] } } h.1

/-- Raising adds the request to those that stand at the port, and loses none (R156, R160). -/
theorem State.raise_standing (s : State) (r : Request) (h : s.port.busy = true ∨ s.port.inFlight = none) :
    (s.raise r).port.standing.Perm (s.port.standing ++ [r]) := by
  unfold State.raise State.arbitrate
  simp only
  split
  · simp [Port.standing]
  · rename_i hb
    have hi : s.port.inFlight = none := h.resolve_left hb
    split
    · rename_i q hq
      obtain ⟨p, hp, -, hf, -, hw⟩ := State.grant_port { s with port := { s.port with waiting := s.port.waiting ++ [r] } } q
      rw [hp]
      have hm := State.choose_mem _ _ hq
      simp only [Port.standing, hf, hw, hi, Option.toList]
      simpa using (List.perm_cons_erase hm).symm
    · simp [Port.standing]

end Sys2Proof.Machine
end

