-- ==== Sys2Proof/Laws/Frames.lean ====
section
/-! SUPPORT. What the shared operations of the Report Unit, the event frame and the fetch unit leave unchanged: each is said
once, as the state with only the named parts replaced. -/

namespace Sys2Proof.Machine

open Sys2Proof

/-! ## Records: only the Report Unit and the port change -/

/-- The state differs in the Report Unit and the port alone. -/
def State.sameButReport (s t : State) : Prop := ∃ r p, t = { s with report := r, port := p }

theorem State.sameButReport_refl (s : State) : s.sameButReport s := ⟨s.report, s.port, rfl⟩

theorem State.sameButReport_trans {s t u : State} (h : s.sameButReport t) (g : t.sameButReport u) : s.sameButReport u := by
  obtain ⟨r, p, rfl⟩ := h
  obtain ⟨r', p', rfl⟩ := g
  exact ⟨r', p', rfl⟩

theorem State.raise_sameButReport (s : State) (q : Request) : s.sameButReport (s.raise q) := by
  obtain ⟨p, h⟩ := s.raise_port q
  exact ⟨s.report, p, h⟩

theorem State.modReport_sameButReport (s : State) (f : ReportUnit → ReportUnit) : s.sameButReport (s.modReport f) :=
  ⟨f s.report, s.port, rfl⟩

theorem State.raiseOverrun_sameButReport (s : State) : s.sameButReport s.raiseOverrun := by
  unfold State.raiseOverrun
  split
  · exact s.sameButReport_refl
  · exact State.sameButReport_trans (s.modReport_sameButReport _) (State.raise_sameButReport _ _)

theorem State.placeFresh_sameButReport (s : State) (q : QueuedRecord) : s.sameButReport (s.placeFresh q) := by
  unfold State.placeFresh
  exact State.sameButReport_trans (State.sameButReport_trans (s.raise_sameButReport _) (State.raise_sameButReport _ _))
    (State.modReport_sameButReport _ _)

theorem State.overwriteNewest_sameButReport (s : State) (q : QueuedRecord) : s.sameButReport (s.overwriteNewest q) :=
  State.sameButReport_trans (State.sameButReport_trans (s.raise_sameButReport _) (State.modReport_sameButReport _ _))
    (State.raiseOverrun_sameButReport _)

theorem State.loseRecord_sameButReport (s : State) (q : QueuedRecord) : s.sameButReport (s.loseRecord q) :=
  State.sameButReport_trans (s.modReport_sameButReport _) (State.raiseOverrun_sameButReport _)

/-- Placing a waiting record changes the Report Unit and the port alone (R167, R168, R171). -/
theorem State.placeQueued_sameButReport (s : State) (q : QueuedRecord) : s.sameButReport (s.placeQueued q) := by
  unfold State.placeQueued
  split
  · exact s.placeFresh_sameButReport q
  · split
    · exact s.overwriteNewest_sameButReport q
    · exact s.loseRecord_sameButReport q

theorem State.joinQueue_sameButReport (s : State) (r : Record) : s.sameButReport (s.joinQueue r) := by
  unfold State.joinQueue
  split
  · exact s.modReport_sameButReport _
  · exact State.sameButReport_trans (s.modReport_sameButReport _) (State.raiseOverrun_sameButReport _)

theorem State.raiseTakenRead_sameButReport (s : State) : s.sameButReport s.raiseTakenRead :=
  State.sameButReport_trans (s.modReport_sameButReport _) (State.raise_sameButReport _ _)

/-- Handing over a record changes the Report Unit and the port alone (R165 to R171). -/
theorem State.handOver_sameButReport (s : State) (r : Record) : s.sameButReport (s.handOver r) := by
  unfold State.handOver
  split
  · exact s.joinQueue_sameButReport r
  · split
    · exact s.placeFresh_sameButReport _
    · split
      · dsimp only
        split
        · exact State.sameButReport_trans (s.joinQueue_sameButReport r) (State.raiseTakenRead_sameButReport _)
        · exact s.joinQueue_sameButReport r
      · exact s.loseRecord_sameButReport _

/-! ## The end of an event: besides, only per-record conditions change -/

/-- The state differs in the Report Unit, the port and the per-record conditions alone. -/
def State.sameButRecords (s t : State) : Prop :=
  t.engine = s.engine ∧ t.orders = s.orders ∧ t.gens = s.gens ∧ t.trig = s.trig ∧ t.pins = s.pins
    ∧ t.refPhase = s.refPhase ∧ t.freeCount = s.freeCount ∧ t.pending = s.pending
    ∧ ∀ c : Chan, t.chans[c] = { s.chans[c] with perRecord := t.chans[c].perRecord }

theorem State.sameButRecords_refl (s : State) : s.sameButRecords s :=
  ⟨rfl, rfl, rfl, rfl, rfl, rfl, rfl, rfl, fun _ => rfl⟩

theorem State.sameButRecords_trans {s t u : State} (h : s.sameButRecords t) (g : t.sameButRecords u) :
    s.sameButRecords u := by
  obtain ⟨h1, h2, h3, h4, h5, h6, h7, h8, h9⟩ := h
  obtain ⟨g1, g2, g3, g4, g5, g6, g7, g8, g9⟩ := g
  refine ⟨g1.trans h1, g2.trans h2, g3.trans h3, g4.trans h4, g5.trans h5, g6.trans h6, g7.trans h7, g8.trans h8, ?_⟩
  intro c
  rw [g9 c, h9 c]

theorem State.sameButReport_records {s t : State} (h : s.sameButReport t) : s.sameButRecords t := by
  obtain ⟨r, p, rfl⟩ := h
  exact ⟨rfl, rfl, rfl, rfl, rfl, rfl, rfl, rfl, fun _ => rfl⟩

theorem State.emptyPerRecord_records (s : State) (c : Chan) :
    s.sameButRecords (s.modChan c fun ch => { ch with perRecord := 0 }) := by
  refine ⟨rfl, rfl, rfl, rfl, rfl, rfl, rfl, rfl, fun d => ?_⟩
  have e := State.modChan_get s c d (fun ch => { ch with perRecord := 0 })
  change (s.modChan c fun ch => { ch with perRecord := 0 }).chans[d.val]
    = { s.chans[d.val] with perRecord := (s.modChan c fun ch => { ch with perRecord := 0 }).chans[d.val].perRecord }
  rw [e]
  split
  · rename_i h; subst h; rfl
  · rfl

/-- Handing over the records of an event changes the Report Unit, the port and per-record conditions alone (R165). -/
theorem State.handOverAll_records (l : List Record) (s : State) : s.sameButRecords (State.handOverAll l s) := by
  induction l generalizing s with
  | nil => exact s.sameButRecords_refl
  | cons r rest ih =>
    unfold State.handOverAll
    split
    · rename_i c hc
      split
      · exact State.sameButRecords_trans (State.sameButReport_records (s.handOver_sameButReport _)) (ih _)
      · exact State.sameButRecords_trans
          (State.sameButRecords_trans (State.sameButReport_records (s.handOver_sameButReport _))
            (State.emptyPerRecord_records _ c)) (ih _)
    · exact State.sameButRecords_trans (State.sameButReport_records (s.handOver_sameButReport _)) (ih _)

theorem State.writeStatusBlock_records (s : State) (c : Chan) : s.sameButRecords (s.writeStatusBlock c) :=
  State.sameButReport_records (s.raise_sameButReport _)

theorem State.writeStatusBlocks_records (l : List Chan) (s : State) :
    s.sameButRecords (l.foldl State.writeStatusBlock s) := by
  induction l generalizing s with
  | nil => exact s.sameButRecords_refl
  | cons c rest ih => exact State.sameButRecords_trans (s.writeStatusBlock_records c) (ih _)

/-- The end of an event changes the Report Unit, the port and per-record conditions alone (R165, R176). -/
theorem Ev.finish_records (e : Ev) : e.st.sameButRecords e.finish :=
  State.sameButRecords_trans (State.handOverAll_records e.recs e.st) (State.writeStatusBlocks_records _ _)

/-- A channel that raised no record in an event keeps its per-record conditions at its end (R165). -/
theorem State.handOverAll_quiet (l : List Record) (s : State) (c : Chan) (h : ∀ r ∈ l, r.source ≠ .channel c) :
    (State.handOverAll l s).chans[c] = s.chans[c] := by
  induction l generalizing s with
  | nil => rfl
  | cons r rest ih =>
    have hr := h r (List.mem_cons_self ..)
    have hrest : ∀ q ∈ rest, q.source ≠ .channel c := fun q hq => h q (List.mem_cons_of_mem _ hq)
    have hand : ∀ q : Record, (s.handOver q).chans = s.chans := fun q => by
      obtain ⟨_, _, e⟩ := s.handOver_sameButReport q
      rw [e]
    unfold State.handOverAll
    obtain ⟨kind, source, slot, conditions, time, detailA, detailB⟩ := r
    cases source with
    | channel d =>
      have hdc : d ≠ c := fun e => hr (congrArg Source.channel e)
      dsimp only
      split
      · rw [ih _ hrest, hand]
      · rw [ih _ hrest]
        refine (State.modChan_other _ d c _ hdc).trans ?_
        change (State.handOver s _).chans[c] = _
        rw [hand]
    | line k => dsimp only; rw [ih _ hrest, hand]
    | engine => dsimp only; rw [ih _ hrest, hand]

/-! ## The fetch unit of one channel -/

/-- The data feeder moves its channel's cursor, with the retired steps it has still to reach, its reserve and the port alone (R52, R57). -/
theorem State.feed_frame (s : State) (c : Chan) :
    ∃ data owed reserve p, s.feed c = { s with
      chans := s.chans.set c { s.chans[c] with
        fetch := { s.chans[c].fetch with data := data, owed := owed }
        pool := { s.chans[c].pool with reserve := reserve } }
      port := p } := by
  have keep : ∃ data owed reserve p, s = { s with
      chans := s.chans.set c { s.chans[c] with
        fetch := { s.chans[c].fetch with data := data, owed := owed }
        pool := { s.chans[c].pool with reserve := reserve } }
      port := p } := by
    refine ⟨s.chans[c].fetch.data, s.chans[c].fetch.owed, s.chans[c].pool.reserve, s.port, ?_⟩
    have : s.chans.set c s.chans[c] = s.chans := by
      apply Vector.ext
      intro i hi
      rw [Vector.getElem_set]
      split
      · rename_i e; subst e; rfl
      · rfl
    change s = { s with chans := s.chans.set c s.chans[c] }
    rw [this]
  unfold State.feed
  dsimp only
  split
  · rename_i ctx pass offset heq
    split
    · exact keep
    · split
      · obtain ⟨p, h⟩ := State.raise_port (s.modFetch c fun f =>
          f.moveData (f.cursorStep ctx pass offset (min 64 (ctx.wEff - offset)))) ⟨_, _, _, _⟩
        exact ⟨_, _, s.chans[c].pool.reserve, p, h⟩
      · split
        · obtain ⟨p, h⟩ := State.raise_port ((s.modFetch c fun f =>
            f.moveData (f.cursorStep ctx pass offset (min 64 (ctx.wEff - offset)))).modPool c fun q =>
              { q with reserve := min 64 (ctx.wEff - offset) }) ⟨_, _, _, _⟩
          refine ⟨(s.chans[c].fetch).cursorStep ctx pass offset (min 64 (ctx.wEff - offset)),
            (s.chans[c].fetch.moveData (s.chans[c].fetch.cursorStep ctx pass offset (min 64 (ctx.wEff - offset)))).owed,
            min 64 (ctx.wEff - offset), p, h.trans ?_⟩
          simp [State.modPool, State.modFetch, State.modChan, Fetch.moveData]
        · exact keep
  · exact keep

/-- What the retirement of the oldest step does to the fetch context: the step leaves the window, and a streamed one that the data
cursor has not reached is kept (R30, R41, R54, R59; log 40). -/
theorem Fetch.withoutHead_eq (f : Fetch) (ctx : StepContext) :
    f.withoutHead ctx = { f with window := f.window.tail, owed := owedAfter f ctx } := by
  unfold Fetch.withoutHead owedAfter
  cases h : f.data with
  | none => simp
  | some d => cases d <;> simp [DataCursor.before]

/-- The read of a slot moves its channel's reader and the port alone (R26). -/
theorem State.readSlot_frame (s : State) (c : Chan) (reread : Bool) :
    ∃ p, s.readSlot c reread = { s.modFetch c (fun f => { f with reader := .slotRead }) with port := p } :=
  State.raise_port _ _

/-- Withdrawing requests changes the waiting list alone (R160). -/
theorem State.withdraw_port (s : State) (p : Transfer → Bool) :
    s.withdraw p = { s with port := { s.port with waiting := s.port.waiting.filter fun r => !p r.kind } } := rfl

end Sys2Proof.Machine
end

