-- ==== Sys2Proof/Tests/Slice0.lean ====
section
/-! SUPPORT. The model's own tests: the WellFormed smoke, one step of each kind of command on a small state, and for every
statement with hypotheses a concrete state and operands that meet them, clause by clause. -/

namespace Sys2Proof.Tests

open Sys2Proof Sys2Proof.Machine

/-! ## Small states -/

/-- Channel settings as the default division gives them, over a list of 16 slots. -/
def someSettings : ChannelSettings := ⟨0x32000000, 16, 8192, 2048, 1024, 512, 64⟩

/-- A configuration with a ring of 64 records and every notice on. -/
def someConfig : EngineConfig := ⟨0x30000000, 4, 0xFFF, 0x31000000, 64, vec8 fun _ => someSettings⟩

/-- The block ONLINE and at rest. -/
def online : State :=
  { State.reset with
    engine := { EngineControl.reset with state := .online, pageBase := some 0x20000000, config := some someConfig } }

/-- The block with a transfer in flight. -/
def carrying (s : State) (kind : Transfer) (size : Nat) : State :=
  { s with port := { s.port with busy := true, inFlight := some (readOf kind 0 size) } }

/-- A streamed step of 100 samples, held 2 expiries each and played 3 times. -/
def streamStep : StepContext where
  occ := 0
  slot := 5
  edition := 9
  kind := 0
  body := { stepBodyOf (zeros 64) with rep := 3, hold := 2 }
  seg := ⟨0x40000000, 100, some .s16, true⟩
  wEff := 100
  hold := 2
  resident := false
  bank := none
  successor := some 6
  decision := false

/-- A resident open repeat of 4 samples that its leader ends. -/
def openStep : StepContext :=
  { streamStep with
    body := { stepBodyOf (zeros 64) with rep := 0, advance := some .leader }
    wEff := 4
    hold := 1
    resident := true
    bank := some .a }

/-- A decision step that waits for line 2 at most 7 expiries. -/
def waitStep : StepContext :=
  { streamStep with
    body := { stepBodyOf (zeros 64) with rep := 1, entry := some (.trigger 2), waitTimeout := 7, branchTarget := 3 }
    decision := true }

/-- Channel 0 in a state with `entries` in its window, attached to generator 0, which runs; all others are on generator 1. -/
def withChannel (s : State) (state : ChannelState) (wait : WaitReason) (entries : List WindowEntry) : State :=
  let others := allChans.foldl (fun s c => s.modPlay c fun p => { p with generator := 1 }) s
  let s1 := others.modChan 0 fun ch =>
    { ch with
      play := { ch.play with state := state, wait := wait, generator := 0 }
      fetch := { ch.fetch with window := entries } }
  s1.modGen 0 fun g => { g with running := true, countdown := 1 }

/-- Channel 0 RUNNING on the streamed step with two samples in its queue. -/
def playing : State :=
  (withChannel online .running .none [.step streamStep]).modChan 0 fun ch =>
    { ch with pool := { ch.pool with queue := [100, 200], reserve := 64 } }

/-- The next state of a command, the state itself where there is none. -/
def after (i : Instr) (s : State) : State :=
  match exec i s with
  | .next t => t
  | _ => s

/-! ## WellFormed: an ill-formed term for each check -/

theorem test_wf_go_config_size :
    Instr.wf (.goConfigReadComplete (.data (zeros 255))) = false ∧ Instr.wf (.goConfigReadComplete (.data (zeros 256))) = true := by decide +kernel

theorem test_wf_order_slot_size :
    Instr.wf (.orderSlotReadComplete (.data (zeros 63))) = false ∧ Instr.wf (.orderSlotReadComplete .error) = true := by decide +kernel

theorem test_wf_unknown_kind :
    Instr.wf (.unknownOrderKind 0 9) = false ∧ Instr.wf (.unknownOrderKind 0 1) = false
      ∧ Instr.wf (.unknownOrderKind 0 0) = true ∧ Instr.wf (.unknownOrderKind 0 10) = true := by decide +kernel

theorem test_wf_configure_size : Instr.wf (.configureReadComplete (.data (zeros 257))) = false := by decide +kernel

theorem test_wf_step_slot_size : Instr.wf (.stepSlotReadComplete (.data (zeros 65))) = false := by decide +kernel

theorem test_wf_segment_entry_size : Instr.wf (.segmentEntryReadComplete (.data (zeros 15))) = false := by decide +kernel

theorem test_wf_stream_burst :
    Instr.wf (.streamRequestComplete (.data [])) = false ∧ Instr.wf (.streamRequestComplete (.data (zeros 129))) = false
      ∧ Instr.wf (.streamRequestComplete (.data (zeros 128))) = true := by decide +kernel

theorem test_wf_bank_burst : Instr.wf (.bankLoadComplete (.data (zeros 129))) = false := by decide +kernel

theorem test_wf_taken_size : Instr.wf (.reportsTakenReadComplete (.data (zeros 4))) = false := by decide +kernel

theorem test_wf_ignored_write :
    Instr.wf (.registerWriteIgnored 4 1) = false ∧ Instr.wf (.registerWriteIgnored 8 3) = false
      ∧ Instr.wf (.registerWriteIgnored 12 0) = false ∧ Instr.wf (.registerWriteIgnored 16 0) = false
      ∧ Instr.wf (.registerWriteIgnored 20 0) = false ∧ Instr.wf (.registerWriteIgnored 8 4) = true
      ∧ Instr.wf (.registerWriteIgnored 0 5) = true := by decide

/-! ## One step of each kind of command -/

/-- R181: PAGE reads back what was written. -/
theorem test_page : readRegister (after (.page 0x00012345) State.reset) 0x04 = 0x00012345 := by decide

/-- R182: in DORMANT a GO sets the starting flag, bit 2 of ENGINE (11.10). -/
theorem test_go : readRegister (after .go State.reset) 0x08 = 4 := by decide

/-- R181: the constant of ID. -/
theorem test_id : readRegister State.reset 0x00 = 0x4B3A0880 := by decide

/-- R187: HALT of an ONLINE engine leaves it HALTED with attention pending. -/
theorem test_halt :
    (after .halt online).engine.state = .halted ∧ readRegister (after .halt online) 0x14 = 1 := by decide

/-- R178: ATTN clears attention pending. -/
theorem test_attn : readRegister (after (.attn 1) (after .halt online)) 0x14 = 0 := by decide

/-- R116: SET_RATE with divisor 1 starts a STOPPED generator at divisor 2. -/
theorem test_set_rate : (after (.setRate 1 3 0 1) online).gens[3] = ⟨true, 2, none, 2⟩ := by decide

/-- R127: a qualifier of 0 is taken as 1. -/
theorem test_trigger_setup : (after (.triggerSetup 1 3 2 0 1 5) online).trig.lines[3].qualifier = 1 := by decide

/-- R148: a new idle level reaches the lane of an IDLE channel at once, as a signed number. -/
theorem test_set_levels : (after (.setLevels 1 0x80 4 0 0 0x8000) online).chans[7].level.lane = -32768 := by decide

/-- R136: an unknown kind gives INVALID at offset 1. -/
theorem test_unknown_order :
    (after (.unknownOrderKind 1 0) online).orders.result = some ⟨.invalid, none, some 1⟩ := by decide

/-- R67: a streamed step's expiry takes the head of the queue; gain 16384 shows it as it is. -/
theorem test_expiry :
    (after (.expiry 0) playing).chans[0].level.lane = 100 ∧ (after (.expiry 0) playing).chans[0].pool.queue = [200] := by
  decide

/-- R54: an empty queue owes one more entry. -/
theorem test_expiry_starves :
    (after (.expiry 0) (withChannel online .running .none [.step streamStep])).chans[0].pool.deficit = 1 := by decide

/-- R74: the timeout of a decision step branches to slot 3. -/
theorem test_wait_timeout :
    (after (.waitTimeout 0) ((withChannel online .waiting (.trigger 2) [.step waitStep]).modPlay 0 fun p =>
      { p with waitCount := 7 })).chans[0].fetch.cursor = 3 := by decide

/-- R124: a STRIKE of a line with no delay reaches a channel that waits for it. -/
theorem test_strike :
    (after (.strike 4) (withChannel online .waiting (.trigger 2) [.step waitStep])).chans[0].play.state = .running := by
  decide

/-- R120: the first trigger sample after GO is numbered 1. -/
theorem test_trigger_sample : (after (.triggerSample 0xF) online).trig.refTime = 1 := by decide

/-- R98: 2.5 becomes 3, -3.5 becomes -3 and -4.5 becomes -4. -/
theorem test_rounding :
    scaleSample 5 8192 = 3 ∧ scaleSample (-7) 8192 = -3 ∧ scaleSample (-9) 8192 = -4 := by decide

/-- R98 and R99: 32767 at gain 2 saturates and clips; a sum of exactly 32767 does not clip. -/
theorem test_saturation :
    levelCode 32767 32767 0 = 32767 ∧ levelClips 32767 32767 0 = true ∧ levelClips 32767 16384 0 = false := by decide

/-! ## Witnesses: states and operands that meet the hypotheses of the statements, clause by clause -/

/-- An accepted Configuration Record: the default division, lists of 16 slots, a ring of 64 records, one segment. -/
def goodRecord : List Byte :=
  [1, 0, 0, 0, 0, 0, 0, 0, 0, 0, 0, 0x30, 0, 0, 0, 0, 1, 0, 0, 0, 0xFF, 0x0F, 0, 0, 0, 0, 0, 0x31, 0, 0, 0, 0, 64, 0, 0, 0]
    ++ zeros 28 ++ (allChans.flatMap fun _ => [0, 0, 0, 0x32, 0, 0, 0, 0, 16, 0, 0, 0] ++ zeros 12)

/-- The same with allotment 256 and no loop banks for channel 0. -/
def smallRecord : List Byte := (goodRecord.set 0x4C 0).set 0x4D 1

/-- A GO that is starting, its record's read in flight. -/
def starting : State :=
  carrying { State.reset with engine := { EngineControl.reset with starting := true, goBase := some 0 } } .configReadGo 256

/-- The Order Unit READING, its slot read in flight. -/
def readingOrder : State :=
  carrying { online with orders := { OrderUnit.reset with state := .reading } } .orderSlotRead 64

/-- The Order Unit executing an order, with a transfer in flight. -/
def executingOrder (order : Order) (kind : Transfer) : State :=
  carrying { online with orders := { OrderUnit.reset with state := .executing, inHand := some ⟨order, 1⟩ } } kind 256

/-- Channel 1 mirrors channel 0. -/
def mirrored : State :=
  online.modChan 1 fun ch => { ch with play := { ch.play with state := .mirroring }, level := { ch.level with mirror := some 0 } }

/-- The block ONLINE with the ring full by the copy: 64 records written, none taken. -/
def fullRing : State := online.modReport fun r => { r with written := 64 }

theorem witness_EmptyQueuePassesOneReferencePeriod :
    (∃ s : State, s.pending = [] ∧ (∀ g : GenIx, s.gens[g].running = true → 2 ≤ s.gens[g].countdown)
      ∧ s.gens[(0 : GenIx)].countdown = 2 ∧ s.online = true ∧ s.refPhase ≠ 7)
    ∧ (∃ s : State, s.pending = [] ∧ s.gens[(0 : GenIx)].running = true ∧ s.gens[(0 : GenIx)].countdown = 1
      ∧ (∀ h : GenIx, h ≠ 0 → s.gens[h].running = true → 2 ≤ s.gens[h].countdown) ∧ s.online = true ∧ s.refPhase ≠ 7)
    ∧ (∃ s : State, s.pending = [] ∧ s.online = true ∧ s.refPhase = 7
      ∧ (∀ g : GenIx, s.gens[g].running = true → 2 ≤ s.gens[g].countdown) ∧ s.gens[(0 : GenIx)].running = true) := by
  refine ⟨⟨{ online with gens := online.gens.set 0 ⟨true, 2, none, 2⟩, refPhase := 6 }, ?_⟩,
    ⟨{ online with gens := #v[⟨true, 2, none, 1⟩, ⟨true, 2, none, 2⟩, Gen.reset, Gen.reset], refPhase := 8 }, ?_⟩,
    ⟨{ online with gens := online.gens.set 0 ⟨true, 2, none, 2⟩, refPhase := 7 }, ?_⟩⟩ <;>
  decide +kernel

theorem witness_PageAndAttnWrites :
    State.reset.engine.state ≠ .online ∧ State.reset.engine.starting = false ∧ online.engine.state = .online
      ∧ starting.engine.starting = true ∧ (1#32).getLsbD 0 = true ∧ (2#32).getLsbD 0 = false
      ∧ (let s := online.enterHalted .configInvalid (.field 255 (some 7))
         s.haltFieldFits ∧ s.engine.cause = .configInvalid ∧ s.engine.detail = .field 255 (some 7))
      ∧ online.haltFieldFits ∧ online.engine.cause ≠ .configInvalid := by
  refine ⟨by decide, by decide, by decide, by decide, by decide, by decide, ⟨?_, by decide, by decide⟩, ?_, by decide⟩
  · intro o c h
    have h1 : HaltDetail.field 255 (some 7) = .field o c := h
    cases h1
    omega
  · intro o c h; cases h

/-- 11.10: a failed GO for byte 0x4C of channel 2 reads as HALTED, cause CONFIG_INVALID, and its field. -/
theorem test_engine_field :
    readRegister (online.enterHalted .configInvalid (.field 0x4C (some 2))) 0x08 = 0x014C2022 := by decide

theorem witness_GoRaisesTheConfigurationRead :
    State.reset.port.idleEmpty ∧ State.reset.engine.state ≠ .online ∧ State.reset.engine.starting = false
      ∧ online.port.idleEmpty ∧ online.engine.state = .online ∧ starting.port.idleEmpty
      ∧ starting.engine.starting = true := by unfold Port.idleEmpty; decide

theorem witness_ChannelNudgeReachesTheReaders :
    online.port.idleEmpty ∧ online.engine.state = .online
      ∧ starting.port.idleEmpty ∧ starting.engine.state ≠ .online ∧ starting.engine.starting = true
      ∧ State.reset.port.idleEmpty ∧ State.reset.engine.state ≠ .online ∧ State.reset.engine.starting = false := by
  unfold Port.idleEmpty; decide

theorem witness_OrderAndRoomNudges :
    (online.port.idleEmpty ∧ online.engine.state = .online ∧ online.orders.state = .standby)
    ∧ (readingOrder.port.idleEmpty ∧ readingOrder.engine.state = .online ∧ readingOrder.orders.state ≠ .standby)
    ∧ (fullRing.port.idleEmpty ∧ fullRing.engine.state = .online
      ∧ fullRing.ring.2 ≤ fullRing.report.untaken fullRing.report.copy ∧ fullRing.report.taken = .none)
    ∧ (let s := fullRing.modReport fun r => { r with written := 63 }
       s.port.idleEmpty ∧ s.engine.state = .online ∧ s.report.untaken s.report.copy < s.ring.2)
    ∧ (starting.port.idleEmpty ∧ starting.engine.state ≠ .online ∧ starting.engine.starting = true)
    ∧ (State.reset.port.idleEmpty ∧ State.reset.engine.state ≠ .online ∧ State.reset.engine.starting = false) := by
  unfold Port.idleEmpty; decide

/-- Line 0 DELAYING, line 1 with a delay of 1. -/
def twoLines : State := (online.modLine 0 fun l => { l with delaying := true }).modLine 1 fun l => { l with delay := 1 }

theorem witness_StrikeStartsDelaysOrIsIgnored :
    twoLines.engine.state = .online
      ∧ (∀ k : LineIx, (3#32).getLsbD k.val = true → twoLines.trig.lines[k].delaying = true ∨ 1 ≤ twoLines.trig.lines[k].delay)
      ∧ State.reset.engine.state ≠ .online := by decide

theorem witness_UnassignedRegisterBitsReadZeroAndAreIgnored :
    State.haltFieldFits (online.enterHalted .configInvalid (.field 255 (some 7)))
      ∧ ((0#32).toNat % 256 ≠ 1 ∧ (0#32).toNat % 256 ≠ 2 ∧ (4#32).toNat % 256 ≠ 3)
      ∧ Instr.wf (.registerWriteIgnored 24 0) = true
      ∧ (0x101#32 &&& 0xFF = 1 ∧ 0x202#32 &&& 0xFF = 2 ∧ 0xFF03#32 &&& 0xFF = 3)
      ∧ (4#32 &&& 0xFF ≠ 1 ∧ 4#32 &&& 0xFF ≠ 2 ∧ 4#32 &&& 0xFF ≠ 3)
      ∧ Instr.orderNudge ∈ commandsOfWrite 0x0C 0x100 := by
  refine ⟨?_, by decide +kernel, by decide +kernel, by decide +kernel, by decide +kernel, by decide +kernel⟩
  intro o c h
  have h1 : HaltDetail.field 255 (some 7) = .field o c := h
  cases h1
  omega

theorem witness_FailedGoEntersHalted :
    starting.carriesSize .configReadGo 256 ∧ starting.engine.starting = true ∧ (zeros 256).length = 256
      ∧ firstRefusal (configRecordOf (zeros 256)) = some ⟨true, 0x00, none⟩ := by
  unfold State.carriesSize; decide +kernel

theorem witness_AcceptedGoComesOnline :
    starting.carriesSize .configReadGo 256 ∧ starting.engine.starting = true ∧ goodRecord.length = 256
      ∧ firstRefusal (configRecordOf goodRecord) = none ∧ (∀ c : Chan, starting.chans[c].fetch.reader = .off) := by
  unfold State.carriesSize; decide +kernel

theorem witness_HaltQuietsTheEngine :
    playing.engine.state = .online ∧ playing.orders.state ≠ .closing ∧ playing.chans[0].play.state.counts = true
      ∧ State.reset.engine.state ≠ .online := by decide

theorem witness_UnknownOrdersAndOrdersOutOfTurn :
    (online.takesOrders ∧ online.port.idleEmpty) ∧ (readingOrder.takesOrders ∧ readingOrder.port.idleEmpty)
      ∧ ¬ State.reset.takesOrders ∧ ¬ (executingOrder .configure .configReadOrder).takesOrders := by
  unfold State.takesOrders Port.idleEmpty; decide

theorem witness_OrderSlotReadCompletes :
    readingOrder.carriesSize .orderSlotRead 64 ∧ readingOrder.orders.state = .reading ∧ readingOrder.engine.state = .online
      ∧ (1 :: zeros 63).length = 64 ∧ (slotBracket (1 :: zeros 63)).accepted = true
      ∧ (zeros 64).length = 64 ∧ (slotBracket (zeros 64)).accepted = false ∧ readingOrder.orders.recheck = false
      ∧ (readingOrder.modOrders fun o => { o with recheck := true }).orders.recheck = true := by
  unfold State.carriesSize; decide +kernel

theorem witness_ConfigureTakesTheRecordButTheRing :
    (let s := online.modPlay 3 fun p => { p with state := .frontier }
     s.takesOrders ∧ s.port.idleEmpty ∧ s.chans[(3 : Chan)].play.state.counts = true
      ∧ ∀ d : Chan, d < 3 → s.chans[d].play.state.counts = false)
    ∧ (online.takesOrders ∧ online.port.idleEmpty ∧ ∀ c : Chan, online.chans[c].play.state.counts = false)
    ∧ (let s := executingOrder .configure .configReadOrder
       s.carriesSize .configReadOrder 256 ∧ s.orders.state = .executing ∧ s.orders.inHand = some ⟨.configure, 1⟩)
    ∧ firstRefusal (configRecordOf goodRecord) = none
    ∧ firstRefusal (configRecordOf (zeros 256)) = some ⟨true, 0x00, none⟩ := by
  unfold State.takesOrders Port.idleEmpty State.carriesSize; decide +kernel

/-- Every channel's generator byte is `b`. -/
def allOn (b : Byte) : Vector Byte 8 := vec8 fun _ => b

/-- Every channel's start slot is `n`. -/
def allAt (n : BitVec 16) : Vector (BitVec 16) 8 := vec8 fun _ => n

theorem witness_StartIsRefusedByTheFirstFailure :
    (online.takesOrders ∧ online.port.idleEmpty)
    ∧ ((1 : Byte) ≠ 0 ∧ 2 ≤ (2 : Byte).toNat % 4)
    ∧ ((0x80 : Byte).getLsbD (7 : Chan).val = true
        ∧ (∀ d : Chan, d < 7 → (0x80 : Byte).getLsbD d.val = true → online.startFieldsPass (allOn 4) (allAt 15) d)
        ∧ 3 < (allOn 4)[(7 : Chan)].toNat)
    ∧ ((allOn 3)[(7 : Chan)].toNat ≤ 3 ∧ 0 < (online.settings 7).allotment ∧ (online.settings 7).listSize ≤ (allAt 16)[(7 : Chan)].toNat)
    ∧ (∀ d : Chan, (0x03 : Byte).getLsbD d.val = true → online.startFieldsPass (allOn 3) (allAt 15) d)
    ∧ (mirrored.chans[(1 : Chan)].play.state = .mirroring ∧ ¬ mirrored.unmirrored 0)
    ∧ (online.unmirrored 0 ∧ (online.modPlay 0 fun p => { p with state := .armed }).chans[(0 : Chan)].play.state.counts = true)
    ∧ ((State.settings State.reset 0).allotment = 0 ∧ State.reset.chans[(0 : Chan)].play.state = .idle)
    ∧ (let gens := (allOn 3).set 0 2
       online.toBeArmed gens 0 0 ∧ online.unmirrored 1 ∧ online.chans[(1 : Chan)].play.state = .idle
        ∧ (online.settings 1).allotment ≠ 0 ∧ gens[(1 : Chan)] ≠ gens[(0 : Chan)]) := by
  unfold State.takesOrders Port.idleEmpty State.startFieldsPass State.toBeArmed State.unmirrored; decide +kernel

theorem witness_StartArmsEveryMember :
    online.takesOrders ∧ online.port.idleEmpty ∧ (0x82 : Byte).getLsbD (1 : Chan).val = true
      ∧ (∀ d : Chan, d < 1 → (0x82 : Byte).getLsbD d.val = false)
      ∧ (0x31 : Byte).toNat % 4 = 1 ∧ (0x00 : Byte).toNat % 4 = 0
      ∧ (∀ d : Chan, (0x82 : Byte).getLsbD d.val = true →
          online.startFieldsPass (allOn 3) (allAt 15) d ∧ online.toBeArmed (allOn 3) 1 d) := by
  unfold State.takesOrders Port.idleEmpty State.startFieldsPass State.toBeArmed State.unmirrored; decide +kernel

theorem witness_StopThatWaitsBecomesPending :
    playing.takesOrders ∧ playing.port.idleEmpty ∧ 3 ≤ (3 : Byte).toNat ∧ (2 : Byte).toNat ≤ 2
      ∧ (∀ c : Chan, (0xFF : Byte).getLsbD c.val = true →
          playing.chans[c].play.state.counts = false ∨ playing.chans[c].play.state = .running ∧ (1 : Byte) ≠ 0
            ∨ playing.chans[c].play.inEntryWait = true ∧ (1 : Byte) = 2)
      ∧ (let s := withChannel online .waiting (.trigger 2) [.step waitStep]
         ∀ c : Chan, (0xFF : Byte).getLsbD c.val = true →
          s.chans[c].play.state.counts = false ∨ s.chans[c].play.inEntryWait = true) := by
  unfold State.takesOrders Port.idleEmpty; decide +kernel

/-- The membership of channel 0 ARMED alone under IMMEDIATE. -/
def aloneArmed : Membership := ⟨1, 0, .immediate, 0, false, false, false⟩

/-- The membership of channels 0 and 1 ARMED together. -/
def pairArmed : Membership := { aloneArmed with mask := 3 }

/-- Channels 0 and 1 ARMED in one group. -/
def armedPair : State :=
  ((withChannel online .armed .none []).modPlay 0 fun p => { p with group := some pairArmed }).modPlay 1 fun p =>
    { p with state := .armed, group := some pairArmed }

/-- Channel 0 RUNNING, launched alone, its step about to start. -/
def playingAlone : State := playing.modPlay 0 fun p => { p with group := some { aloneArmed with launched := true } }

theorem witness_CutStopsEveryPlayingChannel :
    ((∀ s ∈ [playing, readingOrder], s.takesOrders ∧ s.port.wf) ∧ (0 : Byte).toNat ≤ 2 ∧ (2 : Byte).toNat ≤ 2
      ∧ playing.chans[(0 : Chan)].stopsAtOnce 0 .cut ∧ playing.chans[(1 : Chan)].play.state.counts = false
      ∧ playing.chans[(0 : Chan)].plays streamStep ∧ (2 : Byte) ≠ 0 ∧ streamStep.resident = false)
    ∧ (let s := withChannel online .waiting (.trigger 2) [.step waitStep]
       s.chans[(0 : Chan)].play.inEntryWait = true ∧ s.chans[(0 : Chan)].play.wait ≠ .leader
        ∧ s.chans[(0 : Chan)].stopsAtOnce 1 .stepEnd)
    ∧ (∀ x ∈ [(armedPair, (0 : Byte), StopReason.cut),
          (withChannel online .frontier .none [], 2, .drain), (withChannel online .waiting (.trigger 2) [.step waitStep], 0, .cut),
          (playingAlone, 0, .cut), (playingAlone.modFetch 0 fun f => { f with reader := .windowFull }, 0, .cut)],
        x.1.takesOrders ∧ x.1.port.idleEmpty ∧ x.2.1.toNat ≤ 2 ∧ (∀ d : Chan, (1 : Byte).getLsbD d.val = true ↔ d = 0)
        ∧ x.1.unmirrored 0 ∧ x.1.chans[(0 : Chan)].stopsAtOnce x.2.1 x.2.2
        ∧ (∀ d : Chan, x.1.chans[d].follows d 0 = false)
        ∧ x.1.chans[(0 : Chan)].closesEpisode 0 x.1.chans[(0 : Chan)] [])
    ∧ (playingAlone.chans[(0 : Chan)].plays streamStep ∧ playingAlone.chans[(0 : Chan)].leadsLaunched 0 = true)
    ∧ (let s := (withChannel online .waiting (.data true) []).modPlay 0 fun p => { p with episode := 3 }
       (∃ late : Bool, s.chans[(0 : Chan)].play.wait = .data late) ∧ s.chans[(0 : Chan)].play.state = .waiting
        ∧ s.chans[(0 : Chan)].closesEpisode 0 (starvedChannel s.chans[(0 : Chan)] 3) [chanRecord 0 .starved 0 0 3 1])
    ∧ ((playing.modPlay 0 fun p => { p with episode := 3, episodeSlot := 5 }).chans[(0 : Chan)].closesEpisode 0
        (starvedChannel (playing.modPlay 0 fun p => { p with episode := 3, episodeSlot := 5 }).chans[(0 : Chan)] 3)
        [chanRecord 0 .starved 0 5 3 0]) := by
  refine ⟨?_, ?_, ?_, ?_, ?_, ?_⟩
  · unfold State.takesOrders Port.wf Port.idleEmpty Channel.stopsAtOnce Channel.plays; decide +kernel
  · unfold Channel.stopsAtOnce; decide +kernel
  · unfold State.takesOrders Port.idleEmpty State.unmirrored Channel.stopsAtOnce Channel.closesEpisode; decide +kernel
  · unfold Channel.plays; decide +kernel
  · unfold Channel.closesEpisode; decide +kernel
  · unfold Channel.closesEpisode; decide +kernel

/-- R144: a CUT of an ARMED channel leaves the rest of its group to channel 1. -/
theorem test_armed_leaves_its_group :
    (after (.stop 1 1 0) armedPair).chans[1].play.group = some { pairArmed with mask := 2, leader := 1 }
      ∧ (after (.stop 1 1 0) armedPair).chans[0].play.group = none := by decide +kernel

theorem witness_SetRateActsByTheGeneratorState :
    online.takesOrders ∧ online.port.idleEmpty ∧ 3 < (4 : Byte).toNat ∧ (3 : Byte).toNat ≤ 3 ∧ 2 < (3 : Byte).toNat
      ∧ (3 : Byte).toNat = (3 : GenIx).val ∧ (2 : Byte).toNat ≤ 2 := by
  unfold State.takesOrders Port.idleEmpty; decide

theorem witness_OrdersWithoutChecks : online.takesOrders ∧ online.port.idleEmpty := by
  unfold State.takesOrders Port.idleEmpty; decide

theorem witness_TriggerSetupReplacesTheLineSetup :
    online.takesOrders ∧ online.port.idleEmpty ∧ 3 < (4 : Byte).toNat ∧ (3 : Byte).toNat ≤ 3 ∧ 2 < (3 : Byte).toNat
      ∧ (3 : Byte).toNat = (3 : LineIx).val := by
  unfold State.takesOrders Port.idleEmpty; decide

theorem witness_MirrorSetupIsRefusedByTheFirstFailure :
    (mirrored.takesOrders ∧ mirrored.port.idleEmpty)
    ∧ (7 < (8 : Byte).toNat) ∧ ((7 : Byte).toNat ≤ 7 ∧ 7 < (0xFE : Byte).toNat ∧ (0xFE : Byte) ≠ 0xFF)
    ∧ (playing.takesOrders ∧ playing.port.idleEmpty ∧ playing.chans[(0 : Chan)].play.state.counts = true)
    ∧ (mirrored.chans[(2 : Chan)].play.state = .idle)
    ∧ (mirrored.chans[(2 : Chan)].play.state.counts = false ∧ mirrored.chans[(1 : Chan)].play.state = .mirroring)
    ∧ (mirrored.chans[(0 : Chan)].play.state.counts = false ∧ mirrored.chans[(2 : Chan)].play.state ≠ .mirroring
        ∧ mirrored.chans[(1 : Chan)].level.mirror = some 0
        ∧ ∀ d : Chan, d < 1 → ¬ (mirrored.chans[d].play.state = .mirroring ∧ mirrored.chans[d].level.mirror = some 0)) := by
  unfold State.takesOrders Port.idleEmpty; decide +kernel

theorem witness_MirrorSetupEntersAndLeavesTheMode :
    mirrored.takesOrders ∧ mirrored.port.idleEmpty
      ∧ (mirrored.unmirrored 2 ∧ mirrored.chans[(2 : Chan)].play.wait = .none
        ∧ mirrored.chans[(2 : Chan)].play.state.counts = false ∧ mirrored.chans[(0 : Chan)].play.state ≠ .mirroring)
      ∧ (mirrored.unmirrored 1 ∧ mirrored.chans[(1 : Chan)].play.wait = .none
        ∧ mirrored.chans[(1 : Chan)].play.state = .mirroring) := by
  unfold State.takesOrders Port.idleEmpty State.unmirrored; decide +kernel

theorem witness_SnapshotIsWrittenWhole :
    online.takesOrders ∧ online.port.idleEmpty ∧ (63 : BitVec 64).toNat % 64 ≠ 0 ∧ (64 : BitVec 64).toNat % 64 = 0
      ∧ (let s := executingOrder (.snapshot 64) .snapshotWrite
         s.carries .snapshotWrite ∧ s.orders.state = .executing ∧ s.orders.inHand = some ⟨.snapshot 64, 1⟩)
      ∧ online.chans[(7 : Chan)].play.group = none ∧ playingAlone.chans[(0 : Chan)].play.group.isSome = true := by
  unfold State.takesOrders Port.idleEmpty State.carries; decide +kernel

/-- 11.9: channel 0's snapshot block of a RUNNING channel launched alone: its state, its window's length, its queue's length. -/
theorem test_snapshot_channel :
    let b := snapshotBytes playingAlone
    fieldAt b 0x100 1 = 2 ∧ fieldAt b 0x104 1 = 1 ∧ fieldAt b 0x10C 4 = 2 ∧ fieldAt b 0x116 1 = 1 ∧ fieldAt b 0x11E 1 = 4 := by
  decide +kernel

theorem witness_OrderIsClosedByTwoWrites :
    (let s := (executingOrder .configure .orderResult).modOrders fun o => { o with state := .closing }
     s.carries .orderResult ∧ s.orders.state = .closing ∧ s.orders.inHand = some ⟨.configure, 1⟩)
    ∧ (let s := (executingOrder .configure .orderHead).modOrders fun o => { o with state := .closing, next := 15 }
       s.carries .orderHead ∧ s.orders.state = .closing ∧ s.engine.state = .online
        ∧ (s.modEngine fun e => { e with state := .halted }).engine.state ≠ .online) := by
  unfold State.carries; decide +kernel

theorem witness_Completions :
    (carrying online (.slotRetire 7) 8).carries (.slotRetire 7) ∧ (carrying online (.statusBlock 7) 64).carries (.statusBlock 7)
      ∧ (carrying online .engineConditions 8).carries .engineConditions
      ∧ (carrying online (.reportsWritten none) 8).carries (.reportsWritten none)
      ∧ (carrying online (.reportsWritten (some .launch)) 8).carries (.reportsWritten (some .launch))
      ∧ (carrying online (.reportRecord .launch false) 32).carries (.reportRecord .launch false)
      ∧ (carrying online (.reportRecord .launch true) 32).carries (.reportRecord .launch true)
      ∧ online.engine.config = some someConfig
      ∧ (carrying online .orderResult 8).carries .orderResult ∧ (carrying online .orderHead 8).carries .orderHead
      ∧ (carrying online .snapshotWrite 512).carries .snapshotWrite
      ∧ online.engine.state = .online ∧ State.reset.engine.state ≠ .online
      ∧ (carrying State.reset (.statusBlock 0) 64).carries (.statusBlock 0) := by
  unfold State.carries; decide +kernel

/-- Off ONLINE a fresh-slot record's write in flight, its Reports Written write waiting behind a status block. -/
def failingRecord : State :=
  let s := carrying State.reset (.reportRecord .launch false) 32
  { s with port := { s.port with waiting :=
      [writeOf (.statusBlock 7) 0 (zeros 64), writeOf (.reportsWritten (some .launch)) 0 (zeros 8)] } }

theorem witness_WriteErrorHaltsTheEngine :
    (failingRecord.engine.state ≠ .online ∧ failingRecord.carries (.reportRecord .launch false)
      ∧ failingRecord.port.waiting = [writeOf (.statusBlock 7) 0 (zeros 64)]
          ++ writeOf (.reportsWritten (some .launch)) 0 (zeros 8) :: []
      ∧ ∀ q ∈ [writeOf (.statusBlock 7) 0 (zeros 64)], ∀ k : RecordKind, q.kind ≠ .reportsWritten (some k))
    ∧ (let s := carrying State.reset (.reportRecord .launch false) 32
       s.carries (.reportRecord .launch false) ∧ ∀ (q : Request) (k : RecordKind), q ∈ s.port.waiting → q.kind ≠ .reportsWritten (some k))
    ∧ (let s := carrying State.reset .orderHead 8
       s.engine.state ≠ .online ∧ s.carries .orderHead ∧ ∀ k, ¬ s.carries (.reportRecord k false)) := by
  refine ⟨⟨by decide +kernel, ?_, rfl, ?_⟩, ⟨?_, ?_⟩, ⟨by decide +kernel, ?_, ?_⟩⟩
  · unfold State.carries; decide +kernel
  · intro q hq k
    rcases List.mem_singleton.1 hq with rfl
    exact fun h => by cases h
  · unfold State.carries; decide +kernel
  · intro q k hq
    exact absurd hq (by simp [carrying, State.reset, Port.reset])
  · unfold State.carries; decide +kernel
  · intro k h
    exact absurd h.2.2 (by simp [carrying, readOf])

/-- R178: the failed record's Reports Written write counts no record any more; with its confirmation attention stays clear. -/
theorem test_failed_record_sets_nothing :
    let s := { failingRecord with engine := { failingRecord.engine with state := .halted, config := some someConfig } }
    let t := after (.statusBlockWriteComplete .confirmed) (after (.reportRecordWriteComplete .error) s)
    t.port.inFlight.map Request.kind = some (.reportsWritten none)
      ∧ (after (.reportsWrittenWriteComplete .confirmed) t).report.attention = false := by decide +kernel

theorem witness_DiscardedCompletionsChangeThePortAlone :
    (online.chans[(0 : Chan)].fetch.epoch ≠ 255 ∧ ReadAnswer.hasSize 64 .error = true
      ∧ (carrying online (.stepSlotRead 0 255 true) 64).carriesSize (.stepSlotRead 0 255 true) 64
      ∧ (carrying online (.segmentEntryRead 0 255) 16).carriesSize (.segmentEntryRead 0 255) 16
      ∧ (carrying online (.streamRequest 0 255 1 .s8) 1).carriesSize (.streamRequest 0 255 1 .s8) 1
      ∧ (carrying online (.bankLoad 0 255 0 0 64 .s16) 128).carriesSize (.bankLoad 0 255 0 0 64 .s16) 128)
    ∧ (online.orders.state ≠ .reading ∧ (carrying online .orderSlotRead 64).carriesSize .orderSlotRead 64)
    ∧ (online.orders.state ≠ .executing ∧ (carrying online .configReadOrder 256).carriesSize .configReadOrder 256
      ∧ (carrying online .snapshotWrite 512).carries .snapshotWrite)
    ∧ (after .reset (carrying online .orderSlotRead 64)).port.discard = true
    ∧ (after .reset (carrying online .orderSlotRead 64)).port.inFlight.isSome = true ∧ State.reset.port.inFlight = none
    ∧ (∀ r ∈ (carrying online (.statusBlock 7) 64).port.inFlight,
        r.kind.completion .error .confirmed ≠ .slotRetireWriteComplete .confirmed)
    ∧ (∀ r ∈ (carrying online .orderSlotRead 64).port.inFlight,
        r.kind.completion (.data (zeros 63)) .confirmed = .orderSlotReadComplete (.data (zeros 63))
          ∧ (ReadAnswer.data (zeros 63)).hasSize r.size = false) := by
  unfold State.carries State.carriesSize; decide +kernel

theorem witness_SlotReadActsOnItsBracket :
    let s := carrying online (.stepSlotRead 7 0 false) 64
    s.carriesSize (.stepSlotRead 7 0 false) 64 ∧ s.chans[(7 : Chan)].fetch.epoch = 0 ∧ (zeros 64).length = 64
      ∧ (slotBracket (zeros 64)).accepted = false ∧ s.chans[(7 : Chan)].fetch.nudge = false
      ∧ (s.modFetch 7 fun f => { f with nudge := true }).chans[(7 : Chan)].fetch.nudge = true
      ∧ (let b := (1 :: zeros 63).set 8 3
         (slotBracket b).accepted = true ∧ (stepBodyOf b).segment < s.segTable.2)
      ∧ s.chans[(7 : Chan)].play.state ≠ .armed
      ∧ (let b := (1 :: zeros 63).set 8 4
         (slotBracket b).accepted = true ∧ s.segTable.2 ≤ (stepBodyOf b).segment)
      ∧ (let a := s.modPlay 7 fun p => { p with state := .armed }
         a.carriesSize (.stepSlotRead 7 0 false) 64 ∧ a.chans[(7 : Chan)].play.state = .armed
          ∧ a.chans[(7 : Chan)].fetch.window = []) := by
  unfold State.carriesSize; decide +kernel

/-- A segment entry of 5 S16 samples at address 0x40000000. -/
def entryBytes : List Byte := [0, 0, 0, 0x40, 0, 0, 0, 0, 5, 0, 0, 0, 0, 1, 0, 0]

/-- Channel 7's reader in ENTRY_READ with an accepted slot of one pass. -/
def readingEntry : State :=
  (carrying online (.segmentEntryRead 7 0) 16).modFetch 7 fun f =>
    { f with reader := .entryRead, accepted := some ⟨9, 0, { stepBodyOf (zeros 64) with rep := 1 }⟩ }

theorem witness_EntryReadPlacesTheStep :
    readingEntry.carriesSize (.segmentEntryRead 7 0) 16 ∧ readingEntry.chans[(7 : Chan)].fetch.epoch = 0
      ∧ readingEntry.chans[(7 : Chan)].fetch.accepted = some ⟨9, 0, { stepBodyOf (zeros 64) with rep := 1 }⟩
      ∧ readingEntry.chans[(7 : Chan)].play.state ≠ .armed ∧ entryBytes.length = 16 ∧ (zeros 16).length = 16
      ∧ firstFailure readingEntry 7 0 { stepBodyOf (zeros 64) with rep := 1 } (segEntryOf (zeros 16)) = some .segmentVoid
      ∧ firstFailure readingEntry 7 0 { stepBodyOf (zeros 64) with rep := 1 } (segEntryOf entryBytes) = none
      ∧ readingEntry.chans[(7 : Chan)].pool.bankA = .free
      ∧ (readingEntry.modPool 7 fun p => { p with bankA := .held 0 [] }).chans[(7 : Chan)].pool.bankA ≠ .free
      ∧ (readingEntry.modPool 7 fun p => { p with bankB := .held 0 [] }).chans[(7 : Chan)].pool.bankB ≠ .free
      ∧ (readingEntry.settings 7).bankSize = 2048
      ∧ (let a := readingEntry.modPlay 7 fun p => { p with state := .armed }
         a.carriesSize (.segmentEntryRead 7 0) 16 ∧ a.chans[(7 : Chan)].play.state = .armed
          ∧ a.chans[(7 : Chan)].fetch.window = []
          ∧ firstFailure a 7 0 { stepBodyOf (zeros 64) with rep := 1 } (segEntryOf (zeros 16)) = some .segmentVoid) := by
  unfold State.carriesSize; decide +kernel

/-- Channel 0 playing the resident step, its bank LOADING with one sample loaded. -/
def loadingBank : State :=
  carrying ((withChannel online .running .none [.step openStep]).modPool 0 fun p => { p with bankA := .loading 0 [50] })
    (.bankLoad 0 0 0 1 3 .s16) 6

/-- Channel 0 at the end of a streamed step that starved from its first sample to its last: the data cursor still stands on the
step before it. -/
def outrun : State :=
  (withChannel online .running .none [.step { streamStep with occ := 1 }, .step { streamStep with occ := 2 }]).modChan 0 fun ch =>
    { ch with
      play := { ch.play with offset := 100, pass := 3, stepExpiries := 600 }
      fetch := { ch.fetch with data := some (.step streamStep 3 99) }
      pool := { ch.pool with deficit := 300 } }

theorem witness_ArrivalsFillQueueAndBanks :
    (let s := carrying playing (.streamRequest 0 0 64 .s16) 128
     s.carriesSize (.streamRequest 0 0 64 .s16) 128 ∧ s.chans[(0 : Chan)].fetch.epoch = 0 ∧ (zeros 128).length = 128)
    ∧ (loadingBank.carriesSize (.bankLoad 0 0 0 1 3 .s16) 6 ∧ loadingBank.chans[(0 : Chan)].fetch.epoch = 0
      ∧ (zeros 6).length = 6 ∧ loadingBank.chans[(0 : Chan)].fetch.extentOf 0 = some 4
      ∧ loadingBank.chans[(0 : Chan)].pool.bank .a = .loading 0 [50]
      ∧ (loadingBank.chans[(0 : Chan)].pool.bank .b).occ? ≠ some 0)
    ∧ (let s := carrying playing (.bankLoad 0 0 8 0 3 .s16) 6
       s.carriesSize (.bankLoad 0 0 8 0 3 .s16) 6 ∧ s.chans[(0 : Chan)].pool.bankA.occ? ≠ some 8
        ∧ s.chans[(0 : Chan)].pool.bankB.occ? ≠ some 8 ∧ ReadAnswer.hasSize 6 (.data (zeros 6)) = true)
    ∧ (∀ x ∈ [(streamStep, [streamStep]), (streamStep, []), (openStep, [openStep])],
        let s := playing.modFetch 0 fun f => { f with data := some (.step x.1 3 (x.1.wEff - 1)), window := x.2.map .step }
        s.port.waiting = [] ∧ s.port.inFlight = none ∧ x.1.seg.format = some .s16
          ∧ s.chans[(0 : Chan)].pool.queue.length + s.chans[(0 : Chan)].pool.reserve + min 64 (x.1.wEff - (x.1.wEff - 1))
              ≤ (s.settings 0).capacity)
    ∧ (let s := playing.modPool 0 fun p => { p with reserve := 4032, queue := List.replicate 64 7 }
       (s.settings 0).capacity = 4096 ∧ s.chans[(0 : Chan)].pool.queue.length + s.chans[(0 : Chan)].pool.reserve = 4096)
    ∧ ((readOf (.streamRequest 0 0 64 .s16) 0 128).kind.isSampleOf 0 0 = true)
    ∧ (let f := outrun.chans[(0 : Chan)].fetch
       let s := after (.passEnd 0) outrun
       s.sampleOut 0 = false ∧ f.data = some (.step streamStep 3 99)
        ∧ s.chans[(0 : Chan)].fetch.data = some (.step streamStep 3 99)
        ∧ s.chans[(0 : Chan)].fetch.owed = [{ streamStep with occ := 1 }]) := by
  unfold State.carriesSize; decide +kernel

/-- R54 and R59 (log 40): a streamed step that retires before the data cursor reaches it keeps its place in the cursor's order. -/
theorem test_cursor_goes_through_owed :
    let f := ((after (.passEnd 0) outrun).feed 0).chans[(0 : Chan)].fetch
    f.window = [.step { streamStep with occ := 2 }] ∧ f.owed = []
      ∧ f.data = some (.step { streamStep with occ := 1 } 1 0) := by decide +kernel

theorem witness_SampleErrorFaultsTheChannel :
    ((carrying playing (.streamRequest 0 0 64 .s16) 128).carries (.streamRequest 0 0 64 .s16)
      ∧ playing.chans[(0 : Chan)].fetch.epoch = 0 ∧ playing.chans[(0 : Chan)].play.state.counts = true)
    ∧ (loadingBank.carries (.bankLoad 0 0 0 1 3 .s16) ∧ loadingBank.chans[(0 : Chan)].pool.bankA.occ? = some 0)
    ∧ ((carrying online (.streamRequest 0 0 64 .s16) 128).carries (.streamRequest 0 0 64 .s16)
      ∧ online.chans[(0 : Chan)].play.state.counts = false)
    ∧ (∀ s ∈ [playingAlone, armedPair],
      (carrying s (.streamRequest 0 0 64 .s16) 128).carries (.streamRequest 0 0 64 .s16)
        ∧ s.chans[(0 : Chan)].play.group.isSome = true ∧ s.chans[(0 : Chan)].play.state.counts = true
        ∧ s.unmirrored 0 ∧ (∀ d : Chan, s.chans[d].follows d 0 = false)
        ∧ s.chans[(0 : Chan)].closesEpisode 0 s.chans[(0 : Chan)] [])
    ∧ (let ch := (playing.modPlay 0 fun p => { p with episode := 2, episodeSlot := 5 }).chans[(0 : Chan)]
       ch.closesEpisode 0 (starvedChannel ch 2) [chanRecord 0 .starved 0 5 2 0])
    ∧ (let ch := ((withChannel online .waiting (.data true) []).modPlay 0 fun p => { p with episode := 2 }).chans[(0 : Chan)]
       ch.closesEpisode 0 (starvedChannel ch 2) [chanRecord 0 .starved 0 0 2 1]) := by
  refine ⟨?_, ?_, ?_, ?_, ?_, ?_⟩
  · unfold State.carries; decide +kernel
  · unfold State.carries; decide +kernel
  · unfold State.carries; decide +kernel
  · unfold State.carries State.unmirrored Channel.closesEpisode; decide +kernel
  · unfold Channel.closesEpisode; decide +kernel
  · unfold Channel.closesEpisode; decide +kernel

/-- A Taken read in flight with one record waiting. -/
def takenRead (taken : TakenRead) (queue : List QueuedRecord) : State :=
  carrying (fullRing.modReport fun r => { r with taken := taken, queue := queue }) .reportsTakenRead 8

/-- A record of channel 7. -/
def someRecord : Record := ⟨.frontier, .channel 7, 1, 0, 5, 0, 0⟩

theorem witness_TakenReadServesTheQueue :
    (takenRead .outstanding [⟨someRecord, 0⟩]).carriesSize .reportsTakenRead 8
      ∧ (takenRead .outstanding [⟨someRecord, 0⟩]).report.taken ≠ .stale ∧ (zeros 8).length = 8
      ∧ (takenRead .stale []).carriesSize .reportsTakenRead 8 ∧ (takenRead .stale []).report.queue = []
      ∧ (takenRead .stale [⟨someRecord, 0⟩]).carriesSize .reportsTakenRead 8
      ∧ (takenRead .stale [⟨someRecord, 0⟩]).report.queue ≠ [] ∧ ReadAnswer.hasSize 8 .error = true := by
  unfold State.carriesSize; decide +kernel

theorem witness_ExpiryReloadsAndIsCounted :
    online.gens[(0 : GenIx)].running = false ∧ playing.gens[(0 : GenIx)].running = true
      ∧ (∀ c : Chan, playing.chans[c].play.generator = 0 → playing.launchDue c = false)
      ∧ playing.chans[(1 : Chan)].play.generator ≠ 0 ∧ playing.chans[(1 : Chan)].play.group = none := by decide +kernel

/-- Channel 1 mirrors channel 0. -/
def mirroredBy (s : State) : State :=
  s.modChan 1 fun ch => { ch with play := { ch.play with state := .mirroring }, level := { ch.level with mirror := some 0 } }

theorem witness_MirrorsFollowTheirSource :
    (∀ s ∈ [playing, withChannel online .waiting (.trigger 2) [.step waitStep], withChannel online .waiting (.data true) [],
        withChannel online .frontier .none [.step streamStep], withChannel online .armed .none [],
        withChannel online .frontier .none [.invalid 0 5 .segmentVoid],
        (withChannel online .idle .none []).modLevel 0 fun l => { l with idleDue := true }, withChannel online .faulted .none []],
      (mirroredBy s).soleOn 0 0 ∧ (mirroredBy s).chans[(1 : Chan)].play.state = .mirroring
        ∧ (mirroredBy s).chans[(1 : Chan)].level.mirror = some 0 ∧ (mirroredBy s).chans[(1 : Chan)].play.group = none
        ∧ (mirroredBy s).launchDue 0 = false)
    ∧ ((mirroredBy playing).chans[(0 : Chan)].plays streamStep
      ∧ (let s := mirroredBy (withChannel online .waiting (.trigger 2) [.step waitStep])
         s.chans[(0 : Chan)].play.inEntryWait = true ∧ s.chans[(0 : Chan)].headStep = some waitStep))
    ∧ (withChannel online .frontier .none [.step streamStep]).chans[(0 : Chan)].dataPresent streamStep = false
    ∧ ((withChannel online .waiting (.data true) []).chans[(0 : Chan)].head = none)
    ∧ ((withChannel online .faulted .none []).chans[(0 : Chan)].level.idleDue = false) := by
  unfold State.soleOn Channel.plays; decide +kernel

/-- Channel 0 playing the resident step, with its bank HELD. -/
def playingResident : State :=
  (withChannel online .running .none [.step openStep]).modPool 0 fun p => { p with bankA := .held 0 [50, 60, 70, 80] }

/-- Channel 0 in a stay that its streamed step's data ends. -/
def staying (state : ChannelState) (wait : WaitReason) : State :=
  (withChannel online state wait [.step streamStep]).modPool 0 fun p => { p with queue := [100, 200] }

/-- Channel 0's reader AT_FRONTIER with a poll count. -/
def polling (s : State) (count : Nat) : State := s.modFetch 0 fun f => { f with reader := .atFrontier, poll := count }

/-- Channel 0 at the end of a pass of the streamed step. -/
def atPassEnd (pass : Nat) (rest : List WindowEntry) (frontier : Bool) (stop : PendingStop) : State :=
  (withChannel online .running .none (.step streamStep :: rest)).modChan 0 fun ch =>
    { ch with
      play := { ch.play with offset := 100, pass := pass, pendingStop := stop, stepExpiries := 600 }
      fetch := { ch.fetch with frontier := frontier } }

theorem witness_RunningExpiryOutputsTheNextSample :
    (∀ x ∈ [(playing, streamStep), (playingAlone, streamStep), (polling playing 5, streamStep), (polling playing 63, streamStep),
        (playing.modPlay 0 fun p => { p with stepExpiries := 3, holdCount := 1 }, streamStep),
        (playing.modPool 0 fun p => { p with queue := [] }, streamStep), (playingResident, openStep),
        (playingResident.modPool 0 fun p => { p with bankA := .loading 0 [] }, openStep)],
      x.1.soleOn 0 0 ∧ x.1.chans[(0 : Chan)].plays x.2 ∧ x.1.unmirrored 0 ∧ x.1.port.idleEmpty
        ∧ (∀ d : Chan, x.1.chans[d].follows d 0 = false)
        ∧ (startedChannel x.1.chans[0] x.2).play.offset < x.2.wEff
        ∧ (nextPosition (startedChannel x.1.chans[0] x.2).play x.2).isSome = true)
    ∧ (let b := startedChannel playing.chans[0] streamStep
       b.obtains streamStep 100 { b.pool with queue := [200] } true false true)
    ∧ (let b := startedChannel (playing.modPool 0 fun p => { p with queue := [] }).chans[0] streamStep
       b.obtains streamStep 0 { b.pool with deficit := 1 } false true false)
    ∧ (let b := startedChannel (playing.modPlay 0 fun p => { p with stepExpiries := 3, holdCount := 1 }).chans[0] streamStep
       b.obtains streamStep 0 b.pool true false false)
    ∧ (let b := startedChannel playingResident.chans[0] openStep
       b.obtains openStep 50 b.pool true false false)
    ∧ (let b := startedChannel (playingResident.modPool 0 fun p => { p with bankA := .loading 0 [] }).chans[0] openStep
       b.obtains openStep 0 b.pool false false false)
    ∧ (∀ s ∈ [staying .frontier .none, staying .waiting (.data false)],
        s.chans[(0 : Chan)].headStep = some streamStep ∧ s.chans[(0 : Chan)].dataPresent streamStep = true
          ∧ ∀ d : Chan, s.chans[d].follows d 0 = false)
    ∧ streamStep.body.entry = some .immediate
    ∧ (staying .frontier .none).chans[(0 : Chan)].endsStay 0 streamStep (staying .frontier .none).chans[(0 : Chan)]
        [chanRecord 0 .frontierLeft 1 5 0 0]
    ∧ (staying .waiting (.data true)).chans[(0 : Chan)].endsStay 0 streamStep
        (starvedChannel (staying .waiting (.data true)).chans[(0 : Chan)] 0) [chanRecord 0 .starved 1 5 0 1] := by
  refine ⟨?_, ?_, ?_, ?_, ?_, ?_, ?_, ?_, ?_, ?_⟩
  · unfold State.soleOn Channel.plays State.unmirrored Port.idleEmpty; decide +kernel
  · exact Or.inl ⟨by decide +kernel, by decide +kernel, ⟨[200], by decide +kernel, by decide +kernel⟩, rfl, rfl, rfl⟩
  · exact Or.inr (Or.inl (by decide +kernel))
  · exact Or.inr (Or.inr (Or.inl (by decide +kernel)))
  · exact Or.inr (Or.inr (Or.inr (Or.inl (by decide +kernel))))
  · exact Or.inr (Or.inr (Or.inr (Or.inr (by decide +kernel))))
  · decide +kernel
  · decide +kernel
  · unfold Channel.endsStay; decide +kernel
  · unfold Channel.endsStay; decide +kernel

/-- Channel 0 about to output the last sample of its last pass, `rest` behind its step. -/
def lastDue (rest : List WindowEntry) (stop : PendingStop) : State :=
  (atPassEnd 3 rest false stop).modPlay 0 fun p => { p with offset := 99, holdCount := 1, stepExpiries := 599 }

/-- The same state with that sample output and the step retired. -/
def lastRetired (s : State) : State :=
  let b := startedChannel s.chans[0] streamStep
  State.retires ({ s.polled 0 with gens := s.gens.set 0 (reloaded s.gens[0]) }.lastSample 0 streamStep b 0 b.pool true false false)
    0 streamStep (lastPosition b.play streamStep).1 none

theorem witness_ExpiryEndsTheStep :
    (∀ s ∈ [lastDue [.step streamStep] .none, lastDue [.step streamStep] .stepEnd, lastDue [] .drain,
        lastDue [.invalid 1 6 .segmentVoid] .none],
      s.soleOn 0 0 ∧ s.unmirrored 0 ∧ s.port.idleEmpty ∧ s.chans[(0 : Chan)].plays streamStep
        ∧ (startedChannel s.chans[0] streamStep).play.offset < streamStep.wEff
        ∧ nextPosition (startedChannel s.chans[0] streamStep).play streamStep = none
        ∧ streamStep.resident = false ∧ ∀ d : Chan, s.chans[d].follows d 0 = false)
    ∧ (let b := startedChannel (lastDue [.step streamStep] .none).chans[0] streamStep
       b.obtains streamStep 0 b.pool true false false)
    ∧ (∃ went, (lastRetired (lastDue [.step streamStep] .none)).chans[(0 : Chan)].leavesBoundary 0 streamStep went []
        ∧ went.play.state = .running)
    ∧ (∃ went, (lastRetired (lastDue [.step streamStep] .stepEnd)).chans[(0 : Chan)].leavesBoundary 0 streamStep went
        [chanRecord 0 .channelStopped 1 5 2 0])
    ∧ (∃ went, (lastRetired (lastDue [] .drain)).chans[(0 : Chan)].leavesBoundary 0 streamStep went
        [chanRecord 0 .channelStopped 1 5 3 0])
    ∧ (∃ went, (lastRetired (lastDue [.invalid 1 6 .segmentVoid] .none)).chans[(0 : Chan)].leavesBoundary 0 streamStep went
        [chanRecord 0 .channelFault 1 6 1 3]) := by
  refine ⟨?_, ?_, ⟨_, Or.inl ⟨by decide +kernel, by decide +kernel, Or.inl ⟨streamStep, by decide +kernel, rfl, rfl, rfl⟩⟩,
      by decide +kernel⟩,
    ⟨_, Or.inr ⟨_, [], Or.inr (Or.inr ⟨by decide +kernel, by decide +kernel, rfl, rfl⟩), Or.inl ⟨.stepEnd,
      Or.inr (Or.inl ⟨by decide +kernel, by decide +kernel, rfl⟩), by decide +kernel, rfl⟩⟩⟩,
    ⟨_, Or.inr ⟨_, [], Or.inr (Or.inr ⟨by decide +kernel, by decide +kernel, rfl, rfl⟩), Or.inl ⟨.drain,
      Or.inr (Or.inr ⟨by decide +kernel, by decide +kernel, Or.inl ⟨by decide +kernel, by decide +kernel, rfl⟩⟩),
      by decide +kernel, rfl⟩⟩⟩,
    ⟨_, Or.inr ⟨_, [], Or.inr (Or.inr ⟨by decide +kernel, by decide +kernel, rfl, rfl⟩), Or.inr ⟨1, 6, .segmentVoid,
      by decide +kernel, by decide +kernel, by decide +kernel, by decide +kernel, rfl⟩⟩⟩⟩
  · unfold State.soleOn State.unmirrored Port.idleEmpty Channel.plays; decide +kernel
  · exact Or.inr (Or.inr (Or.inl (by decide +kernel)))

theorem witness_WaitingExpiryShowsTheWaitLevel :
    (∀ s ∈ [withChannel online .waiting (.trigger 2) [.step waitStep], withChannel online .waiting (.data true) [],
        withChannel online .frontier .none [.step streamStep], withChannel online .armed .none [],
        withChannel online .frontier .none [.invalid 0 5 .segmentVoid]],
      s.soleOn 0 0 ∧ s.unmirrored 0 ∧ s.launchDue 0 = false ∧ s.port.idleEmpty
        ∧ (polling s 63).chans[(0 : Chan)].fetch.reader = .atFrontier ∧ (polling s 63).port.idleEmpty
        ∧ s.chans[(0 : Chan)].dataPresent streamStep = false)
    ∧ (∀ stop ∈ [PendingStop.none, .drain],
      let s := (withChannel online .waiting (.trigger 2) [.step waitStep]).modPlay 0 fun p =>
        { p with waitCount := 6, pendingStop := stop }
      s.soleOn 0 0 ∧ s.unmirrored 0 ∧ s.port.idleEmpty ∧ s.chans[(0 : Chan)].play.inEntryWait = true
        ∧ s.chans[(0 : Chan)].headStep = some waitStep ∧ waitStep.decision = true ∧ 6 + 1 = waitStep.body.waitTimeout
        ∧ ∀ d : Chan, s.chans[d].follows d 0 = false)
    ∧ (let ctx := { waitStep with body := { waitStep.body with waitTimeout := 1 } }
       let s := (staying .frontier .none).modFetch 0 fun f => { f with window := [.step ctx] }
       s.chans[(0 : Chan)].endsStay 0 ctx s.chans[(0 : Chan)] [chanRecord 0 .frontierLeft 1 5 0 0]
        ∧ ctx.decision = true ∧ ctx.body.waitTimeout = 1 ∧ s.chans[(0 : Chan)].play.pendingStop ≠ .drain ∧ s.port.idleEmpty)
    ∧ (let s := (withChannel online .waiting (.trigger 2) [.step waitStep]).modPlay 0 fun p => { p with waitCount := 5 }
       s.chans[(0 : Chan)].play.inEntryWait = true ∧ s.chans[(0 : Chan)].headStep = some waitStep
        ∧ 6 ≠ waitStep.body.waitTimeout)
    ∧ (withChannel online .frontier .none [.invalid 0 5 .segmentVoid]).chans[(0 : Chan)].head = some (.invalid 0 5 .segmentVoid)
    ∧ (∀ entry ∈ [StepEntry.trigger 2, .leader],
      let ctx := { waitStep with body := { waitStep.body with entry := some entry } }
      let s := (staying .frontier .none).modFetch 0 fun f => { f with window := [.step ctx] }
      s.soleOn 0 0 ∧ s.unmirrored 0 ∧ ctx.body.waitTimeout ≠ 1
        ∧ s.chans[(0 : Chan)].endsStay 0 ctx s.chans[(0 : Chan)] [chanRecord 0 .frontierLeft 1 5 0 0]
        ∧ s.chans[(0 : Chan)].noLeader 0 = true
        ∧ (s.modPlay 0 fun p => { p with group := some { aloneArmed with leader := 1 } }).chans[(0 : Chan)].noLeader 0 = false) := by
  refine ⟨?_, ?_, ?_, ?_, ?_, ?_⟩
  · unfold State.soleOn State.unmirrored Port.idleEmpty; decide +kernel
  · unfold State.soleOn State.unmirrored Port.idleEmpty; decide +kernel
  · unfold Channel.endsStay Port.idleEmpty; decide +kernel
  · decide +kernel
  · decide +kernel
  · unfold State.soleOn State.unmirrored Channel.endsStay; decide +kernel

/-- Channels 0 and 1 on generator 0, channel 0 playing and leading the launched group of both. -/
def leading (expiries : Nat) (state : ChannelState) (wait : WaitReason) (step : StepContext) : State :=
  let group : Membership := ⟨3, 0, .immediate, 0, false, true, false⟩
  (playing.modPlay 0 fun p => { p with group := some group, stepExpiries := expiries }).modChan 1 fun ch =>
    { ch with
      play := { ch.play with state := state, wait := wait, generator := 0, group := some group, stepExpiries := 1 }
      fetch := { ch.fetch with window := [.step step] } }

theorem witness_LeaderStepStartsReachTheFollowers :
    (∀ x ∈ [(leading 0 .waiting .leader waitStep, waitStep), (leading 1 .waiting .leader waitStep, waitStep),
        (leading 0 .running .none openStep, openStep)],
      x.1.gens[(0 : GenIx)].running = true
        ∧ (∀ d : Chan, x.1.chans[d].play.generator = 0 ↔ d = 0 ∨ d = 1)
        ∧ x.1.chans[(0 : Chan)].plays streamStep ∧ x.1.chans[(0 : Chan)].leadsLaunched 0 = true
        ∧ x.1.chans[(1 : Chan)].follows 1 0 = true ∧ x.1.chans[(1 : Chan)].headStep = some x.2)
    ∧ (let s := (leading 0 .waiting .leader waitStep).modFetch 1 fun f => { f with reader := .decisionPause }
       waitStep.decision = true ∧ s.chans[(1 : Chan)].fetch.reader = .decisionPause ∧ (s.resumeReads 1 waitStep).length = 1)
    ∧ (1 ≠ waitStep.body.waitTimeout ∧ (leading 1 .waiting .leader waitStep).chans[(0 : Chan)].play.stepExpiries ≠ 0
      ∧ nextPosition (leading 1 .waiting .leader waitStep).chans[(0 : Chan)].play streamStep ≠ none)
    ∧ (openStep.body.rep = 0 ∧ openStep.body.advance = some .leader
      ∧ (startedChannel (leading 0 .running .none openStep).chans[1] openStep).play.offset < openStep.wEff
      ∧ nextPosition (startedChannel (leading 0 .running .none openStep).chans[1] openStep).play openStep ≠ none
      ∧ (leading 0 .running .none openStep).chans[(1 : Chan)].plays openStep) := by
  unfold Channel.plays; decide +kernel

/-- Channel 0 ARMED alone with 100 samples in its queue. -/
def readyToLaunch : State :=
  (withChannel online .armed .none [.step streamStep]).modChan 0 fun ch =>
    { ch with
      play := { ch.play with group := some aloneArmed }
      pool := { ch.pool with queue := List.replicate 100 (25 : Int) } }

theorem witness_MirrorsFollowIntoPlay :
    ((mirroredBy (staying .frontier .none)).soleOn 0 0 ∧ (mirroredBy (staying .frontier .none)).chans[(0 : Chan)].leavesFor streamStep)
    ∧ ((mirroredBy readyToLaunch).soleOn 0 0 ∧ (mirroredBy readyToLaunch).launchesAlone 0 streamStep
      ∧ (mirroredBy readyToLaunch).chans[(1 : Chan)].level.mirror = some 0)
    ∧ (∀ entry ∈ [StepEntry.trigger 2, .leader],
      let ctx := { waitStep with body := { waitStep.body with entry := some entry } }
      let s := mirroredBy ((staying .frontier .none).modFetch 0 fun f => { f with window := [.step ctx] })
      s.chans[(0 : Chan)].play.state = .frontier ∧ s.chans[(0 : Chan)].headStep = some ctx
        ∧ s.chans[(0 : Chan)].dataPresent ctx = true ∧ s.chans[(0 : Chan)].noLeader 0 = true) := by
  refine ⟨⟨?_, Or.inl rfl, ?_⟩, ⟨?_, ⟨rfl, ?_, ?_, aloneArmed, rfl, ?_⟩, rfl⟩, ?_⟩
  · unfold State.soleOn; decide +kernel
  · decide +kernel
  · unfold State.soleOn; decide +kernel
  all_goals decide +kernel

/-- R105: a mirror shows its source's last sample at the expiry that ends the source's play, and its own idle level at the next. -/
theorem test_mirror_at_the_end :
    let ending := playing.modPlay 0 fun p =>
      { p with offset := 99, holdCount := 1, pass := 3, stepExpiries := 599, heldRaw := 70, pendingStop := .stepEnd }
    let s := mirroredBy (ending.modLevel 1 fun l => { l with mirrorGain := 8192, idle := -5 })
    let t := after (.expiry 0) s
    t.chans[0].play.state = .idle ∧ t.chans[1].level.lane = 35 ∧ (after (.expiry 0) t).chans[1].level.lane = -5 := by
  decide +kernel

theorem witness_ReadyGroupLaunchesTogether :
    readyToLaunch.gens[(0 : GenIx)].running = true ∧ aloneArmed.mask.getLsbD aloneArmed.leader.val = true
      ∧ aloneArmed.condition = .immediate ∧ aloneArmed.launched = false
      ∧ (∀ c : Chan, readyToLaunch.chans[c].play.generator = 0 ↔ aloneArmed.mask.getLsbD c.val = true)
      ∧ (∀ c : Chan, aloneArmed.mask.getLsbD c.val = true →
          readyToLaunch.chans[c].play.state = .armed ∧ readyToLaunch.chans[c].play.group = some aloneArmed
          ∧ readyToLaunch.memberReady c = true
          ∧ readyToLaunch.chans[c].play.episode = 0
          ∧ readyToLaunch.chans[c].headStep = some streamStep)
      ∧ 1 ≤ streamStep.wEff ∧ 1 < streamStep.hold ∧ readyToLaunch.chans[(0 : Chan)].pool.queue.head? = some 25
      ∧ readyToLaunch.soleOn 0 0 ∧ readyToLaunch.unmirrored 0 ∧ (∀ d : Chan, aloneArmed.mask.getLsbD d.val = true ↔ d = 0) ∧ aloneArmed.leader = 0
      ∧ readyToLaunch.port.idleEmpty ∧ (polling readyToLaunch 63).memberReady 0 = true ∧ (polling readyToLaunch 63).port.idleEmpty
      ∧ (∀ d : Chan, readyToLaunch.chans[d].follows d 0 = false)
      ∧ (startedChannel (enteredChannel readyToLaunch.chans[0]) streamStep).play.offset < streamStep.wEff
      ∧ nextPosition (startedChannel (enteredChannel readyToLaunch.chans[0]) streamStep).play streamStep = some (1, 0, 1) := by
  unfold State.unmirrored State.soleOn Port.idleEmpty; decide +kernel

/-- R60: a first step is ready at the lesser of the start level and W_eff, or with its bank HELD; data is present from one sample on. -/
theorem test_readiness :
    let filled := fun n => readyToLaunch.modPool 0 fun p => { p with queue := List.replicate n (1 : Int) }
    let banked := fun b => (withChannel online .armed .none [.step openStep]).modPool 0 fun p => { p with bankA := b }
    (filled 100).memberReady 0 = true ∧ (filled 99).memberReady 0 = false
      ∧ (banked (.held 0 [1, 2, 3, 4])).memberReady 0 = true ∧ (banked (.loading 0 [1, 2, 3])).memberReady 0 = false
      ∧ (banked (.loading 0 [1])).chans[(0 : Chan)].dataPresent openStep = true
      ∧ (banked (.loading 0 [])).chans[(0 : Chan)].dataPresent openStep = false := by decide +kernel

theorem witness_PassEndBeginsTheNextPass :
    (let s := atPassEnd 2 [] false .none
     s.chans[(0 : Chan)].plays streamStep ∧ 1 ≤ s.chans[(0 : Chan)].play.stepExpiries ∧ streamStep.wEff ≤ 100
      ∧ streamStep.body.rep ≠ 0 ∧ 2 < streamStep.body.rep)
    ∧ (let s := playingResident.modPlay 0 fun p => { p with offset := 4, stepExpiries := 4 }
       s.chans[(0 : Chan)].plays openStep ∧ openStep.wEff ≤ 4 ∧ openStep.body.rep = 0
        ∧ s.chans[(0 : Chan)].play.advanceSeen = false)
    ∧ (playing.chans[(0 : Chan)].plays streamStep ∧ playing.chans[(0 : Chan)].play.offset < streamStep.wEff)
    ∧ (let s := playing.modPlay 0 fun p => { p with offset := 100 }
       s.chans[(0 : Chan)].plays streamStep ∧ s.chans[(0 : Chan)].play.stepExpiries = 0)
    ∧ online.chans[(0 : Chan)].play.state ≠ .running := by
  unfold Channel.plays; decide +kernel

theorem witness_StepBoundaryRetiresAndGoesOn :
    (∀ s ∈ [atPassEnd 3 [] false .none, atPassEnd 3 [] true .none, atPassEnd 3 [] false .drain, atPassEnd 3 [] false .stepEnd,
        atPassEnd 3 [.invalid 1 6 .segmentVoid] false .none, atPassEnd 3 [.step streamStep] false .none,
        atPassEnd 3 [.step waitStep] false .none,
        (atPassEnd 3 [.step waitStep] false .none).modFetch 0 fun f => { f with reader := .windowFull },
        atPassEnd 3 [.step { waitStep with body := { waitStep.body with entry := some .leader } }] false .none],
      s.chans[(0 : Chan)].plays streamStep ∧ 1 ≤ s.chans[(0 : Chan)].play.stepExpiries
        ∧ streamStep.wEff ≤ s.chans[(0 : Chan)].play.offset
        ∧ streamStep.body.rep ≤ s.chans[(0 : Chan)].play.pass ∧ s.chans[(0 : Chan)].noLeader 0 = true
        ∧ s.port.idleEmpty ∧ s.chans[(0 : Chan)].letsIn streamStep none)
    ∧ streamStep.body.rep ≠ 0 ∧ streamStep.resident = false ∧ streamStep.body.nextKind ≠ some .endStep
    ∧ streamStep.body.entry = some .immediate ∧ waitStep.body.entry = some (.trigger 2)
    ∧ (let s := (atPassEnd 3 [] false .none).modPlay 0 fun p => { p with group := some { aloneArmed with leader := 1 } }
       s.chans[(0 : Chan)].noLeader 0 = false)
    ∧ (stepBodyOf ((zeros 64).set 0x26 2)).nextKind = some .endStep
    ∧ (after (.stepBoundary 0) (atPassEnd 3 [.step streamStep] false .none)).chans[(0 : Chan)].play.state.counts = true := by
  refine ⟨?_, by decide +kernel⟩
  intro s hs
  suffices h : s.chans[(0 : Chan)].plays streamStep ∧ 1 ≤ s.chans[(0 : Chan)].play.stepExpiries
      ∧ streamStep.wEff ≤ s.chans[(0 : Chan)].play.offset
      ∧ streamStep.body.rep ≤ s.chans[(0 : Chan)].play.pass ∧ s.chans[(0 : Chan)].noLeader 0 = true ∧ s.port.idleEmpty from
    ⟨h.1, h.2.1, h.2.2.1, h.2.2.2.1, h.2.2.2.2.1, h.2.2.2.2.2, Or.inl ⟨Or.inl rfl, rfl⟩⟩
  unfold Channel.plays Port.idleEmpty
  revert s; decide +kernel

/-- The state right after channel 0's streamed step has retired at the end of its last pass. -/
def pastEnd (rest : List WindowEntry) (frontier : Bool) (stop : PendingStop) : State :=
  (atPassEnd 3 rest frontier stop).retires 0 streamStep 100 none

theorem witness_ChannelLeavesItsBoundary :
    (∀ s ∈ [atPassEnd 3 [.step streamStep] false .none, atPassEnd 3 [.step waitStep] false .none, atPassEnd 3 [] true .none,
        atPassEnd 3 [] false .none], s.port.idleEmpty ∧ s.unmirrored 0 ∧ s.chans[(0 : Chan)].plays streamStep
          ∧ ∀ d : Chan, s.chans[d].follows d 0 = false)
    ∧ (∃ went, (pastEnd [.step streamStep] false .none).chans[(0 : Chan)].leavesBoundary 0 streamStep went [])
    ∧ (∃ went, (pastEnd [.step waitStep] false .none).chans[(0 : Chan)].leavesBoundary 0 streamStep went [])
    ∧ (∃ went, (pastEnd [] false .none).chans[(0 : Chan)].leavesBoundary 0 streamStep went [])
    ∧ (∃ went, (pastEnd [] true .none).chans[(0 : Chan)].leavesBoundary 0 streamStep went [chanRecord 0 .frontier 0 0 0 0])
    ∧ (∃ went, (pastEnd [.invalid 1 6 .segmentVoid] false .none).chans[(0 : Chan)].leavesBoundary 0 streamStep went
        [chanRecord 0 .channelFault 0 6 1 3])
    ∧ (∃ went, (pastEnd [.step { waitStep with body := { waitStep.body with entry := some .leader } }] false
        .none).chans[(0 : Chan)].leavesBoundary 0 streamStep went [chanRecord 0 .channelStopped 0 5 5 0])
    ∧ (∃ (went : Channel) (ended : StepContext), ended.body.nextKind = some .endStep
        ∧ (pastEnd [] false .none).chans[(0 : Chan)].leavesBoundary 0 ended went [chanRecord 0 .channelStopped 0 5 4 0]) := by
  refine ⟨?_, ⟨_, Or.inl ⟨by decide +kernel, by decide +kernel, Or.inl ⟨streamStep, by decide +kernel, rfl, rfl, rfl⟩⟩⟩,
    ⟨_, Or.inl ⟨by decide +kernel, by decide +kernel, Or.inr (Or.inl ⟨waitStep, .trigger 2, _, by decide +kernel,
      Or.inl ⟨2, rfl, rfl⟩, Or.inr (Or.inr ⟨?_, ?_, rfl, rfl⟩), rfl⟩)⟩⟩,
    ⟨_, Or.inl ⟨by decide +kernel, by decide +kernel, Or.inr (Or.inr ⟨_, [], by decide +kernel, by decide +kernel,
      Or.inr (Or.inr ⟨?_, ?_, rfl, rfl⟩), Or.inl ⟨by decide +kernel, rfl, rfl⟩⟩)⟩⟩,
    ⟨_, Or.inl ⟨by decide +kernel, by decide +kernel, Or.inr (Or.inr ⟨_, [], by decide +kernel, by decide +kernel,
      Or.inr (Or.inr ⟨?_, ?_, rfl, rfl⟩), Or.inr ⟨by decide +kernel, by decide +kernel, rfl⟩⟩)⟩⟩,
    ⟨_, Or.inr ⟨_, [], Or.inr (Or.inr ⟨?_, ?_, rfl, rfl⟩), Or.inr ⟨1, 6, .segmentVoid,
      by decide +kernel, by decide +kernel, by decide +kernel, by decide +kernel, rfl⟩⟩⟩,
    ⟨_, Or.inr ⟨_, [], Or.inr (Or.inr ⟨?_, ?_, rfl, rfl⟩), Or.inl ⟨.leaderGone,
      Or.inr (Or.inr ⟨by decide +kernel, by decide +kernel, Or.inr ⟨⟨_, rfl, by decide +kernel⟩, by decide +kernel, rfl⟩⟩),
      by decide +kernel, rfl⟩⟩⟩,
    ⟨_, { streamStep with body := stepBodyOf ((zeros 64).set 0x26 2) }, by decide +kernel,
      Or.inr ⟨_, [], Or.inr (Or.inr ⟨?_, ?_, rfl, rfl⟩), Or.inl ⟨.endStep,
        Or.inl ⟨by decide +kernel, rfl⟩, by decide +kernel, rfl⟩⟩⟩⟩
  · unfold Port.idleEmpty State.unmirrored Channel.plays; decide +kernel
  all_goals decide +kernel

/-- The resident open repeat at its end in bank A, bank B held by the next step, a third one in BANK_WAIT. -/
def atBankWait : State :=
  let next := { openStep with occ := 1, bank := some .b }
  (playingResident.modPlay 0 fun p => { p with offset := 4, stepExpiries := 4, advanceSeen := true }).modChan 0 fun ch =>
    { ch with
      fetch := { ch.fetch with
        window := [.step openStep, .step next], reader := .bankWait, held := some { openStep with occ := 2, bank := none } }
      pool := { ch.pool with bankB := .held 1 [1, 2, 3, 4] } }

theorem witness_StepBoundaryReleasesTheBank :
    (atBankWait.chans[(0 : Chan)].letsIn openStep (some ({ openStep with occ := 2, bank := none }, .a)))
    ∧ (atBankWait.chans[(0 : Chan)].plays openStep
      ∧ 1 ≤ atBankWait.chans[(0 : Chan)].play.stepExpiries ∧ openStep.wEff ≤ atBankWait.chans[(0 : Chan)].play.offset
      ∧ openStep.body.rep = 0 ∧ atBankWait.chans[(0 : Chan)].play.advanceSeen = true)
    ∧ (let ch := (after (.stepBoundary 0) atBankWait).chans[(0 : Chan)]
       ch.play.state.counts = true ∧ ch.pool.bankA = .loading 2 []) := by
  refine ⟨Or.inr ⟨{ openStep with occ := 2, bank := none }, .a, ?_⟩, ?_, ?_⟩
  · have others : ∀ other ∈ [BankId.a, .b], other ≠ .a → atBankWait.chans[(0 : Chan)].pool.bank other ≠ .free
        ∧ (atBankWait.chans[(0 : Chan)].pool.bank other).occ? ≠ some openStep.occ := by decide +kernel
    have held : openStep.resident = true ∧ atBankWait.chans[(0 : Chan)].fetch.reader = .bankWait
        ∧ atBankWait.chans[(0 : Chan)].fetch.held = some { openStep with occ := 2, bank := none }
        ∧ (atBankWait.chans[(0 : Chan)].pool.bank .a).occ? = some openStep.occ := by decide +kernel
    exact ⟨held.1, held.2.1, held.2.2.1, held.2.2.2, fun other => others other (by cases other <;> decide), rfl⟩
  · unfold Channel.plays; decide +kernel
  · decide +kernel

/-- R80: an advance taken within a pass of an open repeat with Exit CUT does not let STEP_BOUNDARY end the step: the next expiry
outputs its last sample first. -/
theorem test_cut_waits_for_its_expiry :
    let cut := { openStep with body := { openStep.body with exitCut := true } }
    let s := (playingResident.modFetch 0 fun f => { f with window := [.step cut] }).modPlay 0 fun p =>
      { p with offset := 2, stepExpiries := 2, advanceSeen := true }
    after (.stepBoundary 0) s = s ∧ (after (.expiry 0) s).chans[(0 : Chan)].level.lane = 70
      ∧ (after (.expiry 0) s).chans[(0 : Chan)].play.retired = 1 := by decide +kernel

theorem witness_WaitTimeoutBranches :
    let s := (withChannel online .waiting (.trigger 2) [.step waitStep]).modPlay 0 fun p => { p with waitCount := 7 }
    s.chans[(0 : Chan)].play.inEntryWait = true ∧ s.chans[(0 : Chan)].headStep = some waitStep ∧ waitStep.decision = true
      ∧ s.chans[(0 : Chan)].play.waitCount = waitStep.body.waitTimeout
      ∧ s.chans[(0 : Chan)].play.pendingStop ≠ .drain
      ∧ (s.modPlay 0 fun p => { p with pendingStop := .drain }).chans[(0 : Chan)].play.pendingStop = .drain
      ∧ (stepBodyOf ((zeros 64).set 0x27 4)).consume = true
      ∧ s.port.idleEmpty ∧ (s.modFetch 0 fun f => { f with reader := .windowFull }).port.idleEmpty
      ∧ playing.chans[(0 : Chan)].play.inEntryWait = false
      ∧ (s.modPlay 0 fun p => { p with waitCount := 6 }).chans[(0 : Chan)].play.waitCount ≠ waitStep.body.waitTimeout := by
  unfold Port.idleEmpty; decide +kernel

theorem witness_PollsAndMarkerCountsComeDue :
    (let s := playing.modFetch 0 fun f => { f with reader := .atFrontier, poll := 64 }
     s.port.idleEmpty ∧ s.chans[(0 : Chan)].fetch.reader = .atFrontier ∧ s.chans[(0 : Chan)].play.state.counts = true
      ∧ (s.settings 0).frontierPoll = 64 ∧ 64 ≤ s.chans[(0 : Chan)].fetch.poll)
    ∧ (let s := playing.modFetch 0 fun f => { f with reader := .atFrontier, poll := 63 }
       s.chans[(0 : Chan)].fetch.poll < 64)
    ∧ (let s := playing.modMarker 0 0 fun o => { o with phase := .delaying, delayCount := 0 }
       s.chans[(0 : Chan)].level.markers[(0 : MarkIx)].phase = .delaying
        ∧ s.chans[(0 : Chan)].level.markers[(0 : MarkIx)].delayCount = 0)
    ∧ (let s := playing.modMarker 0 1 fun o => { o with phase := .pulsing, widthCount := 0 }
       s.chans[(0 : Chan)].level.markers[(1 : MarkIx)].phase = .pulsing
        ∧ s.chans[(0 : Chan)].level.markers[(1 : MarkIx)].widthCount = 0)
    ∧ playing.chans[(0 : Chan)].level.markers[(0 : MarkIx)].phase ≠ .delaying
    ∧ playing.chans[(0 : Chan)].level.markers[(0 : MarkIx)].phase ≠ .pulsing := by
  unfold Port.idleEmpty; decide +kernel

/-- Line 1 with a change that its qualifier accepts at the next sample and a delay of 1; line 0 DELAYING with 2 to go. -/
def qualifying : State :=
  (online.modLine 0 fun l => { l with delaying := true, delayCount := 2 }).modLine 1 fun l =>
    { l with registered := true, agreement := 1, delay := 1 }

theorem witness_TriggerSampleQualifiesTheLines :
    State.reset.engine.state ≠ .online
    ∧ (let s : State := { qualifying with trig := { qualifying.trig with firstDue := true } }
       s.engine.state = .online ∧ s.trig.firstDue = true ∧ s.trig.lines[(0 : LineIx)].delaying = true
        ∧ ∀ k : LineIx, s.trig.lines[k].delaying = true → 2 ≤ s.trig.lines[k].delayCount)
    ∧ (qualifying.engine.state = .online ∧ qualifying.trig.firstDue = false
      ∧ qualifying.trig.lines[(1 : LineIx)].edgeNow = true ∧ ∀ k : LineIx, qualifying.trig.lines[k].deliversNothing) := by
  unfold TrigLine.deliversNothing; decide +kernel

theorem witness_DelayEndsAtItsTriggerSample :
    (let s := qualifying.modLine 0 fun l => { l with delayCount := 1 }
     s.engine.state = .online ∧ s.trig.firstDue = false ∧ s.trig.lines[(0 : LineIx)].delaying = true
      ∧ s.trig.lines[(0 : LineIx)].delayCount = 1 ∧ s.trig.lines[(0 : LineIx)].edgeNow = false
      ∧ (∀ j : LineIx, j ≠ 0 → s.trig.lines[j].deliversNothing ∧ (s.trig.lines[j].edgeNow && s.trig.lines[j].delaying) = false))
    ∧ (let s := qualifying.modLine 0 fun l => { l with delayCount := 1, registered := true, agreement := 1, delay := 1 }
       s.trig.lines[(0 : LineIx)].edgeNow = true ∧ 1 ≤ s.trig.lines[(0 : LineIx)].delay
        ∧ s.trig.lines[(0 : LineIx)].delaying = true ∧ s.trig.lines[(0 : LineIx)].delayCount = 1)
    ∧ (let s := qualifying.modLine 0 fun l => { l with delayCount := 1 }
       let first : State := { s with trig := { s.trig with firstDue := true } }
       first.trig.firstDue = true ∧ first.trig.lines[(0 : LineIx)].delaying = true
        ∧ first.trig.lines[(0 : LineIx)].delayCount = 1
        ∧ ∀ j : LineIx, j ≠ 0 → first.trig.lines[j].delaying = true → 2 ≤ first.trig.lines[j].delayCount)
    ∧ (∀ delaying : Bool,
       let s := qualifying.modLine 0 fun l =>
         { l with delaying := delaying, delayCount := 1, registered := true, agreement := 1, delay := 0 }
       s.engine.state = .online ∧ s.trig.firstDue = false ∧ s.trig.lines[(0 : LineIx)].edgeNow = true
        ∧ s.trig.lines[(0 : LineIx)].delay = 0 ∧ s.trig.lines[(0 : LineIx)].delaying = delaying
        ∧ s.trig.lines[(0 : LineIx)].delayCount = 1
        ∧ ∀ j : LineIx, j ≠ 0 →
          s.trig.lines[j].deliversNothing ∧ (s.trig.lines[j].edgeNow && s.trig.lines[j].delaying) = false) := by
  unfold TrigLine.deliversNothing; decide +kernel

/-- R123 and R124: with D 0 the event is delivered at the very trigger sample that qualifies the edge. -/
theorem test_edge_delivers_at_its_sample :
    let s := (withChannel online .waiting (.trigger 2) [.step waitStep]).modLine 2 fun l => { l with registered := true, agreement := 1 }
    let t := after (.triggerSample 4) s
    t.chans[(0 : Chan)].play.state = .running ∧ t.trig.lines[(2 : LineIx)].edgeTime = 1
      ∧ t.trig.lines[(2 : LineIx)].delaying = false := by decide +kernel

/-- Channel 0 waits for line 2, which has been DELAYING and has no sample left. -/
def delivering (s : State) : State := s.modLine 2 fun l => { l with delaying := true, delayCount := 0 }

/-- Channel 0 ARMED alone under TRIGGER(2). -/
def armedOnLine (queue : List Int) : State :=
  delivering ((withChannel online .armed .none [.step streamStep]).modChan 0 fun ch =>
    { ch with
      play := { ch.play with group := some { aloneArmed with condition := .trigger 2 } }
      pool := { ch.pool with queue := queue } })

theorem witness_DeliveredEventReachesTheAttending :
    (let s := delivering (withChannel online .waiting (.trigger 2) [.step waitStep])
     s.deliversBy 2 (.triggerEvent 2) 0 0
      ∧ (∀ c : Chan, s.chans[c].play.state = .armed → s.chans[c].attendsLine 2 = false)
      ∧ s.chans[(0 : Chan)].play.state = .waiting ∧ s.chans[(0 : Chan)].play.wait = .trigger 2
      ∧ s.chans[(0 : Chan)].headStep = some waitStep ∧ s.chans[(1 : Chan)].attendsLine 2 = false ∧ s.port.idleEmpty
      ∧ waitStep.decision = true ∧ ((s.modFetch 0 fun f => { f with reader := .decisionPause }).resumeReads 0 waitStep).length = 1)
    ∧ online.deliversBy 2 (.strike 4) 0 0
    ∧ (online.modLine 2 fun l => { l with agreement := 2 }).deliversBy 2 (.qualifiedEdge 2) 0 0
    ∧ (∀ queue ∈ [[], List.replicate 100 (1 : Int)],
      let s := armedOnLine queue
      s.deliversBy 2 (.triggerEvent 2) 0 0
        ∧ s.chans[(0 : Chan)].armedLeader 0 = some { aloneArmed with condition := .trigger 2 }
        ∧ (∀ d : Chan, d ≠ 0 → s.chans[d].armedLeader d = none)
        ∧ s.chans[(0 : Chan)].play.state = .armed
        ∧ s.groupReady { aloneArmed with condition := .trigger 2 } = decide (queue ≠ [])
        ∧ (∀ d : Chan, aloneArmed.mask.getLsbD d.val = false → s.chans[d].attendsLine 2 = false)) := by
  refine ⟨?_, ⟨by decide +kernel, Or.inr (Or.inl ⟨⟨4, rfl, by decide +kernel⟩, by decide +kernel⟩)⟩,
    ⟨by decide +kernel, Or.inr (Or.inr (by decide +kernel))⟩, ?_⟩
  · unfold Port.idleEmpty
    exact ⟨⟨by decide +kernel, Or.inl (by decide +kernel)⟩, by decide +kernel⟩
  · intro queue hq
    refine ⟨⟨by rfl, Or.inl ⟨rfl, by rfl, by rfl, by rfl, by rfl⟩⟩, ?_⟩
    rcases List.mem_cons.1 hq with rfl | hq
    · decide +kernel
    · rcases List.mem_singleton.1 hq with rfl
      decide +kernel

theorem witness_QualifiedEdgeStartsADelay :
    (let s := online.modLine 2 fun l => { l with agreement := 2, mode := .falling }
     s.engine.state = .online ∧ s.trig.lines[(2 : LineIx)].qualifier ≤ s.trig.lines[(2 : LineIx)].agreement
      ∧ s.trig.lines[(2 : LineIx)].mode.takes (!s.trig.lines[(2 : LineIx)].stable) = false)
    ∧ (let s := online.modLine 2 fun l => { l with agreement := 2, delay := 1 }
       s.trig.lines[(2 : LineIx)].qualifier ≤ s.trig.lines[(2 : LineIx)].agreement
        ∧ s.trig.lines[(2 : LineIx)].mode.takes (!s.trig.lines[(2 : LineIx)].stable) = true
        ∧ s.trig.lines[(2 : LineIx)].delaying = false ∧ 1 ≤ s.trig.lines[(2 : LineIx)].delay)
    ∧ (let s := online.modLine 2 fun l => { l with agreement := 2, delaying := true }
       s.trig.lines[(2 : LineIx)].mode.takes (!s.trig.lines[(2 : LineIx)].stable) = true
        ∧ s.trig.lines[(2 : LineIx)].delaying = true)
    ∧ (online.modLine 2 fun l => { l with agreement := 1 }).trig.lines[(2 : LineIx)].agreement
        < online.trig.lines[(2 : LineIx)].qualifier
    ∧ online.trig.lines[(2 : LineIx)].delaying = false := by decide +kernel

theorem witness_LevelComputationRoundsAndSaturates :
    isCode (scaleSample 32767 16384 + 0) ∧ 32767 < scaleSample 32767 16384 + 1 ∧ scaleSample (-32768) 16384 + -1 < -32768
      ∧ isCode (scaleSample (-32768) 16384 + 0) ∧ isCode 32767 ∧ isCode (-32768) := by
  unfold isCode; decide

theorem witness_PoolSettingsInForce :
    firstRefusal (configRecordOf goodRecord) = none ∧ (∀ c : Chan, (configRecordOf goodRecord).chan[c].allotment = 0)
      ∧ firstRefusal (configRecordOf smallRecord) = none ∧ (configRecordOf smallRecord).chan[(0 : Chan)].allotment = 256
      ∧ (configRecordOf smallRecord).chan[(0 : Chan)].startLevel < 64 := by
  decide +kernel

/-- R184: each check of the record refuses with its own field and channel, at a record that passes every check before it. -/
theorem witness_RecordChecksRefuse :
    (firstRefusal (configRecordOf (goodRecord.set 0 2)) = some ⟨true, 0x00, none⟩)
    ∧ (firstRefusal (configRecordOf (goodRecord.set 0x10 0)) = some ⟨true, 0x10, none⟩)
    ∧ (firstRefusal (configRecordOf (goodRecord.set 0x11 0x10)) = some ⟨true, 0x10, none⟩)
    ∧ (firstRefusal (configRecordOf (goodRecord.set 0x08 8)) = some ⟨true, 0x08, none⟩)
    ∧ (firstRefusal (configRecordOf (goodRecord.set 0x20 63)) = some ⟨true, 0x20, none⟩)
    ∧ (firstRefusal (configRecordOf (goodRecord.set 0x18 16)) = some ⟨true, 0x18, none⟩)
    ∧ (firstRefusal (configRecordOf (smallRecord.set 0x4C 1)) = some ⟨true, 0x4C, some 0⟩)
    ∧ (firstRefusal (configRecordOf (smallRecord.set 0x51 1)) = some ⟨true, 0x50, some 0⟩)
    ∧ (let r := configRecordOf ((smallRecord.set 0x65 255).set 0x7D 1)
       r.chan[(1 : Chan)].allotment = 65280 ∧ r.chan[(2 : Chan)].allotment = 256
        ∧ firstRefusal r = some ⟨true, 0x7C, some 2⟩)
    ∧ (firstRefusal (configRecordOf (goodRecord.set 0xF0 17)) = some ⟨true, 0xF0, some 7⟩)
    ∧ (firstRefusal (configRecordOf (goodRecord.set 0xE8 32)) = some ⟨true, 0xE8, some 7⟩) := by decide +kernel

theorem witness_CountedLoopJumpsPassesLessOneTimes :
    (stepBodyOf ((zeros 64).set 0x26 1)).nextKind = some .jump ∧ (stepBodyOf ((zeros 64).set 0x26 1)).passes = 0
      ∧ (stepBodyOf (((zeros 64).set 0x26 1).set 0x16 2)).passes = 2 ∧ mapEntry [(3, 4)] 2 = none
      ∧ (stepBodyOf (zeros 64)).nextKind = some .next ∧ (stepBodyOf ((zeros 64).set 0x26 2)).nextKind = some .endStep := by
  decide +kernel

theorem witness_ArbiterServesClassesInOrder :
    online.port.waiting = []
      ∧ ∀ k ∈ [Transfer.statusBlock 0, .streamRequest 7 0 64 .s16, .stepSlotRead 7 0 false, .bankLoad 7 0 0 0 64 .s16,
            .snapshotWrite],
          { online.port with waiting := [readOf k 0 64] }.waiting ≠ [] := by decide +kernel

/-- R55: a stream request is urgent below the low-water mark of 1024 entries and no longer at it. -/
theorem test_urgency :
    ∀ x ∈ [(1023, 2), (1024, 4)],
      (playing.modPool 0 fun p => { p with queue := List.replicate x.1 (0 : Int) }).classOf (.streamRequest 0 0 64 .s16) = x.2 := by
  decide +kernel

theorem witness_RecordsArePlacedByTheRoom :
    online.port.idleEmpty ∧ online.report.queue = [] ∧ online.report.untaken online.report.copy < online.ring.2
      ∧ fullRing.port.idleEmpty ∧ fullRing.report.queue = []
      ∧ fullRing.ring.2 ≤ fullRing.report.untaken fullRing.report.copy ∧ fullRing.engine.state = .online
      ∧ State.reset.ring.2 ≤ State.reset.report.untaken State.reset.report.copy ∧ State.reset.engine.state ≠ .online
      ∧ (takenRead .outstanding (List.replicate 15 ⟨someRecord, 0⟩)).port.idleEmpty
      ∧ (List.replicate 15 (⟨someRecord, 0⟩ : QueuedRecord)).length < 16
      ∧ List.replicate 16 (⟨someRecord, 0⟩ : QueuedRecord) = List.replicate 15 ⟨someRecord, 0⟩ ++ [⟨someRecord, 0⟩]
      ∧ someRecord.source = .channel 7 ∧ (∀ e ∈ [someRecord, someRecord], e.source = .channel 7) := by
  unfold Port.idleEmpty; decide +kernel

/-- R165: of two records of one channel the last carries its conditions. -/
theorem test_last_record_carries :
    let s := (takenRead .outstanding [⟨someRecord, 0⟩]).modChan 7 fun ch => { ch with perRecord := 5 }
    let t := State.handOverAll [{ someRecord with slot := 2 }, { someRecord with slot := 3 }] s
    t.report.queue.map (fun q => (q.record.slot, q.record.conditions)) = [(1, 0), (2, 0), (3, 5)]
      ∧ t.chans[(7 : Chan)].perRecord = 0 := by decide +kernel

theorem witness_Invariants :
    online.reportInRange ∧ online.port.wf ∧ online.deficitPaid ∧ online.lanesInRange ∧ online.quietOffline
      ∧ online.gensInRange ∧ online.linesInRange ∧ online.haltFieldFits ∧ online.mirrorsStand ∧ online.pending = []
      ∧ loadingBank.quietOffline ∧ loadingBank.fetchesOrdered := by
  refine ⟨?_, ?_, ?_, ?_, ?_, ?_, ?_, ?_, ?_, rfl, ?_, ?_, ?_⟩
  · unfold State.reportInRange; decide +kernel
  · unfold Port.wf Port.idleEmpty; decide +kernel
  · unfold State.deficitPaid; decide +kernel
  · unfold State.lanesInRange isCode; decide +kernel
  · unfold State.quietOffline; decide +kernel
  · unfold State.gensInRange Gen.inRange; decide +kernel
  · unfold State.linesInRange TrigLine.inRange; decide +kernel
  · intro o c h; cases h
  · unfold State.mirrorsStand; decide +kernel
  · unfold State.quietOffline; decide +kernel
  · intro c
    refine ⟨?_, ?_, ?_, ?_, ?_, ?_, ?_, ?_, ?_, ?_, ?_, ?_⟩
    iterate 4 (revert c; decide +kernel)
    · intro ctx h
      have none_held : ∀ d : Chan, loadingBank.chans[d].fetch.held = none := by decide +kernel
      cases (none_held c).symm.trans h
    iterate 2 (revert c; decide +kernel)
    · intro r hr _ _ e he
      obtain rfl : readOf (.bankLoad 0 0 0 1 3 .s16) 0 6 = r := Option.some.inj hr
      obtain rfl : (0 : BitVec 8) = e := Option.some.inj he
      revert c; decide +kernel
    iterate 2 (revert c; decide +kernel)
    · intro r hr n format hk
      obtain rfl : r = readOf (.bankLoad 0 0 0 1 3 .s16) 0 6 := List.mem_singleton.1 hr
      cases hk
    · revert c; decide +kernel
  · intro h hh
    cases (show some h = none from hh.symm)

end Sys2Proof.Tests
end

namespace Sys2Proof.Machine

/-! ## Counted loops (R12, R13, R31) -/

section CountedLoop

variable {b : StepBody} {slot : Nat} {map : List (Nat × Nat)}

/-- A step that is no JUMP with at least two passes leaves the loop counter map (R13). -/
theorem mapAfter_uncounted (h : ¬ (b.nextKind = some .jump ∧ 2 ≤ b.passes)) : mapAfter b slot map = map := if_neg h

/-- An entry added at the end of a map without one of its slot is the map's entry of that slot. -/
theorem mapEntry_append_new (h : mapEntry map slot = none) (n : Nat) : mapEntry (map ++ [(slot, n)]) slot = some n := by
  unfold mapEntry at *
  simp [List.lookup_append, h]

/-- The first placement of a counted loop's JUMP adds its entry (R13). -/
theorem mapAfter_enter (hj : b.nextKind = some .jump) (hp : 2 ≤ b.passes) (h : mapEntry map slot = none) :
    mapAfter b slot map = map ++ [(slot, b.passes - 2)] := by
  simp [mapAfter, hj, hp, h]

/-- No entry of a map without one of the slot is of the slot. -/
theorem fst_ne_of_mapEntry_none (h : mapEntry map slot = none) : ∀ e ∈ map, e.1 ≠ slot := by
  intro e he hs
  have := List.lookup_eq_none_iff.1 h e he
  simp [hs] at this

/-- A placement on a positive counter counts it down (R13). -/
theorem mapAfter_count (hj : b.nextKind = some .jump) (hp : 2 ≤ b.passes) (h : mapEntry map slot = none) (n : Nat) :
    mapAfter b slot (map ++ [(slot, n + 1)]) = map ++ [(slot, n)] := by
  have stands : (map.map fun e => if e.1 = slot then (e.1, n) else e) = map :=
    (List.map_congr_left fun e he => if_neg (fst_ne_of_mapEntry_none h e he)).trans (List.map_id' map)
  simpa [mapAfter, hj, hp, mapEntry_append_new h] using stands

/-- A placement on a counter of 0 removes the entry (R13). -/
theorem mapAfter_leave (hj : b.nextKind = some .jump) (hp : 2 ≤ b.passes) (h : mapEntry map slot = none) :
    mapAfter b slot (map ++ [(slot, 0)]) = map := by
  simpa [mapAfter, hj, hp, mapEntry_append_new h] using fst_ne_of_mapEntry_none h

/-- After `i + 1` placements of a counted loop's JUMP its counter stands at `Passes - 2 - i` (R13). -/
theorem mapAfter_iterate (hj : b.nextKind = some .jump) (h : mapEntry map slot = none) (i : Nat) (hi : i + 2 ≤ b.passes) :
    (mapAfter b slot)^[i + 1] map = map ++ [(slot, b.passes - 2 - i)] := by
  induction i with
  | zero => exact mapAfter_enter hj hi h
  | succ i ih =>
    have hn : b.passes - 2 - i = b.passes - 2 - (i + 1) + 1 := by omega
    rw [Function.iterate_succ_apply', ih (by omega), hn, mapAfter_count hj (by omega) h]

/-- A counted loop's JUMP falls through on a counter of 0 and jumps otherwise (R12, R13). -/
theorem successorOf_counted (hj : b.nextKind = some .jump) (hp : 2 ≤ b.passes) (size : Nat) :
    successorOf b slot size map = if mapEntry map slot = some 0 then some ((slot + 1) % size) else some b.jumpTarget := by
  have h0 : b.passes ≠ 0 := by omega
  have h1 : b.passes ≠ 1 := by omega
  simp [successorOf, hj, h0, h1]

/-- The placements before the last of a counted loop's run take the jump (R13). -/
theorem successorOf_iterate_jump (hj : b.nextKind = some .jump) (h : mapEntry map slot = none) (size i : Nat)
    (hi : i + 1 < b.passes) : successorOf b slot size ((mapAfter b slot)^[i] map) = some b.jumpTarget := by
  rw [successorOf_counted hj (by omega)]
  refine if_neg ?_
  cases i with
  | zero => simp [h]
  | succ i =>
    rw [mapAfter_iterate hj h i (by omega), mapEntry_append_new h]
    simp only [Option.some.injEq]
    omega

/-- The last placement of a counted loop's run falls through (R13). -/
theorem successorOf_iterate_last (hj : b.nextKind = some .jump) (h : mapEntry map slot = none) (size : Nat)
    (hp : 2 ≤ b.passes) :
    successorOf b slot size ((mapAfter b slot)^[b.passes - 1] map) = some ((slot + 1) % size) := by
  have hi : b.passes - 1 = b.passes - 2 + 1 := by omega
  rw [hi, mapAfter_iterate hj h _ (by omega), successorOf_counted hj hp, mapEntry_append_new h, if_pos (by simp)]

/-- A counted loop's complete run leaves the map as it was (R13, R31). -/
theorem mapAfter_iterate_run (hj : b.nextKind = some .jump) (h : mapEntry map slot = none) (hp : 2 ≤ b.passes) :
    (mapAfter b slot)^[b.passes] map = map := by
  have hi : b.passes = b.passes - 2 + 1 + 1 := by omega
  rw [hi, Function.iterate_succ_apply', mapAfter_iterate hj h _ (by omega), Nat.sub_self, mapAfter_leave hj hp h]

end CountedLoop

/-- Settles O52: a counted loop's run follows its counter down from `Passes - 2`. -/
theorem countedLoopJumpsPassesLessOneTimes : Obligations.CountedLoopJumpsPassesLessOneTimes := by
  intro b slot size map
  refine ⟨fun hn => ?next, fun he => ?endStep, fun hj => ⟨fun h0 => ?always, fun h1 => ?never, fun hp h => ?counted⟩⟩
  case next => exact ⟨by simp [successorOf, hn], mapAfter_uncounted (by simp [hn])⟩
  case endStep => exact ⟨by simp [successorOf, he], mapAfter_uncounted (by simp [he])⟩
  case always => exact ⟨by simp [successorOf, hj, h0], mapAfter_uncounted (by simp [h0])⟩
  case never => exact ⟨by simp [successorOf, hj, h1], mapAfter_uncounted (by simp [h1])⟩
  case counted =>
    exact ⟨successorOf_iterate_jump hj h size, successorOf_iterate_last hj h size hp, mapAfter_iterate_run hj h hp⟩

end Sys2Proof.Machine

namespace Sys2Proof.Machine

/-! ## Changes of one channel -/

theorem State.modFetch_modFetch (s : State) (c : Chan) (f g : Fetch → Fetch) :
    (s.modFetch c f).modFetch c g = s.modFetch c (g ∘ f) := by
  simp [State.modFetch, State.modChan]

/-! ## Completions of reads (R39, R156, R159) -/

theorem State.portEnd_eq (s : State) : s.portEnd = { s with port := s.port.ended [] } := by
  simp [State.portEnd, Port.ended]

/-- A read's completion is handled when the answer has the size asked for (log 1); then the port chooses its next grant (R156). -/
theorem State.completeRead_carried {s : State} {k : Transfer} {n : Nat} {a : ReadAnswer} {f : State → State}
    (handle : Transfer → Option (State → State)) (h : s.carriesSize k n) (ha : a.hasSize n = true) (hf : handle k = some f) :
    s.completeRead a handle = State.portDone (f { s with port := s.port.ended [] }) := by
  obtain ⟨-, hd, hr⟩ := h
  obtain ⟨r, hin, hk⟩ := Option.map_eq_some_iff.1 hr
  obtain ⟨rfl, rfl⟩ := Prod.mk.inj hk
  have hfits : answerFits a r = true := by
    cases a with
    | data bytes => simpa [answerFits, ReadAnswer.hasSize] using ha
    | error => rfl
  simp [State.completeRead, State.live, hd, hin, hf, hfits, State.completion, State.portEnd_eq]

section Completions

variable {s : State} {c : Chan} {epoch : BitVec 8} {a : ReadAnswer} {size occ offset n : Nat} {format : SampleFormat}

/-- A fetch or sample completion of the current epoch reaches its requester (R39). -/
theorem State.completeRead_current {k : Transfer} {f : State → State} (handle : Transfer → Option (State → State))
    (h : s.carriesSize k n) (ha : a.hasSize n = true) (he : s.chans[c].fetch.epoch = epoch)
    (hf : handle k = some (underEpoch c epoch f)) :
    s.completeRead a handle = State.portDone (f { s with port := s.port.ended [] }) := by
  rw [State.completeRead_carried handle h ha hf, underEpoch, if_pos he]

/-- A segment entry read of the current epoch completes (R27, R28, R39). -/
theorem exec_segmentEntryReadComplete (h : s.carriesSize (.segmentEntryRead c epoch) size)
    (he : s.chans[c].fetch.epoch = epoch) (ha : a.hasSize size = true) :
    exec (.segmentEntryReadComplete a) s
      = .next (State.portDone (State.entryReadDone { s with port := s.port.ended [] } c (answerData a))) := by
  change execSegmentEntryReadComplete a s = _
  rw [execSegmentEntryReadComplete, State.completeRead_current _ h ha he rfl]

/-- A stream request of the current epoch completes (R39, R53). -/
theorem exec_streamRequestComplete (h : s.carriesSize (.streamRequest c epoch n format) size)
    (he : s.chans[c].fetch.epoch = epoch) (ha : a.hasSize size = true) :
    exec (.streamRequestComplete a) s
      = .next (State.portDone (State.streamDone { s with port := s.port.ended [] } c format n (answerData a))) := by
  change execStreamRequestComplete a s = _
  rw [execStreamRequestComplete, State.completeRead_current _ h ha he rfl]

/-- A bank load of the current epoch completes (R39, R57). -/
theorem exec_bankLoadComplete (h : s.carriesSize (.bankLoad c epoch occ offset n format) size)
    (he : s.chans[c].fetch.epoch = epoch) (ha : a.hasSize size = true) :
    exec (.bankLoadComplete a) s
      = .next (State.portDone (State.bankDone { s with port := s.port.ended [] } c occ format n (answerData a))) := by
  change execBankLoadComplete a s = _
  rw [execBankLoadComplete, State.completeRead_current _ h ha he rfl]

end Completions

theorem ReadAnswer.hasSize_data {bytes : List Byte} {n : Nat} (h : bytes.length = n) : (ReadAnswer.data bytes).hasSize n = true := by
  simp [ReadAnswer.hasSize, h]

/-! ## The data feeder (R32, R52, R57) -/

section Feeder

variable {s : State} {c : Chan} {ctx : StepContext} {pass offset : Nat}

/-- A sample request of the channel's epoch waits, or is in flight and no RESET has orphaned it (R32). -/
theorem State.sampleOut_iff (s : State) (c : Chan) :
    s.sampleOut c = true ↔ (∃ r ∈ s.port.waiting, r.kind.isSampleOf c s.chans[c].fetch.epoch = true)
      ∨ s.port.discard = false ∧ ∃ r ∈ s.port.inFlight, r.kind.isSampleOf c s.chans[c].fetch.epoch = true := by
  cases h : s.port.inFlight <;> simp [State.sampleOut, h]

/-- The data feeder does nothing while a sample request stands (R32, R52, R57). -/
theorem State.feed_busy (h : s.sampleOut c = true) : s.feed c = s := by
  unfold State.feed
  dsimp only
  split
  · exact if_pos h
  · rfl

/-- The data feeder does nothing with the cursor on no step (R32). -/
theorem State.feed_offStep (h : ∀ ctx pass offset, s.chans[c].fetch.data ≠ some (.step ctx pass offset)) : s.feed c = s := by
  unfold State.feed
  dsimp only
  split
  · rename_i hd; exact (h _ _ _ hd).elim
  · rfl

/-- What the data feeder does with the cursor on a step and no sample request standing (R52, R57). -/
theorem State.feed_onStep {n : Nat} (ho : s.sampleOut c = false) (hd : s.chans[c].fetch.data = some (.step ctx pass offset))
    (hn : n = min 64 (ctx.wEff - offset)) :
    s.feed c =
      let moved := s.modFetch c fun f => f.moveData (f.cursorStep ctx pass offset n)
      if ctx.resident then
        moved.raise (readOf (.bankLoad c s.chans[c].fetch.epoch ctx.occ offset n ctx.format) (ctx.sampleAddr offset)
          (ctx.format.bytes * n))
      else if s.chans[c].pool.queue.length + s.chans[c].pool.reserve + n ≤ (s.settings c).capacity then
        State.raise (moved.modPool c fun p => { p with reserve := n })
          (readOf (.streamRequest c s.chans[c].fetch.epoch n ctx.format) (ctx.sampleAddr offset) (ctx.format.bytes * n))
      else s := by
  subst hn
  unfold State.feed
  simp only [hd, ho]
  rfl

/-- Where the cursor stands after `n` samples of a step, written out (R32; log 40). -/
theorem Fetch.cursorStep_eq (f : Fetch) (ctx : StepContext) (pass offset n : Nat) :
    f.cursorStep ctx pass offset n =
      if offset + n < ctx.wEff then some (.step ctx pass (offset + n))
      else if ctx.resident = false ∧ pass < ctx.body.rep then some (.step ctx (pass + 1) 0)
      else match (f.owed.map WindowEntry.step ++ f.window).find? fun e => decide (ctx.occ < e.occ) with
        | some (.step later) => some (.step later 1 0)
        | some (.invalid occ _ _) => some (.invalid occ)
        | none => none := by
  unfold Fetch.cursorStep Fetch.cursorAfter Fetch.dataOrder
  refine ite_congr rfl (fun _ => rfl) fun _ => ite_congr rfl (fun _ => rfl) fun _ => ?_
  cases (f.owed.map WindowEntry.step ++ f.window).find? fun e => decide (ctx.occ < e.occ) with
  | none => rfl
  | some e => cases e <;> rfl

/-- The retired steps kept are those that the cursor has still to reach (log 40). -/
theorem Fetch.moveData_owed (f : Fetch) (d : Option DataCursor) : (f.moveData d).owed = owedBeyond f.owed d := by
  match d with
  | none => rw [f.moveData_none]; rfl
  | some (.invalid occ) => rw [f.moveData_invalid occ]; rfl
  | some (.step e pass offset) => rfl

end Feeder

/-! ## Arrivals (R3, R53, R57) -/

/-- Two bytes, least significant first, as a two's-complement number (R191). -/
theorem signed16_le16 (b : List Byte) (i : Nat) :
    signed16 (le16 b i) = (b.getD (i + 1) 0 ++ b.getD i 0 : BitVec 16).toInt := by
  have hlow := (b.getD i 0).isLt
  have happend : (b.getD (i + 1) 0 ++ b.getD i 0 : BitVec 16).toNat = le16 b i := by
    rw [BitVec.toNat_append, ← Nat.shiftLeft_add_eq_or_of_lt hlow, Nat.shiftLeft_eq, le16, byteAt, byteAt]
    omega
  rw [BitVec.toInt_eq_toNat_cond, happend, signed16]
  split <;> split <;> omega

/-- One byte as a two's-complement number (R191). -/
theorem signed8_byteAt (b : List Byte) (i : Nat) : signed8 (byteAt b i) = (b.getD i 0).toInt := by
  rw [BitVec.toInt_eq_toNat_cond, byteAt, signed8]
  split <;> split <;> omega

theorem Bank.loaded_other {b : Bank} {occ : Nat} (h : b.occ? ≠ some occ) (wEff : Nat) (samples : List Int) :
    b.loaded occ wEff samples = b := by
  cases b with
  | free => rfl
  | loading o l => exact if_neg fun e => h (congrArg some e)
  | held o l => rfl

theorem Bank.loaded_loading (occ wEff : Nat) (held samples : List Int) :
    (Bank.loading occ held).loaded occ wEff samples =
      if wEff ≤ held.length + samples.length then .held occ (held ++ samples) else .loading occ (held ++ samples) := by
  simp [Bank.loaded]

theorem Pool.assigned_iff (p : Pool) (occ : Nat) : p.assigned occ = true ↔ ∃ id, (p.bank id).occ? = some occ := by
  have hbanks : p.assigned occ = true ↔ p.bankA.occ? = some occ ∨ p.bankB.occ? = some occ := by simp [Pool.assigned]
  rw [hbanks]
  constructor
  · rintro (h | h)
    · exact ⟨.a, h⟩
    · exact ⟨.b, h⟩
  · rintro ⟨_ | _, h⟩
    · exact Or.inl h
    · exact Or.inr h

/-- A load for the occurrence joins the one bank assigned to it (R57). -/
theorem Pool.loaded_setBank {p : Pool} {id : BankId} {occ : Nat} (b : Bank) (wEff : Nat) (samples : List Int)
    (hother : ∀ other : BankId, other ≠ id → (p.bank other).occ? ≠ some occ)
    (hb : (p.bank id).loaded occ wEff samples = b) :
    { p with bankA := p.bankA.loaded occ wEff samples, bankB := p.bankB.loaded occ wEff samples } = p.setBank id b := by
  subst hb
  cases id with
  | a => rw [Bank.loaded_other (b := p.bankB) (hother .b (by decide))]; rfl
  | b => rw [Bank.loaded_other (b := p.bankA) (hother .a (by decide))]; rfl

/-- An arrival of the current epoch joins the stream queue, then the feeder is asked (R53). -/
theorem State.streamDone_data (s : State) (c : Chan) (format : SampleFormat) (n : Nat) (bytes : List Byte) (samples : List Int)
    (hs : samples = (List.range n).map (widenSample format bytes)) :
    s.streamDone c format n (some bytes) = State.feed { s with
      chans := s.chans.set c { s.chans[c] with
        pool := { s.chans[c].pool with
          queue := s.chans[c].pool.queue ++ samples.drop s.chans[c].pool.deficit
          deficit := s.chans[c].pool.deficit - n
          reserve := 0 } } } c := by
  have hlen : (widenSamples format n bytes).length = n := by simp [widenSamples]
  subst hs
  simp only [State.streamDone, State.modPool, State.modChan, Pool.arrive, hlen]
  rfl

/-- A load joins the bank assigned to its occurrence, then the feeder is asked (R57). -/
theorem State.bankDone_data {s : State} {c : Chan} {occ n wEff : Nat} {id : BankId} {b : Bank} {held samples : List Int}
    {format : SampleFormat} {bytes : List Byte} (hs : samples = (List.range n).map (widenSample format bytes))
    (hw : s.chans[c].fetch.extentOf occ = some wEff) (hid : s.chans[c].pool.bank id = .loading occ held)
    (hother : ∀ other : BankId, other ≠ id → (s.chans[c].pool.bank other).occ? ≠ some occ)
    (hb : b = if wEff ≤ held.length + n then .held occ (held ++ samples) else .loading occ (held ++ samples)) :
    s.bankDone c occ format n (some bytes) = State.feed { s with
      chans := s.chans.set c { s.chans[c] with pool := s.chans[c].pool.setBank id b } } c := by
  have hassigned : s.chans[c].pool.assigned occ = true := (Pool.assigned_iff _ _).2 ⟨id, by rw [hid]; rfl⟩
  have hload : (s.chans[c].pool.bank id).loaded occ wEff samples = b := by
    rw [hid, Bank.loaded_loading, hb, hs, List.length_map, List.length_range]
  subst hs
  simp only [State.bankDone, hassigned, hw, if_true, State.modPool, State.modChan, widenSamples]
  rw [Pool.loaded_setBank b wEff _ hother hload]

/-- A load whose bank has been released fills nothing; the feeder is asked (R57, R59). -/
theorem State.bankDone_released {s : State} {c : Chan} {occ : Nat} (format : SampleFormat) (n : Nat) (data : Option (List Byte))
    (ha : s.chans[c].pool.bankA.occ? ≠ some occ) (hb : s.chans[c].pool.bankB.occ? ≠ some occ) :
    s.bankDone c occ format n data = s.feed c := by
  have : s.chans[c].pool.assigned occ = false := by simp_all [Pool.assigned]
  exact if_neg (by simpa using this)

/-- The request that a data feeder with its cursor on a step raises, and how it leaves its channel (R52, R57). -/
theorem State.feed_raises {s : State} {c : Chan} {ctx : StepContext} {pass offset n address reserve : Nat}
    {format : SampleFormat} {next : Option DataCursor} {owed : List StepContext} {kind : Transfer}
    (ho : s.sampleOut c = false) (hd : s.chans[c].fetch.data = some (.step ctx pass offset))
    (hn : n = min 64 (ctx.wEff - offset)) (hf : ctx.seg.format = some format)
    (haddr : address = busAddr (ctx.seg.base + (if format = .s16 then 2 else 1) * (ctx.body.windowStart + offset)))
    (hnext : s.chans[c].fetch.cursorStep ctx pass offset n = next) (howed : (s.chans[c].fetch.moveData next).owed = owed)
    (hkind : ctx.resident = true ∧ kind = .bankLoad c s.chans[c].fetch.epoch ctx.occ offset n format
          ∧ reserve = s.chans[c].pool.reserve
        ∨ ctx.resident = false ∧ kind = .streamRequest c s.chans[c].fetch.epoch n format ∧ reserve = n)
    (hroom : ctx.resident = true
      ∨ s.chans[c].pool.queue.length + s.chans[c].pool.reserve + n ≤ (s.settings c).capacity) :
    s.feed c = State.raise { s with
        chans := s.chans.set c { s.chans[c] with
          fetch := { s.chans[c].fetch with data := next, owed := owed }
          pool := { s.chans[c].pool with reserve := reserve } } }
      (readOf kind address ((if format = .s16 then 2 else 1) * n)) := by
  have hformat : ctx.format = format := by simp [StepContext.format, hf]
  have hbytes : (if format = .s16 then 2 else 1) = format.bytes := by cases format <;> rfl
  have hsample : ctx.sampleAddr offset = address := by rw [haddr, hbytes, StepContext.sampleAddr, hformat]
  subst hnext howed
  rw [State.feed_onStep ho hd hn, hbytes, hsample, hformat]
  dsimp only
  rcases hkind with ⟨hr, rfl, rfl⟩ | ⟨hr, rfl, rfl⟩
  · rw [if_pos hr]
    rfl
  · have hfits := hroom.resolve_left (by simp [hr])
    rw [if_neg (by simp [hr]), if_pos hfits]
    congr 1
    simp [State.modPool, State.modFetch, State.modChan, Fetch.moveData]

/-- Settles O35: each clause is what its completion, or the data feeder, does. -/
theorem arrivalsFillQueueAndBanks : Obligations.ArrivalsFillQueueAndBanks := by
  refine ⟨fun b i => ⟨?s16, ?s8⟩, ?stream, ?load, ?released, fun s c f out hf hout => ?feeder⟩
  case s16 => exact signed16_le16 b (2 * i)
  case s8 => exact congrArg (256 * ·) (signed8_byteAt b i)
  case stream =>
    intro c epoch n size f bytes s samples hc he hlen hs
    rw [exec_streamRequestComplete hc he (ReadAnswer.hasSize_data hlen)]
    exact congrArg (Host.Outcome.next ∘ State.portDone) (State.streamDone_data _ c f n bytes samples hs)
  case load =>
    intro c epoch occ offset n size wEff f bytes s samples held id b hc he hlen hs hw hid hother hb
    rw [exec_bankLoadComplete hc he (ReadAnswer.hasSize_data hlen)]
    exact congrArg (Host.Outcome.next ∘ State.portDone) (State.bankDone_data hs hw hid hother hb)
  case released =>
    intro c epoch occ offset n size f a s hc he ha hA hB
    rw [exec_bankLoadComplete hc he ha]
    exact congrArg (Host.Outcome.next ∘ State.portDone) (State.bankDone_released f n _ hA hB)
  case feeder =>
    subst hf
    obtain rfl : out = s.sampleOut c := Bool.eq_iff_iff.2 (hout.trans (s.sampleOut_iff c).symm)
    refine ⟨fun h => h.elim State.feed_busy State.feed_offStep, ?_⟩
    intro ctx pass offset n address format next owed reserve kind ho hd hn hf haddr hnext howed hkind
    have hcursor : s.chans[c].fetch.cursorStep ctx pass offset n = next :=
      (Fetch.cursorStep_eq _ _ _ _ _).trans hnext.symm
    have howe : (s.chans[c].fetch.moveData next).owed = owed := (Fetch.moveData_owed _ _).trans howed.symm
    refine ⟨State.feed_raises ho hd hn hf haddr hcursor howe hkind, fun hr hfull => ?_⟩
    rw [State.feed_onStep ho hd hn, if_neg (by simp [hr]), if_neg (by omega)]

end Sys2Proof.Machine

namespace Sys2Proof.Machine

/-! ## The checks of a step (R20) -/

theorem firstFailing_cons (failed : Bool) (sub : SubCode) (rest : List (Bool × SubCode)) :
    (((failed, sub) :: rest).find? (·.1)).map (·.2) = if failed = true then some sub else (rest.find? (·.1)).map (·.2) := by
  cases failed <;> simp

theorem StepBody.isDecision_iff {b : StepBody} (h : b.entry ≠ none) :
    b.isDecision = true ↔ b.entry ≠ some .immediate ∧ 1 ≤ b.waitTimeout := by
  unfold StepBody.isDecision
  split <;> simp_all

/-- The checks 3 to 11 in their order, each with its condition and its sub-code (R20). -/
theorem firstFailure_eq {s : State} {c : Chan} {slot size wEff : Nat} {b : StepBody} {seg : SegEntry} {map : List (Nat × Nat)}
    {leads : Bool} (hsize : size = (s.settings c).listSize) (hmap : map = s.chans[c].fetch.map)
    (hw : wEff = effectiveLength seg.length b.windowStart b.windowLength) (hleads : leads = s.leadsItself c) :
    firstFailure s c slot b seg =
      if seg.valid = false ∨ seg.format = none then some .segmentVoid
      else if seg.length = 0 then some .segmentEmpty
      else if seg.format = some .s16 ∧ seg.base % 2 = 1 then some .segmentAlign
      else if seg.length ≤ b.windowStart then some .windowRange
      else if b.entry = none ∨ b.nextKind = none ∨ b.markers[0].mode = none ∨ b.markers[1].mode = none
          ∨ b.rep = 0 ∧ b.advance = none then some .field
      else if b.nextKind = some .jump ∧ size ≤ b.jumpTarget
          ∨ b.entry ≠ some .immediate ∧ 1 ≤ b.waitTimeout ∧ size ≤ b.branchTarget then some .targetRange
      else if b.rep = 0 ∧ ¬ (0 < (s.settings c).bankSize ∧ wEff ≤ (s.settings c).bankSize) then some .openStreamed
      else if (b.entry = some .leader ∨ b.rep = 0 ∧ b.advance = some .leader) ∧ leads = true then some .leaderAlone
      else if b.nextKind = some .jump ∧ 2 ≤ b.passes ∧ mapEntry map slot = none ∧ 8 ≤ map.length then some .loopDepth
      else none := by
  subst hsize hmap hw hleads
  unfold firstFailure stepChecks
  simp only [firstFailing_cons]
  refine ite_congr (by simp) (fun _ => rfl) fun _ => ?_
  refine ite_congr (by simp) (fun _ => rfl) fun _ => ?_
  refine ite_congr (by simp) (fun _ => rfl) fun _ => ?_
  refine ite_congr (by simp) (fun _ => rfl) fun _ => ?_
  refine ite_congr (by simp [or_assoc]) (fun _ => rfl) fun hfield => ?_
  have hdecision := StepBody.isDecision_iff fun h => hfield (Or.inl h)
  refine ite_congr (by simp [hdecision, and_assoc]) (fun _ => rfl) fun _ => ?_
  refine ite_congr (by simp [isResident, Nat.pos_iff_ne_zero, imp_iff_not_or]) (fun _ => rfl) fun _ => ?_
  refine ite_congr (by simp) (fun _ => rfl) fun _ => ?_
  exact ite_congr (by simp [and_assoc]) (fun _ => rfl) fun _ => rfl

/-! ## Placing a step (R25, R28, R56) -/

section Placing

variable {s : State} {c : Chan} {ctx : StepContext}

theorem State.readerTo_eq (s : State) (c : Chan) (slot : Nat) :
    s.readerTo c slot =
      if s.chans[c].fetch.window.length < 4 then
        State.raise (s.modFetch c fun f => { f with cursor := slot, reader := .slotRead })
          (readOf (.stepSlotRead c s.chans[c].fetch.epoch false) (s.slotAddr c slot) 64)
      else s.modFetch c fun f => { f with cursor := slot, reader := .windowFull } := by
  simp only [State.readerTo, State.readSlot, State.modFetch_modFetch, Fin.getElem_fin, State.modFetch_same]
  rfl

/-- The reader goes on after a placed step (R28). -/
theorem State.readsOn_eq (s : State) (c : Chan) (ctx : StepContext) :
    s.readsOn c ctx =
      if ctx.decision then s.modFetch c fun f => { f with reader := .decisionPause } else s.readerOn c ctx.successor := by
  unfold State.readsOn State.readerOn
  refine ite_congr rfl (fun _ => rfl) fun _ => ?_
  cases ctx.successor with
  | none => rfl
  | some slot => exact (s.readerTo_eq c slot).symm

/-- The fetch context with a step at the tail of its window and its map change; a data cursor at none moves to it (R25, R31, R32). -/
def Fetch.joined (f : Fetch) (ctx : StepContext) : Fetch :=
  { f with
    window := f.window ++ [.step ctx]
    map := mapAfter ctx.body ctx.slot f.map
    accepted := none
    held := none
    data := if f.data = none then some (.step ctx 1 0) else f.data }

theorem State.modFetch_congr {f g : Fetch → Fetch} (h : f s.chans[c].fetch = g s.chans[c].fetch) :
    s.modFetch c f = s.modFetch c g := by
  simp only [State.modFetch, State.modChan, h]

/-- A context is placed: it joins the window, the data feeder is asked, the reader goes on (R25, R28). -/
theorem State.placeContext_eq (s : State) (c : Chan) (ctx : StepContext) :
    s.placeContext c ctx = ((s.modFetch c (·.joined ctx)).feed c).readsOn c ctx := by
  rw [State.readsOn_eq]
  refine congrArg (fun t : State => if ctx.decision then (t.feed c).modFetch c fun f => { f with reader := .decisionPause }
    else (t.feed c).readerOn c ctx.successor) (State.modFetch_congr ?_)
  unfold Fetch.joined
  cases s.chans[c].fetch.data <;> rfl

/-- A streamed step is placed without a bank (R28). -/
theorem State.placed_none (h : ctx.bank = none) : s.placed c ctx none = s.placeContext c ctx := by
  rw [State.placeContext_eq]
  obtain ⟨⟩ := ctx
  subst h
  rfl

/-- A resident step is placed with its bank LOADING (R28, R56). -/
theorem State.placed_some (s : State) (c : Chan) (ctx : StepContext) (id : BankId) :
    s.placed c ctx (some id) = s.placeResident c ctx id := by
  have hboth : ∀ p, ((s.modPool c fun _ => p).modFetch c (·.joined { ctx with bank := some id })) = { s with
      chans := s.chans.set c { s.chans[c] with
        fetch := s.chans[c].fetch.joined { ctx with bank := some id }
        pool := p } } := fun p => by simp [State.modFetch, State.modPool, State.modChan]
  rw [State.placeResident, State.placeContext_eq]
  cases id <;> exact congrArg (fun t : State => (t.feed c).readsOn c ctx) (hboth _).symm

/-- A resident step is placed with the FREE bank, or held without one (R28, R29, R56). -/
theorem State.admitStep_resident (hr : ctx.resident = true) {free : Option BankId} (hfree : s.chans[c].pool.freeBank = free) :
    s.admitStep c ctx =
      match free with
      | some id => State.placeResident (s.modFetch c fun f => { f with nextOcc := f.nextOcc + 1 }) c ctx id
      | none => s.modFetch c fun f =>
        { f with nextOcc := f.nextOcc + 1, held := some ctx, accepted := none, reader := .bankWait } := by
  rw [Fin.getElem_fin] at hfree
  unfold State.admitStep
  simp only [Fin.getElem_fin, State.modFetch_same, hr, if_true, hfree, State.modFetch_modFetch]
  cases free <;> rfl

/-- A validated step is placed when it needs no bank or takes one (R28, R56). -/
theorem State.admitStep_placed {bank : Option BankId} (hb : ctx.bank = none)
    (h : ctx.resident = false ∧ bank = none
      ∨ ctx.resident = true ∧ s.chans[c].pool.bankA = .free ∧ bank = some .a
      ∨ ctx.resident = true ∧ s.chans[c].pool.bankA ≠ .free ∧ s.chans[c].pool.bankB = .free ∧ bank = some .b) :
    s.admitStep c ctx = State.placed (s.modFetch c fun f => { f with nextOcc := f.nextOcc + 1 }) c ctx bank := by
  rcases h with ⟨hr, rfl⟩ | ⟨hr, hA, rfl⟩ | ⟨hr, hA, hB, rfl⟩
  · rw [State.placed_none hb]
    exact if_neg (by simp [hr])
  · rw [State.placed_some]
    exact State.admitStep_resident hr (if_pos hA)
  · rw [State.placed_some]
    exact State.admitStep_resident hr ((if_neg hA).trans (if_pos hB))

/-- A resident step without a FREE bank is held (R28, R29). -/
theorem State.admitStep_held (hr : ctx.resident = true) (hA : s.chans[c].pool.bankA ≠ .free)
    (hB : s.chans[c].pool.bankB ≠ .free) :
    s.admitStep c ctx = s.modFetch c fun f =>
      { f with nextOcc := f.nextOcc + 1, held := some ctx, accepted := none, reader := .bankWait } :=
  State.admitStep_resident hr ((if_neg hA).trans (if_neg hB))

end Placing

end Sys2Proof.Machine

namespace Sys2Proof.Machine

/-! ## Only channels and the port change -/

/-- The states differ in their channels and the port alone. -/
def State.sameButChannels (s t : State) : Prop := ∃ cs p, t = { s with chans := cs, port := p }

theorem State.sameButChannels_refl (s : State) : s.sameButChannels s := ⟨s.chans, s.port, rfl⟩

theorem State.sameButChannels_trans {s t u : State} (h : s.sameButChannels t) (g : t.sameButChannels u) :
    s.sameButChannels u := by
  obtain ⟨_, _, rfl⟩ := h
  obtain ⟨cs, p, rfl⟩ := g
  exact ⟨cs, p, rfl⟩

/-- A change made for each of a list of channels, one by one, changes channels and the port alone when each one does. -/
theorem State.foldl_sameButChannels (l : List Chan) (f : State → Chan → State)
    (h : ∀ (s : State) (c : Chan), s.sameButChannels (f s c)) (s : State) : s.sameButChannels (l.foldl f s) :=
  List.foldlRecOn l f s.sameButChannels_refl fun t ht c _ => State.sameButChannels_trans ht (h t c)

/-! ## The idle level and the mirrors (R102, R105, R106) -/

theorem State.modLevel_other (s : State) (c d : Chan) (f : Levels → Levels) (h : c ≠ d) :
    (s.modLevel c f).chans[d.val] = s.chans[d.val] := State.modChan_other s c d _ h

theorem State.mirrorIdle_other (s : State) (c m d : Chan) (h : m ≠ d) : (s.mirrorIdle c m).chans[d.val] = s.chans[d.val] :=
  (State.modLevel_other _ m d _ h).trans (State.modLevel_other s m d _ h)

theorem State.mirrorIdle_sameButChannels (s : State) (c m : Chan) : s.sameButChannels (s.mirrorIdle c m) := ⟨_, s.port, rfl⟩

/-- A channel that mirrors none is none of the mirrors that follow it (R104, R105). -/
theorem State.mirrorsIdle_same (s : State) (c : Chan) (h : s.chans[c].play.state ≠ .mirroring) :
    (s.mirrorsIdle c).chans[c.val] = s.chans[c.val] := by
  refine List.foldlRecOn (motive := fun t : State => t.chans[c.val] = s.chans[c.val]) _ _ rfl fun t ht m hm => ?_
  have hne : m ≠ c := by
    rintro rfl
    obtain ⟨-, hmirrors⟩ := List.mem_filter.1 hm
    obtain ⟨hmirroring, -⟩ := (Bool.and_eq_true _ _).mp hmirrors
    exact h (by simpa using hmirroring)
  exact (t.mirrorIdle_other c m c hne).trans ht

theorem State.showIdle_sameButChannels (s : State) (c : Chan) : s.sameButChannels (s.showIdle c) :=
  State.sameButChannels_trans ⟨_, s.port, rfl⟩
    (State.foldl_sameButChannels _ _ (fun t m => t.mirrorIdle_sameButChannels c m) _)

/-- A channel that mirrors none shows its idle level, its markers inactive but for a set latch (R102, R112). -/
theorem State.showIdle_same (s : State) (c : Chan) (h : s.chans[c].play.state ≠ .mirroring) :
    (s.showIdle c).chans[c.val] = { s.chans[c.val] with level := { s.chans[c.val].level with
      lane := s.chans[c.val].level.idle
      idleDue := false
      markers := bothMarkers (·.present false) s.chans[c.val].level.markers } } := by
  refine (State.mirrorsIdle_same _ c ?_).trans (by simp [State.presentMarkers])
  simpa [State.presentMarkers] using h

/-! ## Faults (R89) -/

/-- What a fault does to the state before group membership is seen to (R62, R89, R102, R112). -/
def State.faulted (s : State) (c : Chan) (cause : FaultCause) : State :=
  let s1 := ((s.purge c false).modPlay c fun p => { p with state := .faulted, wait := .none }).modPlay c fun p =>
    { p with pendingStop := .none, faultCause := cause, episode := 0 }
  ((s1.raiseCond c cause.condition).quietMarkers c).showIdle c

theorem State.purge_same (s : State) (c : Chan) :
    (s.purge c false).chans[c.val] = { s.chans[c.val] with fetch := purgedFetch s.chans[c.val].fetch, pool := emptyShare } := by
  have hchan : ∀ (t : State) (f : Fetch → Fetch) (p : Pool → Pool), ((t.modFetch c f).modPool c p).chans[c.val] =
      { t.chans[c.val] with fetch := f t.chans[c.val].fetch, pool := p t.chans[c.val].pool } := fun t f p => by simp
  exact hchan (s.withdraw (Transfer.isFetchOf c)) _ _

theorem State.raiseCond_same (s : State) (c : Chan) (k : Condition) :
    (s.raiseCond c k).chans[c.val] = { s.chans[c.val] with
      perRecord := s.chans[c.val].perRecord ||| k.bit, accumulated := s.chans[c.val].accumulated ||| k.bit } :=
  State.modChan_same s c _

theorem FaultCause.condition_bit (cause : FaultCause) :
    cause.condition.bit = if cause = .memoryError then 0x040 else 0x020 := by
  cases cause <;> simp [FaultCause.condition, Condition.bit]

/-- A one-shot made QUIET and then presented outside RUNNING (R111, R112). -/
theorem OneShot.quiet_present (m : OneShot) : m.quiet.present false = stoppedMarker false m := by
  simp [OneShot.quiet, OneShot.present, OneShot.level, OneShot.active, stoppedMarker]

theorem State.faulted_same (s : State) (c : Chan) (cause : FaultCause) :
    (s.faulted c cause).chans[c.val] = faultedChannel s.chans[c.val] cause := by
  refine (State.showIdle_same _ c ?_).trans ?_
  · simp [State.quietMarkers, State.raiseCond_same]
  · simp [State.quietMarkers, State.raiseCond_same, State.purge_same, FaultCause.condition_bit, faultedChannel,
      quietedChannel, bothMarkers, OneShot.quiet_present]

theorem State.faulted_sameButChannels (s : State) (c : Chan) (cause : FaultCause) : s.sameButChannels (s.faulted c cause) :=
  State.sameButChannels_trans ⟨_, _, rfl⟩ (State.showIdle_sameButChannels _ c)

theorem Ev.setState_st (e : Ev) (c : Chan) (st : ChannelState) (w : WaitReason) :
    (e.setState c st w).st = e.st.modPlay c fun p => { p with state := st, wait := w } := by
  unfold Ev.setState
  dsimp only
  split <;> rfl

theorem Ev.setState_recs (e : Ev) (c : Chan) (st : ChannelState) (w : WaitReason) : (e.setState c st w).recs = e.recs := by
  unfold Ev.setState
  dsimp only
  split <;> rfl

/-- A fault is its episode's close, what it does to its channel with its CHANNEL_FAULT record, and then the group (R76, R89). -/
theorem Ev.faultChannel_core (e : Ev) (c : Chan) (cause : FaultCause) :
    ∃ core : Ev, e.faultChannel c cause = core.groupAfter c (decide ((e.chan c).play.state = .armed))
      ∧ core.st = (e.closeEpisode c).st.faulted c cause
      ∧ core.recs = (e.closeEpisode c).recs ++ [chanRecord c .channelFault ((e.closeEpisode c).chan c).play.sampleCount
          (((e.chan c).head.map WindowEntry.slot).getD (e.chan c).play.startSlot) cause.code cause.subCode] := by
  refine ⟨_, rfl, ?_, ?_⟩
  · simp only [Ev.mod, Ev.modPlay, Ev.addChanRecord, Ev.raiseCond, Ev.addRecord, Ev.setState_st]
    rfl
  · simp [Ev.mod, Ev.modPlay, Ev.addChanRecord, Ev.raiseCond, Ev.addRecord, Ev.setState_st, Ev.setState_recs, Ev.chan,
      chanRecord, State.purge_same]

/-- A channel neither RUNNING nor WAITING has no episode to close (R76, R81). -/
theorem Ev.closeEpisode_none (e : Ev) (c : Chan) (hr : (e.chan c).play.state ≠ .running) (hw : (e.chan c).play.state ≠ .waiting) :
    e.closeEpisode c = e := by
  unfold Ev.closeEpisode
  dsimp only
  split
  · rename_i h; exact (hr h).elim
  · rename_i h _; exact (hw h).elim
  · rfl

theorem Ev.modPlay_sameButChannels (e : Ev) (c : Chan) (f : Play → Play) : e.st.sameButChannels (e.modPlay c f).st :=
  ⟨_, e.st.port, rfl⟩

/-! ## Leaving an ARMED group (R144) -/

theorem members_maskDrop {m : BitVec 8} {c d : Chan} (h : d ∈ members (maskDrop m c)) : d ≠ c := by
  rintro rfl
  simp [members, inMask, maskDrop, maskOf] at h

/-- The channel's membership becomes none (R144). -/
theorem Ev.leaveArmedGroup_same (e : Ev) (c : Chan) :
    (e.leaveArmedGroup c).st.chans[c.val] = { e.st.chans[c.val] with play := { e.st.chans[c.val].play with group := none } } := by
  unfold Ev.leaveArmedGroup
  split
  · rename_i h
    change e.st.chans[c.val].play.group = none at h
    rw [← h]
  · rename_i m h
    refine (State.modPlay_same _ c _).trans ?_
    have : ∀ f : Chan → Play → Play, ((members (maskDrop m.mask c)).foldl (fun e d => Ev.modPlay e d (f d)) e).st.chans[c.val]
        = e.st.chans[c.val] := fun f =>
      List.foldlRecOn (motive := fun e' : Ev => e'.st.chans[c.val] = e.st.chans[c.val]) _ _ rfl fun e' he d hd =>
        (State.modChan_other e'.st d c _ (members_maskDrop hd)).trans he
    rw [Ev.forEach, this]

theorem Ev.leaveArmedGroup_recs (e : Ev) (c : Chan) : (e.leaveArmedGroup c).recs = e.recs := by
  unfold Ev.leaveArmedGroup
  split
  · rfl
  · exact List.foldlRecOn (motive := fun e' : Ev => e'.recs = e.recs) _ _ rfl fun e' he d _ => he

theorem Ev.leaveArmedGroup_sameButChannels (e : Ev) (c : Chan) : e.st.sameButChannels (e.leaveArmedGroup c).st := by
  unfold Ev.leaveArmedGroup
  split
  · exact e.st.sameButChannels_refl
  · refine State.sameButChannels_trans ?_ (Ev.modPlay_sameButChannels _ c _)
    exact List.foldlRecOn (motive := fun e' : Ev => e.st.sameButChannels e'.st) _ _ e.st.sameButChannels_refl
      fun e' he d _ => State.sameButChannels_trans he (e'.modPlay_sameButChannels d _)

/-! ## The end of an event with one record (R165) -/

theorem State.writeStatusBlock_chans (s : State) (c : Chan) : (s.writeStatusBlock c).chans = s.chans := by
  obtain ⟨p, h⟩ := s.raise_port (s.blockWrite c s.chans[c])
  change (s.raise (s.blockWrite c s.chans[c])).chans = _
  rw [h]

theorem State.handOver_chans (s : State) (r : Record) : (s.handOver r).chans = s.chans := by
  obtain ⟨_, _, h⟩ := s.handOver_sameButReport r
  rw [h]

/-- A channel that raised the one record of an event has handed its conditions over with it (R165). -/
theorem Ev.finish_oneRecord {e : Ev} {r : Record} {c : Chan} (hr : e.recs = [r]) (hs : r.source = .channel c) :
    e.finish.chans[c.val] = { e.st.chans[c.val] with perRecord := 0 } := by
  have hblocks : e.finish.chans = (State.handOverAll e.recs e.st).chans :=
    List.foldlRecOn (motive := fun t : State => t.chans = (State.handOverAll e.recs e.st).chans) _ _ rfl
      fun t ht d _ => (t.writeStatusBlock_chans d).trans ht
  simp [hblocks, hr, State.handOverAll, hs, State.handOver_chans]

/-! ## Invalid markers (R27, R32, R89) -/

section Marker

variable {s : State} {c : Chan} {slot : Nat} {sub : SubCode}

/-- The fetch context with an invalid marker at the tail of its window; a data cursor at none moves to it (R27, R32). -/
def Fetch.marked (f : Fetch) (slot : Nat) (sub : SubCode) : Fetch :=
  { f with
    accepted := none
    window := f.window ++ [.invalid f.nextOcc slot sub]
    nextOcc := f.nextOcc + 1
    reader := .blocked
    data := if f.data = none then some (.invalid f.nextOcc) else f.data }

theorem State.placeMarker_eq (s : State) (c : Chan) (slot : Nat) (sub : SubCode) :
    s.placeMarker c slot sub = s.modFetch c (·.marked slot sub) := by
  refine State.modFetch_congr ?_
  unfold Fetch.marked
  cases s.chans[c].fetch.data <;> rfl

theorem State.placeMarker_same (s : State) (c : Chan) (slot : Nat) (sub : SubCode) :
    (s.placeMarker c slot sub).chans[c.val] = { s.chans[c.val] with fetch := s.chans[c.val].fetch.marked slot sub } := by
  rw [State.placeMarker_eq, State.modFetch_same]

/-- An event that raises no record and asks for no status block ends as it stands (R165, R176). -/
theorem Ev.finish_plain {e : Ev} (hr : e.recs = []) (ha : e.asked = 0) : e.finish = e.st := by
  have : members 0#8 = [] := by decide
  simp [Ev.finish, hr, ha, this, State.handOverAll]

/-- An invalid marker faults no channel that is not ARMED, and none whose head of window is a step (R27, R89). -/
theorem State.markInvalid_unfaulted (h : s.chans[c].play.state ≠ .armed ∨ s.chans[c].headStep.isSome = true) :
    s.markInvalid c slot sub = s.modFetch c (·.marked slot sub) := by
  rw [← State.placeMarker_eq]
  unfold State.markInvalid State.event
  dsimp only
  split
  · rename_i hstate hhead
    change (s.placeMarker c slot sub).chans[c.val].play.state = _ at hstate
    change (s.placeMarker c slot sub).chans[c.val].head = _ at hhead
    rw [State.placeMarker_same] at hstate hhead
    rcases h with h | h
    · exact (h hstate).elim
    · rw [Fin.getElem_fin, Channel.headStep, Channel.head] at h
      rw [Channel.head, Fetch.marked, List.head?_append] at hhead
      cases hfirst : s.chans[c.val].fetch.window.head? with
      | none => simp [hfirst] at h
      | some e => cases e <;> simp [hfirst] at h hhead
  · exact Ev.finish_plain rfl rfl

/-- An invalid marker that is the first entry of an ARMED channel is a fault with the marker's sub-code (R27, R89). -/
theorem State.markInvalid_first (ha : s.chans[c].play.state = .armed) (hw : s.chans[c].fetch.window = []) :
    s.markInvalid c slot sub =
      (((Ev.of s false).mod (·.placeMarker c slot sub)).faultChannel c (.stepInvalid sub)).finish := by
  have hstate : (s.placeMarker c slot sub).chans[c.val].play.state = .armed := by rw [State.placeMarker_same]; exact ha
  have hhead : (s.placeMarker c slot sub).chans[c.val].head = some (.invalid s.chans[c.val].fetch.nextOcc slot sub) := by
    rw [State.placeMarker_same, Channel.head, Fetch.marked]
    change s.chans[c.val].fetch.window = [] at hw
    simp [hw]
  unfold State.markInvalid State.event
  dsimp only
  split
  · rename_i h
    cases h.symm.trans hhead
    rfl
  · rename_i hno
    exact (hno _ _ _ hstate hhead).elim

/-- Such a fault leaves its channel FAULTED and purged, out of its group, with its record's conditions handed over (R89, R144,
R165). -/
theorem State.markInvalid_faultedAtFirst (ha : s.chans[c].play.state = .armed) (hw : s.chans[c].fetch.window = []) :
    s.faultedAtFirst (s.markInvalid c slot sub) c sub := by
  let e := (Ev.of s false).mod (·.placeMarker c slot sub)
  have hchan : e.st.chans[c.val] = { s.chans[c.val] with fetch := s.chans[c.val].fetch.marked slot sub } :=
    State.placeMarker_same s c slot sub
  have hstate : (e.chan c).play.state = .armed := (congrArg (·.play.state) hchan).trans ha
  have hclose : e.closeEpisode c = e := e.closeEpisode_none c (by simp [hstate]) (by simp [hstate])
  obtain ⟨core, hcore, hst, hrecs⟩ := e.faultChannel_core c (.stepInvalid sub)
  rw [hclose] at hst hrecs
  have hfault : s.markInvalid c slot sub = (core.leaveArmedGroup c).finish := by
    rw [State.markInvalid_first ha hw, hcore, hstate]
    rfl
  have hsame : (s.markInvalid c slot sub).chans[c] = { faultedChannel e.st.chans[c.val] (.stepInvalid sub) with
      play := { (faultedChannel e.st.chans[c.val] (.stepInvalid sub)).play with group := none }
      perRecord := 0 } := by
    rw [Fin.getElem_fin, hfault, Ev.finish_oneRecord ((core.leaveArmedGroup_recs c).trans hrecs) rfl, Ev.leaveArmedGroup_same, hst,
      State.faulted_same]
  obtain ⟨_, _, hframe⟩ : s.sameButChannels (core.leaveArmedGroup c).st :=
    State.sameButChannels_trans ⟨_, _, rfl⟩
      (State.sameButChannels_trans (hst ▸ State.faulted_sameButChannels e.st c _) (core.leaveArmedGroup_sameButChannels c))
  obtain ⟨hengine, horders, hgens, htrig, -⟩ := (core.leaveArmedGroup c).finish_records
  rw [← hfault, hframe] at hengine horders hgens htrig
  rw [hchan] at hsame
  unfold State.faultedAtFirst
  rw [hsame]
  refine ⟨rfl, rfl, rfl, rfl, rfl, rfl, rfl, rfl, ?_, rfl, hengine, hgens, htrig, horders⟩
  simp [faultedChannel]

/-- The port's next grant leaves a channel faulted at its first entry (R156). -/
theorem State.faultedAtFirst_portDone {t : State} (h : s.faultedAtFirst t c sub) : s.faultedAtFirst t.portDone c sub := by
  obtain ⟨p, hp⟩ := t.portDone_port
  rw [hp]
  exact h

end Marker

end Sys2Proof.Machine

namespace Sys2Proof.Machine

/-! ## The segment entry read (R27, R28) -/

section EntryRead

variable {s : State} {c : Chan} {a : AcceptedSlot} {answer : ReadAnswer} {sub : SubCode}

/-- The answer to a segment entry read refuses the step with a sub-code: it is an error, or its entry fails a check (R20, R27). -/
def State.entryRefused (s : State) (c : Chan) (a : AcceptedSlot) (answer : ReadAnswer) (sub : SubCode) : Prop :=
  answer = .error ∧ sub = .memoryError
    ∨ ∃ bytes, answer = .data bytes ∧ bytes.length = 16
        ∧ firstFailure s c s.chans[c].fetch.cursor a.body (segEntryOf bytes) = some sub

theorem State.entryRefused_hasSize (h : s.entryRefused c a answer sub) : answer.hasSize 16 = true := by
  rcases h with ⟨rfl, -⟩ | ⟨bytes, rfl, hlen, -⟩
  · rfl
  · exact ReadAnswer.hasSize_data hlen

/-- A refused step places an invalid marker with the sub-code (R27). -/
theorem State.entryReadDone_refused (ha : s.chans[c].fetch.accepted = some a) (h : s.entryRefused c a answer sub) :
    s.entryReadDone c (answerData answer) = s.markInvalid c s.chans[c].fetch.cursor sub := by
  rcases h with ⟨rfl, rfl⟩ | ⟨bytes, rfl, -, hfail⟩
  · rfl
  · simp only [State.entryReadDone, answerData, ha, hfail]

/-- A step that passes every check is admitted (R27, R28). -/
theorem State.entryReadDone_passed {bytes : List Byte} (ha : s.chans[c].fetch.accepted = some a)
    (h : firstFailure s c s.chans[c].fetch.cursor a.body (segEntryOf bytes) = none) :
    s.entryReadDone c (some bytes) = s.admitStep c (contextOf s c s.chans[c].fetch.cursor a (segEntryOf bytes)) := by
  simp only [State.entryReadDone, ha, h]

variable {epoch : BitVec 8}

/-- A segment entry read whose answer refuses the step (R27). -/
theorem exec_segmentEntryReadComplete_refused (hc : s.carriesSize (.segmentEntryRead c epoch) 16)
    (he : s.chans[c].fetch.epoch = epoch) (ha : s.chans[c].fetch.accepted = some a) (h : s.entryRefused c a answer sub) :
    exec (.segmentEntryReadComplete answer) s
      = .next (State.portDone (State.markInvalid { s with port := s.port.ended [] } c s.chans[c].fetch.cursor sub)) := by
  rw [exec_segmentEntryReadComplete hc he (State.entryRefused_hasSize h)]
  exact congrArg (Host.Outcome.next ∘ State.portDone)
    (State.entryReadDone_refused (s := { s with port := s.port.ended [] }) ha h)

/-- A segment entry read whose step passes every check (R27, R28). -/
theorem exec_segmentEntryReadComplete_passed {bytes : List Byte} (hc : s.carriesSize (.segmentEntryRead c epoch) 16)
    (he : s.chans[c].fetch.epoch = epoch) (ha : s.chans[c].fetch.accepted = some a) (hlen : bytes.length = 16)
    (h : firstFailure s c s.chans[c].fetch.cursor a.body (segEntryOf bytes) = none) :
    exec (.segmentEntryReadComplete (.data bytes)) s
      = .next (State.portDone (State.admitStep { s with port := s.port.ended [] } c
          (contextOf s c s.chans[c].fetch.cursor a (segEntryOf bytes)))) := by
  rw [exec_segmentEntryReadComplete hc he (ReadAnswer.hasSize_data hlen)]
  exact congrArg (Host.Outcome.next ∘ State.portDone)
    (State.entryReadDone_passed (s := { s with port := s.port.ended [] }) ha h)

end EntryRead

/-- Settles O34: the read's answer refuses the step, or admits its context, which takes a bank, needs none, or is held. -/
theorem entryReadPlacesTheStep : Obligations.EntryReadPlacesTheStep := by
  refine ⟨?checks, ?read⟩
  case checks =>
    intro s c slot size wEff b seg map leads hsize hmap hw hleads
    refine firstFailure_eq hsize hmap hw (hleads.trans ?_)
    unfold State.leadsItself
    cases s.chans[c].play.group <;> rfl
  case read =>
    intro c epoch s f a hcarries hepoch hf haccepted
    subst hf
    refine ⟨fun answer sub hrefused => ⟨fun hunarmed => ?marker, fun harmed hfirst => ?fault⟩, ?passed⟩
    case marker =>
      rw [exec_segmentEntryReadComplete_refused hcarries hepoch haccepted hrefused]
      exact congrArg (Host.Outcome.next ∘ State.portDone)
        (State.markInvalid_unfaulted (s := { s with port := s.port.ended [] }) hunarmed)
    case fault =>
      exact ⟨_, exec_segmentEntryReadComplete_refused hcarries hepoch haccepted hrefused, State.faultedAtFirst_portDone
        (State.markInvalid_faultedAtFirst (s := { s with port := s.port.ended [] }) harmed hfirst)⟩
    case passed =>
      intro bytes seg wEff ctx hlen hseg hpass hw hctx
      subst hseg hw
      obtain rfl : ctx = contextOf s c s.chans[c].fetch.cursor a (segEntryOf bytes) := hctx
      rw [exec_segmentEntryReadComplete_passed hcarries hepoch haccepted hlen hpass]
      refine ⟨fun bank hbank => ?placed, fun hr hA hB => ?held⟩
      case placed =>
        exact congrArg (Host.Outcome.next ∘ State.portDone)
          (State.admitStep_placed (s := { s with port := s.port.ended [] }) rfl hbank)
      case held =>
        exact congrArg (Host.Outcome.next ∘ State.portDone)
          (State.admitStep_held (s := { s with port := s.port.ended [] }) hr hA hB)

end Sys2Proof.Machine

namespace Sys2Proof.Machine

/-! ## Eight values, one per channel -/

@[simp] theorem vec8_get {α : Type} (f : Chan → α) (c : Chan) : (vec8 f)[c.val] = f c := by
  fin_cases c <;> rfl

@[simp] theorem vec4_get {α : Type} (f : Fin 4 → α) (k : Fin 4) : (vec4 f)[k.val] = f k := by
  fin_cases k <;> rfl

/-- Two vectors of channels with the same channels are one. -/
theorem chans_ext {α : Type} {u v : Vector α 8} (h : ∀ c : Chan, u[c.val] = v[c.val]) : u = v :=
  Vector.ext fun i hi => h ⟨i, hi⟩

theorem vec8_self (v : Vector Channel 8) : (vec8 fun c => v[c.val]) = v := chans_ext fun c => vec8_get _ c

/-! ## Power-on and RESET (R45, R160, R189) -/

/-- The completion of a transfer granted before a RESET changes the port alone (R160). -/
theorem exec_completionAfterReset_chans (s : State) : ∃ u, exec .completionAfterReset s = .next u ∧ u.chans = s.chans := by
  refine ⟨_, rfl, ?_⟩
  split
  · obtain ⟨p, hp⟩ := s.portEnd.portDone_port
    change s.portEnd.portDone.chans = s.chans
    rw [hp]
    rfl
  · rfl

/-- Settles O13: power-on and RESET both leave every channel at its values after power-on. -/
theorem resetFetchContexts : Obligations.ResetFetchContexts := by
  have hfetch : ∀ t : State, t.chans = State.reset.chans → ∀ c : Chan, (t.chans[c]'c.isLt).fetch = Fetch.reset := by
    intro t ht c
    rw [ht]
    exact congrArg Channel.fetch (vec8_get _ c)
  rintro s i (rfl | rfl)
  · exact ⟨_, rfl, fun c => ⟨none, 0, [], hfetch _ rfl c⟩, exec_completionAfterReset_chans _⟩
  · exact ⟨_, rfl, fun c => ⟨none, 0, [], hfetch _ rfl c⟩, exec_completionAfterReset_chans _⟩

/-- After power-on every channel has its reset values. -/
theorem State.reset_chan (c : Chan) : State.reset.chans[c]'c.isLt = Channel.reset := vec8_get _ c

theorem State.reset_gen (g : GenIx) : State.reset.gens[g] = Gen.reset := vec4_get _ g

theorem State.reset_line (k : LineIx) : State.reset.trig.lines[k] = TrigLine.reset := vec4_get _ k

/-- After power-on every fetch context is at rest (R22, R45). -/
theorem State.reset_fetchOrdered (c : Chan) : State.reset.fetchOrdered c := by
  have hf : (State.reset.chans[c]'c.isLt).fetch = Fetch.reset := by rw [State.reset_chan]; rfl
  have hp : (State.reset.chans[c]'c.isLt).pool = Pool.reset := by rw [State.reset_chan]; rfl
  have hport : State.reset.port = Port.reset := rfl
  have hlive : State.reset.standingLive = [] := rfl
  unfold State.fetchOrdered
  simp only [hf, hp, hport, hlive]
  simp [Fetch.reset, Pool.reset, Port.reset]

/-- Settles O60: each invariant is met by the values after power-on. -/
theorem invariantsHoldAfterPowerOn : Obligations.InvariantsHoldAfterPowerOn := by
  refine ⟨?report, ?port, ?deficit, ?lanes, ?quiet, ?detail, ?mirrors, ?gens, ?lines, ?fetch⟩
  case report => simp [State.reportInRange, State.reset, ReportUnit.reset]
  case port => exact ⟨rfl, fun _ => rfl⟩
  case deficit => exact fun c => Or.inl (by rw [State.reset_chan]; rfl)
  case lanes => intro c; rw [State.reset_chan]; simp [Channel.reset, Levels.reset, isCode]
  case quiet => exact ⟨fun _ => ⟨fun c => by rw [State.reset_chan]; rfl, Or.inl rfl⟩, fun h => by cases h⟩
  case detail => intro o c h; cases h
  case mirrors => intro c h; rw [State.reset_chan] at h; cases h
  case gens => intro g; rw [State.reset_gen]; simp [Gen.inRange, Gen.reset]
  case lines => exact ⟨fun k => by rw [State.reset_line]; simp [TrigLine.inRange, TrigLine.reset], by decide⟩
  case fetch => exact ⟨State.reset_fetchOrdered, fun h hh => by cases hh⟩

/-! ## Completions of writes (R156, R159) -/

/-- A write's completion is handled, then the port chooses its next grant (R156). -/
theorem State.completeWrite_carried {s : State} {k : Transfer} {f : State → State}
    (handle : Transfer → Option (State → State)) (h : s.carries k) (hf : handle k = some f) :
    s.completeWrite handle = State.portDone (f { s with port := s.port.ended [] }) := by
  obtain ⟨-, hd, hr⟩ := h
  obtain ⟨r, hin, rfl⟩ := Option.map_eq_some_iff.1 hr
  simp [State.completeWrite, State.live, hd, hin, hf, State.completion, State.portEnd_eq]

/-- A record written sets attention pending when the notice mask in force has its kind (R178). -/
theorem State.noticed_eq {s : State} {k : EngineConfig} (h : s.engine.config = some k) (kind : RecordKind) :
    s.noticed kind = { s with report := { s.report with attention := s.report.attention || k.notice.getLsbD kind.code } } := by
  simp only [State.noticed, h]
  cases hk : k.notice.getLsbD kind.code
  · simp
  · simp [State.modReport]

/-- Settles O30: each confirmed write reaches its own handling, which is none or the notice. -/
theorem confirmedWritesNotice : Obligations.ConfirmedWritesNotice := by
  rintro s e rfl
  refine ⟨?retire, ?block, ?word, ?goWord, ?fresh, fun kind k hk => ⟨?overwrite, ?counted⟩⟩
  case retire =>
    rintro ⟨c, h⟩
    refine (congrArg Host.Outcome.next (State.completeWrite_carried _ h rfl)).trans ?_
    rfl
  case block =>
    rintro ⟨c, h⟩
    refine (congrArg Host.Outcome.next (State.completeWrite_carried _ h rfl)).trans ?_
    rfl
  case word =>
    intro h
    refine (congrArg Host.Outcome.next (State.completeWrite_carried _ h rfl)).trans ?_
    rfl
  case goWord =>
    intro h
    refine (congrArg Host.Outcome.next (State.completeWrite_carried _ h rfl)).trans ?_
    rfl
  case fresh =>
    intro kind h
    refine (congrArg Host.Outcome.next (State.completeWrite_carried _ h rfl)).trans ?_
    rfl
  case overwrite =>
    intro h
    refine congrArg Host.Outcome.next ((State.completeWrite_carried _ h rfl).trans ?_)
    exact congrArg State.portDone (State.noticed_eq (s := { s with port := s.port.ended [] }) hk kind)
  case counted =>
    intro h
    refine congrArg Host.Outcome.next ((State.completeWrite_carried _ h rfl).trans ?_)
    exact congrArg State.portDone (State.noticed_eq (s := { s with port := s.port.ended [] }) hk kind)

/-! ## Discarded completions (R39, R153, R159, R160; log 1) -/

section Discarded

variable {s : State} {a : ReadAnswer} {w : WriteAnswer}

/-- A fetch or sample completion of another epoch ends its transfer and does no more (R39). -/
theorem State.completeRead_stale {k : Transfer} {n : Nat} {c : Chan} {epoch : BitVec 8} {f : State → State}
    (handle : Transfer → Option (State → State)) (h : s.carriesSize k n) (ha : a.hasSize n = true)
    (he : (s.chans[c]'c.isLt).fetch.epoch ≠ epoch) (hf : handle k = some (underEpoch c epoch f)) :
    s.completeRead a handle = State.portDone { s with port := s.port.ended [] } := by
  rw [State.completeRead_carried handle h ha hf, underEpoch, if_neg he]

/-- The transfer in flight that no RESET has orphaned (R160). -/
theorem State.live_eq_some {r : Request} (h : s.live = some r) : s.port.discard = false ∧ s.port.inFlight = some r := by
  unfold State.live at h
  split at h
  · cases h
  · exact ⟨by simp_all, h⟩

/-- A read's completion is ignored where its transfer is not in flight or its data has another size (log 1). -/
theorem State.completeRead_ignored {handle : Transfer → Option (State → State)}
    (h : ∀ r, s.live = some r → handle r.kind ≠ none → a.hasSize r.size = false) : s.completeRead a handle = s := by
  unfold State.completeRead
  split
  · rfl
  · rename_i r hr
    split
    · rfl
    · rename_i f hf
      have hsize := h r hr (by simp [hf])
      refine if_neg ?_
      cases a with
      | data bytes => simpa [answerFits, ReadAnswer.hasSize] using hsize
      | error => cases hsize

/-- A write's completion is ignored where its transfer is not in flight (log 1). -/
theorem State.completeWrite_ignored {handle : Transfer → Option (State → State)}
    (h : ∀ r, s.live = some r → handle r.kind = none) : s.completeWrite handle = s := by
  unfold State.completeWrite
  split
  · rfl
  · rename_i r hr
    rw [h r hr]

/-- The transfer is a read (R155). -/
def Transfer.isRead : Transfer → Bool
  | .streamRequest _ _ _ _ => true
  | .bankLoad _ _ _ _ _ _ => true
  | .stepSlotRead _ _ _ => true
  | .segmentEntryRead _ _ => true
  | .orderSlotRead => true
  | .configReadGo => true
  | .configReadOrder => true
  | .reportsTakenRead => true
  | _ => false

/-- The handling that a completion command looks for is that of its own transfers: another transfer's completion is ignored, and
so is a read's whose data has another size (log 1). -/
theorem exec_completion_ignored (k : Transfer)
    (h : ∀ r, s.live = some r → r.kind.completion a w = k.completion a w → k.isRead = true ∧ a.hasSize r.size = false) :
    exec (k.completion a w) s = .next s := by
  have read : ∀ handle : Transfer → Option (State → State),
      (∀ j, handle j ≠ none → j.completion a w = k.completion a w) → s.completeRead a handle = s :=
    fun handle hj => State.completeRead_ignored fun r hr hne => (h r hr (hj r.kind hne)).2
  have write : ∀ handle : Transfer → Option (State → State), k.isRead = false →
      (∀ j, handle j ≠ none → j.completion a w = k.completion a w) → s.completeWrite handle = s :=
    fun handle hk hj => State.completeWrite_ignored fun r hr => by
      by_contra hne
      exact absurd (h r hr (hj r.kind hne)).1 (by simp [hk])
  cases k with
  | streamRequest | bankLoad | stepSlotRead | segmentEntryRead | orderSlotRead | configReadGo | configReadOrder
      | reportsTakenRead =>
    refine congrArg _ (read _ fun j hj => ?_)
    cases j <;> simp [Transfer.completion] at hj ⊢
  | snapshotWrite | orderResult | orderHead | slotRetire | reportRecord | reportsWritten | statusBlock | engineConditions =>
    refine congrArg _ (write _ rfl fun j hj => ?_)
    cases j <;> simp [Transfer.completion] at hj ⊢

/-- Every completion command is the one of some transfer. -/
theorem mem_completions {i : Instr}
    (hi : i ∈ [.goConfigReadComplete a, .orderSlotReadComplete a, .configureReadComplete a, .stepSlotReadComplete a,
        .segmentEntryReadComplete a, .streamRequestComplete a, .bankLoadComplete a, .reportsTakenReadComplete a]
      ++ [.snapshotWriteComplete w, .orderResultWriteComplete w, .orderHeadWriteComplete w, .slotRetireWriteComplete w,
        .reportRecordWriteComplete w, .reportsWrittenWriteComplete w, .statusBlockWriteComplete w,
        .engineConditionsWriteComplete w]) :
    ∃ k : Transfer, i = k.completion a w := by
  revert i
  simp only [List.cons_append, List.nil_append, List.forall_mem_cons]
  exact ⟨⟨.configReadGo, rfl⟩, ⟨.orderSlotRead, rfl⟩, ⟨.configReadOrder, rfl⟩, ⟨.stepSlotRead 0 0 false, rfl⟩,
    ⟨.segmentEntryRead 0 0, rfl⟩, ⟨.streamRequest 0 0 0 .s8, rfl⟩, ⟨.bankLoad 0 0 0 0 0 .s8, rfl⟩, ⟨.reportsTakenRead, rfl⟩,
    ⟨.snapshotWrite, rfl⟩, ⟨.orderResult, rfl⟩, ⟨.orderHead, rfl⟩, ⟨.slotRetire 0, rfl⟩, ⟨.reportRecord .launch false, rfl⟩,
    ⟨.reportsWritten none, rfl⟩, ⟨.statusBlock 0, rfl⟩, ⟨.engineConditions, rfl⟩, fun _ h => (List.not_mem_nil h).elim⟩

/-- The completion commands that carry a read's answer are those of the reads. -/
theorem Transfer.isRead_of_completion {k : Transfer}
    (h : k.completion a w ∈ [.goConfigReadComplete a, .orderSlotReadComplete a, .configureReadComplete a,
      .stepSlotReadComplete a, .segmentEntryReadComplete a, .streamRequestComplete a, .bankLoadComplete a,
      .reportsTakenReadComplete a]) : k.isRead = true := by
  cases k with
  | streamRequest | bankLoad | stepSlotRead | segmentEntryRead | orderSlotRead | configReadGo | configReadOrder
      | reportsTakenRead => rfl
  | _ => simp [Transfer.completion] at h

end Discarded

/-- Settles O32: a handling that is discarded leaves the port's completion; a command whose transfer is not in flight finds none. -/
theorem discardedCompletionsChangeThePortAlone : Obligations.DiscardedCompletionsChangeThePortAlone := by
  rintro a w s e rfl
  refine ⟨fun c epoch reread n occ offset size f he ha => ⟨?slot, ?entry, ?stream, ?load⟩, ?order, ?config, ?snap, ?reset,
    ?other, ?none⟩
  case slot => exact fun h => congrArg Host.Outcome.next (State.completeRead_stale _ h ha he rfl)
  case entry => exact fun h => congrArg Host.Outcome.next (State.completeRead_stale _ h ha he rfl)
  case stream => exact fun h => congrArg Host.Outcome.next (State.completeRead_stale _ h ha he rfl)
  case load => exact fun h => congrArg Host.Outcome.next (State.completeRead_stale _ h ha he rfl)
  case order =>
    intro ho ha h
    refine congrArg Host.Outcome.next ((State.completeRead_carried _ h ha rfl).trans ?_)
    exact congrArg State.portDone (if_neg ho)
  case config =>
    intro ho ha h
    refine congrArg Host.Outcome.next ((State.completeRead_carried _ h ha rfl).trans ?_)
    exact congrArg State.portDone (if_neg (by simp [State.executing, ho]))
  case snap =>
    intro ho h
    refine congrArg Host.Outcome.next ((State.completeWrite_carried _ h rfl).trans ?_)
    exact congrArg State.portDone (if_neg (by simp [State.executing, ho]))
  case reset =>
    intro hd hf
    refine congrArg Host.Outcome.next ((if_pos (by simp [hd, hf])).trans ?_)
    exact congrArg State.portDone s.portEnd_eq
  case other =>
    rintro i reads rfl hi hother
    obtain ⟨k, rfl⟩ := mem_completions hi
    refine exec_completion_ignored k fun r hr hk => ?_
    obtain ⟨hd, hf⟩ := State.live_eq_some hr
    obtain ⟨hreads, hsize⟩ := hother r hf hd hk
    exact ⟨Transfer.isRead_of_completion hreads, hsize⟩
  case none =>
    intro h
    exact congrArg Host.Outcome.next (if_neg (by rcases h with h | h <;> simp [h]))


/-! ## Requests raised at an IDLE or a BUSY port (R156) -/

theorem State.raiseRead_after {s : State} (kind : Transfer) (addr size : Nat) (h : s.port.idleEmpty)
    (hk : kind.fixedClass = true) : s.raiseRead kind addr size = { s with port := s.port.after [readOf kind addr size] } :=
  s.raise_after _ h hk

theorem State.raiseWrite_after {s : State} (kind : Transfer) (addr : Nat) (data : List Byte) (h : s.port.idleEmpty)
    (hk : kind.fixedClass = true) : s.raiseWrite kind addr data = { s with port := s.port.after [writeOf kind addr data] } :=
  s.raise_after _ h hk

/-! ## Reads of a step slot (R26, R36, R37, R38) -/

/-- The read of a slot, at an IDLE or a BUSY port (R26, R156). -/
theorem State.readSlot_after {s : State} (h : s.port.idleEmpty) (c : Chan) (reread : Bool) :
    s.readSlot c reread = { s with
      chans := s.chans.set c { s.chans[c]'c.isLt with fetch := { (s.chans[c]'c.isLt).fetch with reader := .slotRead } }
      port := s.port.after [readOf (.stepSlotRead c (s.chans[c]'c.isLt).fetch.epoch reread) (s.slotAddr c (s.chans[c]'c.isLt).fetch.cursor) 64] } :=
  State.raise_after (s.modFetch c fun f => { f with reader := .slotRead }) _ h rfl

/-- While the requester of the transfer in flight handles its completion the port is BUSY, and requests wait (R156). -/
theorem State.carriesSize.busy {s : State} {k : Transfer} {n : Nat} (h : s.carriesSize k n) : s.port.busy = true := h.1

theorem Port.ended_idleEmpty {p : Port} (h : p.busy = true) (l : List Request) : (p.ended l).idleEmpty := by
  intro hb
  simp [Port.ended, h] at hb

theorem Port.ended_after {p : Port} (h : p.busy = true) (l m : List Request) :
    (p.ended l).after m = p.ended (l ++ m) := by
  cases m with
  | nil => simp [Port.after]
  | cons r m => simp [Port.after, Port.ended, h]

/-- The poll value in force, 1 to 63 taken as 64 (R38). -/
theorem frontierPollValue_eq (v : Nat) : frontierPollValue v = if v = 0 then 0 else if v < 64 then 64 else v := by
  unfold frontierPollValue
  split <;> [rfl; (split <;> omega)]

theorem State.pollDue_iff (s : State) (c : Chan) :
    s.pollDue c = true ↔ (s.chans[c]'c.isLt).fetch.reader = .atFrontier ∧ (s.chans[c]'c.isLt).play.state.counts = true
      ∧ frontierPollValue (s.settings c).frontierPoll ≠ 0
      ∧ frontierPollValue (s.settings c).frontierPoll ≤ (s.chans[c]'c.isLt).fetch.poll := by
  simp [State.pollDue, and_assoc, Nat.pos_iff_ne_zero]

/-- Settles O45: each command acts when its count is due, by its own operation, and not otherwise. -/
theorem pollsAndMarkerCountsComeDue : Obligations.PollsAndMarkerCountsComeDue := by
  rintro c m s n o hport rfl rfl
  rw [← frontierPollValue_eq]
  refine ⟨?poll, ?noPoll, ?delay, ?noDelay, ?width, ?noWidth⟩
  case poll =>
    intro hr hc hn hp
    refine congrArg Host.Outcome.next ((if_pos ((s.pollDue_iff c).2 ⟨hr, hc, hn, hp⟩)).trans ?_)
    exact State.readSlot_after hport c true
  case noPoll =>
    intro h
    refine congrArg Host.Outcome.next (if_neg fun hdue => ?_)
    obtain ⟨hr, hc, hn, hp⟩ := (s.pollDue_iff c).1 hdue
    rcases h with h | h | h | h
    · exact h hr
    · exact Bool.false_ne_true (h.symm.trans hc)
    · exact hn h
    · omega
  case delay => exact fun hp hd => congrArg Host.Outcome.next (if_pos ⟨hp, hd⟩)
  case noDelay => exact fun h => congrArg Host.Outcome.next (if_neg fun hdue => h.elim (· hdue.1) (· hdue.2))
  case width => exact fun hp hd => congrArg Host.Outcome.next (if_pos ⟨hp, hd⟩)
  case noWidth => exact fun h => congrArg Host.Outcome.next (if_neg fun hdue => h.elim (· hdue.1) (· hdue.2))

/-! ## The step slot read (R27, R36) -/

section SlotRead

variable {s : State} {c : Chan} {epoch : BitVec 8} {reread : Bool} {size : Nat} {a : ReadAnswer}

/-- A slot read of the current epoch completes (R27, R36, R39). -/
theorem exec_stepSlotReadComplete (h : s.carriesSize (.stepSlotRead c epoch reread) size)
    (he : (s.chans[c]'c.isLt).fetch.epoch = epoch) (ha : a.hasSize size = true) :
    exec (.stepSlotReadComplete a) s
      = .next (State.portDone (State.slotReadDone { s with port := s.port.ended [] } c (answerData a))) := by
  change execStepSlotReadComplete a s = _
  rw [execStepSlotReadComplete, State.completeRead_current _ h ha he rfl]

/-- A slot that is not ready sets the frontier flag; under nudge pending it is read again at once (R36). -/
theorem State.slotReadDone_notReady {bytes : List Byte} (h : (slotBracket bytes).accepted = false) :
    s.slotReadDone c (some bytes) =
      let waits := s.modFetch c fun f => { f with nudge := false, frontier := true, reader := .atFrontier, poll := 0 }
      if (s.chans[c]'c.isLt).fetch.nudge then waits.reread c else waits := by
  simp only [State.slotReadDone, h, State.slotNotReady, State.modFetch_modFetch]
  rfl

/-- An accepted slot is followed by the read of its segment's entry, where the table has it (R27). -/
theorem State.slotReadDone_accepted {bytes : List Byte} (h : (slotBracket bytes).accepted = true)
    (hseg : (stepBodyOf bytes).segment < s.segTable.2) :
    s.slotReadDone c (some bytes) = State.raiseRead
      (s.modFetch c fun f => { f with
        nudge := false
        frontier := false
        accepted := some ⟨(slotBracket bytes).headEdition, (slotBracket bytes).kind, stepBodyOf bytes⟩
        reader := .entryRead })
      (.segmentEntryRead c (s.chans[c]'c.isLt).fetch.epoch) (busAddr (s.segTable.1 + 16 * (stepBodyOf bytes).segment)) 16 := by
  simp only [State.slotReadDone, h, if_true, State.slotAccepted, State.modFetch_modFetch]
  refine (if_neg (Nat.not_le.2 hseg)).trans ?_
  simp only [Fin.getElem_fin, State.modFetch_same]
  rfl

/-- The answer to a slot read refuses the slot with a sub-code: it is an error, or its segment is outside the table (R27). -/
def State.slotRefused (s : State) (answer : ReadAnswer) (sub : SubCode) : Prop :=
  answer = .error ∧ sub = .memoryError
    ∨ ∃ bytes, answer = .data bytes ∧ bytes.length = 64 ∧ (slotBracket bytes).accepted = true
        ∧ s.segTable.2 ≤ (stepBodyOf bytes).segment ∧ sub = .segmentRange

theorem State.slotRefused_hasSize {sub : SubCode} (h : s.slotRefused a sub) : a.hasSize 64 = true := by
  rcases h with ⟨rfl, -⟩ | ⟨bytes, rfl, hlen, -⟩
  · rfl
  · exact ReadAnswer.hasSize_data hlen

/-- A refused slot leaves an invalid marker under the cursor, the frontier flag and nudge pending clear (R27). -/
theorem State.slotReadDone_refused {sub : SubCode} (h : s.slotRefused a sub) :
    ∃ accepted, s.slotReadDone c (answerData a) =
      (s.modFetch c fun f => { f with nudge := false, frontier := false, accepted := accepted }).markInvalid c
        (s.chans[c]'c.isLt).fetch.cursor sub := by
  rcases h with ⟨rfl, rfl⟩ | ⟨bytes, rfl, -, hok, hseg, rfl⟩
  · refine ⟨(s.chans[c]'c.isLt).fetch.accepted, ?_⟩
    simp only [State.slotReadDone, answerData, State.modFetch_modFetch, Fin.getElem_fin, State.modFetch_same]
    exact congrArg (State.markInvalid · c _ _) (State.modFetch_congr rfl)
  · refine ⟨some ⟨(slotBracket bytes).headEdition, (slotBracket bytes).kind, stepBodyOf bytes⟩, ?_⟩
    simp only [State.slotReadDone, answerData, hok, if_true, State.slotAccepted, State.modFetch_modFetch]
    refine (if_pos hseg).trans ?_
    simp only [Fin.getElem_fin, State.modFetch_same]
    rfl

/-- A fault at the first entry says nothing of what a purge overwrites (R40). -/
theorem State.faultedAtFirst_of_modFetch {f : Fetch → Fetch} {t : State} {sub : SubCode}
    (h : (s.modFetch c f).faultedAtFirst t c sub) (hf : ∀ x, purgedFetch (f x) = purgedFetch x) : s.faultedAtFirst t c sub := by
  have hpurged : ∀ x, { purgedFetch (f x) with nextOcc := (f x).nextOcc + 1 } = { purgedFetch x with nextOcc := x.nextOcc + 1 } :=
    fun x => by
      have hocc : (purgedFetch (f x)).nextOcc = (purgedFetch x).nextOcc := by rw [hf]
      change (f x).nextOcc = x.nextOcc at hocc
      rw [hf, hocc]
  unfold State.faultedAtFirst at h ⊢
  simp only [Fin.getElem_fin, State.modFetch_same] at h
  rw [hpurged] at h
  exact h

end SlotRead

/-- Settles O33: the answer finds the slot not ready, accepted, or refused. -/
theorem slotReadActsOnItsBracket : Obligations.SlotReadActsOnItsBracket := by
  rintro c epoch reread s f hc he rfl
  have hidle : (s.port.ended []).idleEmpty := Port.ended_idleEmpty hc.busy []
  have hafter : ∀ r, (s.port.ended []).after [r] = s.port.ended [r] := fun r => Port.ended_after hc.busy [] [r]
  refine ⟨fun bytes hlen => ⟨fun hno hn => ?waits, fun hno hn => ?rereads, fun a hok ha hseg => ?entry⟩,
    fun answer sub hrefused => ⟨fun hunarmed => ?marker, fun harmed hfirst => ?fault⟩⟩
  case waits =>
    rw [exec_stepSlotReadComplete hc he (ReadAnswer.hasSize_data hlen)]
    exact congrArg (Host.Outcome.next ∘ State.portDone) ((State.slotReadDone_notReady hno).trans (if_neg (by simpa using hn)))
  case rereads =>
    rw [exec_stepSlotReadComplete hc he (ReadAnswer.hasSize_data hlen)]
    refine congrArg (Host.Outcome.next ∘ State.portDone) ((State.slotReadDone_notReady hno).trans ((if_pos hn).trans ?_))
    refine (State.readSlot_after hidle c true).trans ?_
    simp only [State.modFetch_port, hafter]
    subst he
    simp [State.modFetch, State.modChan]
    rfl
  case entry =>
    subst ha he
    rw [exec_stepSlotReadComplete hc rfl (ReadAnswer.hasSize_data hlen)]
    refine congrArg (Host.Outcome.next ∘ State.portDone)
      (Eq.trans (State.slotReadDone_accepted (s := { s with port := s.port.ended [] }) hok hseg) ?_)
    refine Eq.trans (State.raiseRead_after _ _ _ hidle rfl) ?_
    rw [State.modFetch_port, hafter]
    rfl
  case marker =>
    obtain ⟨accepted, hdone⟩ := State.slotReadDone_refused (s := { s with port := s.port.ended [] }) (c := c) hrefused
    rw [exec_stepSlotReadComplete hc he (State.slotRefused_hasSize hrefused), hdone]
    refine congrArg (Host.Outcome.next ∘ State.portDone) ((State.markInvalid_unfaulted ?_).trans ?_)
    · rw [Fin.getElem_fin, State.modFetch_same]
      exact hunarmed
    · rw [State.modFetch_modFetch]
      rfl
  case fault =>
    obtain ⟨accepted, hdone⟩ := State.slotReadDone_refused (s := { s with port := s.port.ended [] }) (c := c) hrefused
    refine ⟨_, exec_stepSlotReadComplete hc he (State.slotRefused_hasSize hrefused), ?_⟩
    rw [hdone]
    have hmarked := State.markInvalid_faultedAtFirst (c := c) (slot := (s.chans[c]'c.isLt).fetch.cursor) (sub := sub)
      (s := State.modFetch { s with port := s.port.ended [] } c fun f =>
        { f with nudge := false, frontier := false, accepted := accepted })
      (by rw [Fin.getElem_fin, State.modFetch_same]; exact harmed) (by rw [Fin.getElem_fin, State.modFetch_same]; exact hfirst)
    exact State.faultedAtFirst_portDone 
      (State.faultedAtFirst_of_modFetch (s := { s with port := s.port.ended [] }) hmarked fun _ => rfl)

end Sys2Proof.Machine

namespace Sys2Proof.Machine

/-! ## One change for each of a list of channels -/

/-- The channels of a list in place of those of a state. -/
theorem chans_set_each {u : Vector Channel 8} {g : Chan → Channel} {c : Chan} {l : List Chan} (hc : c ∉ l) :
    (vec8 fun d => if d ∈ l then g d else (u.set c (g c))[d]) = vec8 fun d => if d ∈ c :: l then g d else u[d] := by
  refine chans_ext fun d => ?_
  rw [vec8_get, vec8_get]
  by_cases hd : d = c
  · subst hd
    simp [hc]
  · have hne : c.val ≠ d.val := fun h => hd (Fin.ext h.symm)
    simp [hd, Vector.getElem_set_ne, hne]

/-- A change of one channel and the port, made for each of a list of channels in order: `I` is what the changes keep and need, `g`
the channel after its change, `h` what its change does to the port. -/
theorem foldl_eachChan {step : State → Chan → State} {g : Chan → Channel} {h : Chan → Port → Port} (I : State → Prop)
    {l : List Chan} (hl : l.Nodup) {s : State} (hs : I s) (hI : ∀ t c, c ∈ l → I t → (t.chans[c]'c.isLt) = s.chans[c]'c.isLt → I (step t c))
    (hstep : ∀ t c, c ∈ l → I t → (t.chans[c]'c.isLt) = s.chans[c]'c.isLt →
      step t c = { t with chans := t.chans.set c (g c), port := h c t.port }) :
    l.foldl step s = { s with
      chans := vec8 fun c => if c ∈ l then g c else (s.chans[c]'c.isLt)
      port := l.foldl (fun p c => h c p) s.port } := by
  induction l generalizing s with
  | nil => simp only [List.not_mem_nil, if_false, Fin.getElem_fin, vec8_self, List.foldl_nil]
  | cons c rest ih =>
    obtain ⟨hc, hrest⟩ := List.nodup_cons.1 hl
    have hfirst := hstep s c (List.mem_cons_self ..) hs rfl
    have hnext : I (step s c) := hI s c (List.mem_cons_self ..) hs rfl
    have hkept : ∀ d ∈ rest, (step s c).chans[d]'d.isLt = s.chans[d]'d.isLt := by
      intro d hd
      have hne : c.val ≠ d.val := fun h => hc (Fin.ext h ▸ hd)
      simp [hfirst, Vector.getElem_set_ne, hne]
    rw [List.foldl_cons, ih hrest hnext
      (fun t d hd ht hsame => hI t d (List.mem_cons_of_mem _ hd) ht (hsame.trans (hkept d hd)))
      (fun t d hd ht hsame => hstep t d (List.mem_cons_of_mem _ hd) ht (hsame.trans (hkept d hd))), hfirst]
    simp only [List.foldl_cons, chans_set_each hc]

theorem Port.foldl_after {α : Type} (l : List α) (q : α → List Request) (p : Port) :
    l.foldl (fun p c => p.after (q c)) p = p.after (l.flatMap q) := by
  induction l generalizing p with
  | nil => rfl
  | cons c l ih => simp only [List.foldl_cons, List.flatMap_cons, ih, Port.after_append]

/-- The same within an event, the change raising the records `r` and asking for status blocks by the mask `a`. -/
theorem Ev.forEach_eachChan {f : Ev → Chan → Ev} {g : Chan → Channel} {h : Chan → Port → Port} {r : Chan → List Record}
    {a : Chan → BitVec 8} (I : Ev → Prop) {l : List Chan} (hl : l.Nodup) {e : Ev} (hs : I e)
    (hI : ∀ t c, c ∈ l → I t → (t.st.chans[c]'c.isLt) = e.st.chans[c]'c.isLt → I (f t c))
    (hstep : ∀ t c, c ∈ l → I t → (t.st.chans[c]'c.isLt) = e.st.chans[c]'c.isLt →
      f t c = { t with
        st := { t.st with chans := t.st.chans.set c (g c), port := h c t.st.port }
        recs := t.recs ++ r c
        asked := t.asked ||| a c }) :
    e.forEach l f = { e with
      st := { e.st with
        chans := vec8 fun c => if c ∈ l then g c else (e.st.chans[c]'c.isLt)
        port := l.foldl (fun p c => h c p) e.st.port }
      recs := e.recs ++ l.flatMap r
      asked := l.foldl (fun m c => m ||| a c) e.asked } := by
  unfold Ev.forEach
  induction l generalizing e with
  | nil =>
    simp only [List.not_mem_nil, if_false, Fin.getElem_fin, vec8_self, List.foldl_nil, List.flatMap_nil, List.append_nil]
  | cons c rest ih =>
    obtain ⟨hc, hrest⟩ := List.nodup_cons.1 hl
    have hfirst := hstep e c (List.mem_cons_self ..) hs rfl
    have hnext : I (f e c) := hI e c (List.mem_cons_self ..) hs rfl
    have hkept : ∀ d ∈ rest, (f e c).st.chans[d]'d.isLt = e.st.chans[d]'d.isLt := by
      intro d hd
      have hne : c.val ≠ d.val := fun h => hc (Fin.ext h ▸ hd)
      simp [hfirst, Vector.getElem_set_ne, hne]
    rw [List.foldl_cons, ih hrest hnext
      (fun t d hd ht hsame => hI t d (List.mem_cons_of_mem _ hd) ht (hsame.trans (hkept d hd)))
      (fun t d hd ht hsame => hstep t d (List.mem_cons_of_mem _ hd) ht (hsame.trans (hkept d hd))), hfirst]
    simp only [List.foldl_cons, List.flatMap_cons, List.append_assoc, chans_set_each hc]

/-- A channel's own bit, where it is asked for. -/
theorem ite_maskOf_get (b : Bool) (c d : Chan) : (if b then maskOf c else 0).getLsbD d.val = (decide (d = c) && b) := by
  revert b c d; decide

/-- The mask that a list of channels asks for, one by one. -/
theorem foldl_asked_get (l : List Chan) (p : Chan → Bool) (m : BitVec 8) (d : Chan) :
    (l.foldl (fun m c => m ||| if p c then maskOf c else 0) m).getLsbD d.val = (m.getLsbD d.val || (decide (d ∈ l) && p d)) := by
  induction l generalizing m with
  | nil => simp
  | cons c l ih =>
    rw [List.foldl_cons, ih, BitVec.getLsbD_or, ite_maskOf_get, Bool.or_assoc]
    congr 1
    by_cases hd : d = c
    · subst hd; cases p d <;> simp
    · simp [hd]

/-- The channels that were asked for, in channel order (R176). -/
theorem members_foldl_asked (l : List Chan) (p : Chan → Bool) :
    members (l.foldl (fun m c => m ||| if p c then maskOf c else 0) 0) = allChans.filter fun c => decide (c ∈ l) && p c :=
  List.filter_congr fun c _ => (foldl_asked_get l p 0 c).trans (by simp)

theorem allChans_nodup : allChans.Nodup := by decide

theorem mem_allChans (c : Chan) : c ∈ allChans := by revert c; decide

theorem members_nodup (m : BitVec 8) : (members m).Nodup := allChans_nodup.filter _

@[simp] theorem mem_members {m : BitVec 8} {c : Chan} : c ∈ members m ↔ m.getLsbD c.val = true := by
  simp [members, inMask, mem_allChans]

@[simp] theorem mem_filter_allChans {p : Chan → Bool} {c : Chan} : c ∈ allChans.filter p ↔ p c = true := by
  simp [mem_allChans]

theorem flatMap_ite {α β : Type} (l : List α) (p : α → Prop) [DecidablePred p] (f : α → β) :
    (l.flatMap fun x => if p x then [f x] else []) = (l.filter fun x => decide (p x)).map f := by
  induction l with
  | nil => rfl
  | cons x l ih => by_cases h : p x <;> simp [h, ih]

/-! ## Channel nudges (R37, R190) -/

/-- A channel after a nudge has reached it (R37). -/
def nudgedChannel (ch : Channel) : Channel :=
  match ch.fetch.reader with
  | .atFrontier => { ch with fetch := { ch.fetch with reader := .slotRead } }
  | .slotRead => { ch with fetch := { ch.fetch with nudge := true } }
  | _ => ch

/-- The re-read that a nudge raises at a reader AT_FRONTIER (R37). -/
def State.nudgeReads (s : State) (c : Chan) : List Request :=
  if (s.chans[c]'c.isLt).fetch.reader = .atFrontier then
    [readOf (.stepSlotRead c (s.chans[c]'c.isLt).fetch.epoch true) (s.slotAddr c (s.chans[c]'c.isLt).fetch.cursor) 64]
  else []

theorem chans_set_self (s : State) (c : Chan) : s.chans.set c (s.chans[c]'c.isLt) = s.chans := by simp

theorem State.nudgeChannel_eq {s : State} (h : s.port.idleEmpty) (c : Chan) :
    s.nudgeChannel c = { s with
      chans := s.chans.set c (nudgedChannel (s.chans[c]'c.isLt)), port := s.port.after (s.nudgeReads c) } := by
  have hother (hn : nudgedChannel (s.chans[c]'c.isLt) = s.chans[c]'c.isLt) (hr : s.nudgeReads c = []) (he : s.nudgeChannel c = s) :
      s.nudgeChannel c = { s with
        chans := s.chans.set c (nudgedChannel (s.chans[c]'c.isLt)), port := s.port.after (s.nudgeReads c) } := by
    rw [he, hn, hr, chans_set_self]
    rfl
  cases hreader : (s.chans[c]'c.isLt).fetch.reader with
  | atFrontier =>
    have hreads : s.nudgeReads c =
        [readOf (.stepSlotRead c (s.chans[c]'c.isLt).fetch.epoch true) (s.slotAddr c (s.chans[c]'c.isLt).fetch.cursor) 64] := if_pos hreader
    have hchan : nudgedChannel (s.chans[c]'c.isLt) = { s.chans[c]'c.isLt with fetch := { (s.chans[c]'c.isLt).fetch with reader := .slotRead } } := by
      simp only [nudgedChannel, hreader]
    have hnudge : s.nudgeChannel c = s.readSlot c true := by
      simp only [State.nudgeChannel, hreader, State.reread]
    rw [hnudge, hreads, hchan]
    exact State.readSlot_after h c true
  | slotRead =>
    have hreads : s.nudgeReads c = [] := if_neg (by rw [hreader]; decide)
    have hchan : nudgedChannel (s.chans[c]'c.isLt) = { s.chans[c]'c.isLt with fetch := { (s.chans[c]'c.isLt).fetch with nudge := true } } := by
      simp only [nudgedChannel, hreader]
    have hnudge : s.nudgeChannel c = s.modFetch c fun f => { f with nudge := true } := by
      simp only [State.nudgeChannel, hreader]
    rw [hnudge, hreads, hchan]
    rfl
  | _ =>
    refine hother ?_ (if_neg (by rw [hreader]; decide)) ?_
    · simp only [nudgedChannel, hreader]
    · simp only [State.nudgeChannel, hreader]

/-- Settles O6: while ONLINE each channel of the mask is nudged by its reader; otherwise the latches are held or ignored. -/
theorem channelNudgeReachesTheReaders : Obligations.ChannelNudgeReachesTheReaders := by
  intro mask s hidle
  refine ⟨fun hon => ?online, fun hoff hstart => ?held, fun hoff hstart => ?ignored⟩
  case online =>
    refine congrArg Host.Outcome.next (Eq.trans (if_pos (by simp [State.online, hon])) ?_)
    refine Eq.trans (foldl_eachChan (g := fun c => nudgedChannel (s.chans[c]'c.isLt)) (h := fun c p => p.after (s.nudgeReads c))
      (fun t => t.engine = s.engine ∧ t.port.idleEmpty) (members_nodup mask) ⟨rfl, hidle⟩ ?keeps ?step) ?_
    case keeps =>
      rintro t c - ⟨he, ht⟩ -
      rw [State.nudgeChannel_eq ht]
      exact ⟨he, Port.after_idleEmpty _ _ ht⟩
    case step =>
      rintro t c - ⟨he, ht⟩ hsame
      rw [State.nudgeChannel_eq ht]
      simp only [hsame, State.nudgeReads, State.slotAddr, State.settings, he]
    have hreads : (members mask).flatMap s.nudgeReads =
        (allChans.filter fun c => mask.getLsbD c.val && decide ((s.chans[c]'c.isLt).fetch.reader = .atFrontier)).map fun c =>
          readOf (.stepSlotRead c (s.chans[c]'c.isLt).fetch.epoch true) (s.slotAddr c (s.chans[c]'c.isLt).fetch.cursor) 64 := by
      refine Eq.trans (flatMap_ite _ _ _) (congrArg (List.map _) ?_)
      rw [members, List.filter_filter]
      exact List.filter_congr fun c _ => Bool.and_comm ..
    rw [Port.foldl_after, hreads]
    congr 1
    refine chans_ext fun c => ?_
    simp only [vec8_get, mem_members]
    rfl
  case held =>
    refine congrArg Host.Outcome.next (Eq.trans (if_neg (by simp [State.online, hoff])) (Eq.trans (if_pos hstart) ?_))
    simp [State.modEngine]
  case ignored =>
    exact congrArg Host.Outcome.next (Eq.trans (if_neg (by simp [State.online, hoff])) (if_neg (by simp [hstart])))

end Sys2Proof.Machine

namespace Sys2Proof.Machine

/-! ## One channel and the port

What an operation does to one channel is said of the state with that channel and the port replaced, `s.put c ch p`, so that a chain
of operations reads as one change of a channel and a port. -/

/-- The state with one channel and the port replaced. -/
def State.put (s : State) (c : Chan) (ch : Channel) (p : Port) : State := { s with chans := s.chans.set c ch, port := p }

section Put

variable (s : State) (c d : Chan) (ch ch' : Channel) (p p' : Port)

@[simp] theorem State.put_chan : (s.put c ch p).chans[c.val]'c.isLt = ch := by simp [State.put]

theorem State.put_other {c d : Chan} (h : c ≠ d) : (s.put c ch p).chans[d.val]'d.isLt = s.chans[d.val]'d.isLt := by
  have hval : c.val ≠ d.val := fun e => h (Fin.ext e)
  simp [State.put, Vector.getElem_set_ne, hval]

theorem State.put_get : (s.put c ch p).chans[d.val]'d.isLt = if c = d then ch else (s.chans[d.val]'d.isLt) := by
  split
  · rename_i h; subst h; exact s.put_chan c ch p
  · rename_i h; exact s.put_other ch p h

@[simp] theorem State.put_port : (s.put c ch p).port = p := rfl
@[simp] theorem State.put_engine : (s.put c ch p).engine = s.engine := rfl
@[simp] theorem State.put_orders : (s.put c ch p).orders = s.orders := rfl
@[simp] theorem State.put_gens : (s.put c ch p).gens = s.gens := rfl
@[simp] theorem State.put_trig : (s.put c ch p).trig = s.trig := rfl
@[simp] theorem State.put_report : (s.put c ch p).report = s.report := rfl
@[simp] theorem State.put_pins : (s.put c ch p).pins = s.pins := rfl
@[simp] theorem State.put_refPhase : (s.put c ch p).refPhase = s.refPhase := rfl
@[simp] theorem State.put_freeCount : (s.put c ch p).freeCount = s.freeCount := rfl
@[simp] theorem State.put_pending : (s.put c ch p).pending = s.pending := rfl
@[simp] theorem State.put_settings : (s.put c ch p).settings d = s.settings d := rfl
@[simp] theorem State.put_slotAddr (n : Nat) : (s.put c ch p).slotAddr d n = s.slotAddr d n := rfl
@[simp] theorem State.put_pageAddr (n : Nat) : (s.put c ch p).pageAddr n = s.pageAddr n := rfl
@[simp] theorem State.put_put : (s.put c ch p).put c ch' p' = s.put c ch' p' := by simp [State.put]

@[simp] theorem State.put_self : s.put c (s.chans[c.val]'c.isLt) s.port = s := by simp [State.put]

theorem State.put_sameButChannels : s.sameButChannels (s.put c ch p) := ⟨_, _, rfl⟩

@[simp] theorem State.modChan_put (f : Channel → Channel) : s.modChan c f = s.put c (f (s.chans[c.val]'c.isLt)) s.port := rfl

@[simp] theorem State.modFetch_put (f : Fetch → Fetch) :
    s.modFetch c f = s.put c { s.chans[c.val]'c.isLt with fetch := f (s.chans[c.val]'c.isLt).fetch } s.port := rfl

@[simp] theorem State.modPool_put (f : Pool → Pool) :
    s.modPool c f = s.put c { s.chans[c.val]'c.isLt with pool := f (s.chans[c.val]'c.isLt).pool } s.port := rfl

@[simp] theorem State.modPlay_put (f : Play → Play) :
    s.modPlay c f = s.put c { s.chans[c.val]'c.isLt with play := f (s.chans[c.val]'c.isLt).play } s.port := rfl

@[simp] theorem State.modLevel_put (f : Levels → Levels) :
    s.modLevel c f = s.put c { s.chans[c.val]'c.isLt with level := f (s.chans[c.val]'c.isLt).level } s.port := rfl

/-- A channel with a condition raised, in both its sets (R174). -/
def Channel.raised (ch : Channel) (k : Condition) : Channel :=
  { ch with perRecord := ch.perRecord ||| k.bit, accumulated := ch.accumulated ||| k.bit }

@[simp] theorem State.raiseCond_put (k : Condition) : s.raiseCond c k = s.put c ((s.chans[c.val]'c.isLt).raised k) s.port := rfl

/-- The port with the waiting requests that `f` names withdrawn (R160). -/
def Port.without (p : Port) (f : Transfer → Bool) : Port := { p with waiting := p.waiting.filter fun r => !f r.kind }

@[simp] theorem State.withdraw_put (f : Transfer → Bool) : s.withdraw f = s.put c (s.chans[c.val]'c.isLt) (s.port.without f) := by
  simp [State.put, State.withdraw, Port.without]

/-- The port after a request is raised (R156). -/
def State.raisedPort (r : Request) : Port := (s.raise r).port

theorem State.raise_put (r : Request) : s.raise r = s.put c (s.chans[c.val]'c.isLt) (s.raisedPort r) := by
  obtain ⟨q, hq⟩ := s.raise_port r
  simp [State.raisedPort, hq, State.put]

theorem State.raise_eq (r : Request) : s.raise r = { s with port := s.raisedPort r } := by
  obtain ⟨q, hq⟩ := s.raise_port r
  simp [State.raisedPort, hq]

/-- A request of class 1, 3 or 5 raised at an IDLE or a BUSY port (R156). -/
theorem State.raisedPort_after {s : State} {r : Request} (h : s.port.idleEmpty) (hk : r.kind.fixedClass = true) :
    s.raisedPort r = s.port.after [r] := by
  rw [State.raisedPort, State.raise_after s r h hk]

/-- A purge of a channel (R40, R62). -/
theorem State.purge_put :
    s.purge c false = s.put c { s.chans[c.val]'c.isLt with fetch := purgedFetch (s.chans[c.val]'c.isLt).fetch, pool := emptyShare }
      (s.port.purgedOf c) := by
  simp [State.purge, State.withdraw, State.put, State.modPool, State.modFetch, State.modChan, purgedFetch, Port.purgedOf,
    Transfer.isFetchOf, emptyShare, Pool.reset]

/-- A purge that keeps the loop counters (R35, R40). -/
theorem State.purgeKeeping_put :
    s.purge c true = s.put c { s.chans[c.val]'c.isLt with
        fetch := { purgedFetch (s.chans[c.val]'c.isLt).fetch with map := (s.chans[c.val]'c.isLt).fetch.map }, pool := emptyShare }
      (s.port.purgedOf c) := by
  simp [State.purge, State.withdraw, State.put, State.modPool, State.modFetch, State.modChan, purgedFetch, Port.purgedOf,
    Transfer.isFetchOf, emptyShare, Pool.reset]

/-- The read of the step slot under the reader's cursor (R26). -/
def State.slotRequest (reread : Bool) : Request :=
  readOf (.stepSlotRead c (s.chans[c.val]'c.isLt).fetch.epoch reread) (s.slotAddr c (s.chans[c.val]'c.isLt).fetch.cursor) 64

/-- A channel whose reader is in SLOT_READ (R26). -/
def Channel.reading (ch : Channel) : Channel := { ch with fetch := { ch.fetch with reader := .slotRead } }

theorem State.readSlot_put (reread : Bool) :
    s.readSlot c reread = s.put c (s.chans[c.val]'c.isLt).reading
      ((s.put c (s.chans[c.val]'c.isLt).reading s.port).raisedPort (s.slotRequest c reread)) := by
  have h := (s.put c (s.chans[c.val]'c.isLt).reading s.port).raise_put c (s.slotRequest c reread)
  rw [State.put_put, State.put_chan] at h
  exact h

variable {s} in
/-- The read of a step slot, at an IDLE or a BUSY port (R26, R156). -/
theorem State.readSlot_put_after (h : s.port.idleEmpty) (reread : Bool) :
    s.readSlot c reread = s.put c (s.chans[c.val]'c.isLt).reading (s.port.after [s.slotRequest c reread]) := State.readSlot_after h c reread

/-- The data feeder moves its channel's cursor with the steps owed, and its reserve (R52, R57). -/
def State.fed : Channel := (s.feed c).chans[c.val]'c.isLt

theorem State.feed_put : s.feed c = s.put c (s.fed c) (s.feed c).port := by
  obtain ⟨data, owed, reserve, q, hq⟩ := s.feed_frame c
  rw [State.fed, hq]
  simp [State.put]

/-- The data feeder leaves all of its channel but the data cursor, the steps owed and the reserve (R52). -/
theorem State.fed_eq : ∃ data owed reserve, s.fed c = { s.chans[c.val]'c.isLt with
    fetch := { (s.chans[c.val]'c.isLt).fetch with data := data, owed := owed }
    pool := { (s.chans[c.val]'c.isLt).pool with reserve := reserve } } := by
  obtain ⟨data, owed, reserve, q, hq⟩ := s.feed_frame c
  exact ⟨data, owed, reserve, by simp [State.fed, hq]⟩

@[simp] theorem State.fed_play : (s.fed c).play = (s.chans[c.val]'c.isLt).play := by
  obtain ⟨data, owed, reserve, h⟩ := s.fed_eq c
  rw [h]

@[simp] theorem State.fed_level : (s.fed c).level = (s.chans[c.val]'c.isLt).level := by
  obtain ⟨data, owed, reserve, h⟩ := s.fed_eq c
  rw [h]

end Put

/-! ## What the arbiter looks at (R55, R157) -/

/-- The arbiter's choice depends on the port and on the classes of the transfers alone. -/
theorem State.arbitrate_congr {s t : State} (hp : s.port = t.port) (hc : ∀ k, s.classOf k = t.classOf k) :
    s.arbitrate.port = t.arbitrate.port := by
  have hearliest : ∀ k, s.earliest k = t.earliest k := fun k => by simp only [State.earliest, hp, hc]
  have hrobin : ∀ k q, s.roundRobin k q = t.roundRobin k q := fun k q => by simp only [State.roundRobin, hp, hc]
  have hchoose : s.choose = t.choose := by simp only [State.choose, hearliest, hrobin, hp]
  have hgrant : ∀ r, (s.grant r).port = (t.grant r).port := fun r => by
    unfold State.grant
    rw [hc, hp]
    dsimp only
    split <;> rfl
  unfold State.arbitrate
  rw [hp, hchoose]
  split
  · exact hp
  · split
    · exact hgrant _
    · exact hp

/-- Two channels look alike to the arbiter and the data feeder: their fetch contexts, pool shares and channel states agree. -/
def Channel.alike (a b : Channel) : Prop := a.fetch = b.fetch ∧ a.pool = b.pool ∧ a.play.state = b.play.state

theorem Channel.alike_refl (a : Channel) : a.alike a := ⟨rfl, rfl, rfl⟩

/-- Two states look alike to the arbiter: the same configuration, and channels that look alike. -/
def State.alike (s t : State) : Prop := s.engine.config = t.engine.config ∧ ∀ d : Chan, (s.chans[d.val]'d.isLt).alike (t.chans[d.val]'d.isLt)

theorem State.alike_refl (s : State) : s.alike s := ⟨rfl, fun _ => Channel.alike_refl _⟩

theorem State.alike.settings {s t : State} (h : s.alike t) (c : Chan) : s.settings c = t.settings c := by
  unfold State.settings
  rw [h.1]

theorem State.alike.classOf {s t : State} (h : s.alike t) (k : Transfer) : s.classOf k = t.classOf k := by
  have hstream : ∀ c, s.streamUrgent c = t.streamUrgent c := fun c => by
    have hpool := (h.2 c).2.1
    simp [State.streamUrgent, h.settings c, hpool]
  have hload : ∀ c occ, s.loadUrgent c occ = t.loadUrgent c occ := fun c occ => by
    obtain ⟨hfetch, -, hstate⟩ := h.2 c
    simp [State.loadUrgent, Channel.head, hfetch, hstate]
  cases k <;> simp [State.classOf, hstream, hload]

theorem State.alike.put {s t : State} (h : s.alike t) (c : Chan) {a b : Channel} (hab : a.alike b) (p q : Port) :
    (s.put c a p).alike (t.put c b q) := by
  refine ⟨h.1, fun d => ?_⟩
  rw [State.put_get, State.put_get]
  split
  · exact hab
  · exact h.2 d

theorem State.put_alike {s : State} {c : Chan} {a : Channel} (h : a.alike (s.chans[c.val]'c.isLt)) (p : Port) : (s.put c a p).alike s := by
  have := s.alike_refl.put c h p s.port
  rwa [State.put_self] at this

/-- The port after a request depends on what the arbiter looks at alone. -/
theorem State.raisedPort_congr {s t : State} (hp : s.port = t.port) (h : s.alike t) (r : Request) :
    s.raisedPort r = t.raisedPort r := by
  unfold State.raisedPort State.raise
  rw [hp]
  exact State.arbitrate_congr rfl fun k => State.alike.classOf (s := { s with port := _ }) (t := { t with port := _ }) h k

/-- What the data feeder does depends on the port and on what the arbiter looks at alone. -/
theorem State.feed_congr {s t : State} (hp : s.port = t.port) (h : s.alike t) (c : Chan) :
    (s.fed c).fetch = (t.fed c).fetch ∧ (s.fed c).pool = (t.fed c).pool ∧ (s.feed c).port = (t.feed c).port := by
  obtain ⟨hfetch, hpool, hstate⟩ := h.2 c
  by_cases hout : s.sampleOut c = true
  · have hout' : t.sampleOut c = true := by
      rw [State.sampleOut_iff] at hout ⊢
      simpa [← hp, ← hfetch] using hout
    rw [State.fed, State.fed, State.feed_busy hout, State.feed_busy hout']
    exact ⟨hfetch, hpool, hp⟩
  · have hout' : t.sampleOut c = false := by
      rw [Bool.not_eq_true] at hout
      rw [← hout, Bool.eq_iff_iff, State.sampleOut_iff, State.sampleOut_iff]
      simp [hp, hfetch]
    rw [Bool.not_eq_true] at hout
    by_cases hd : ∃ ctx pass offset, (s.chans[c]'c.isLt).fetch.data = some (.step ctx pass offset)
    · obtain ⟨ctx, pass, offset, hd⟩ := hd
      have hd' : (t.chans[c]'c.isLt).fetch.data = some (.step ctx pass offset) := by
        simpa [← hfetch] using hd
      rw [State.fed, State.fed, State.feed_onStep hout hd rfl, State.feed_onStep hout' hd' rfl]
      have hraise : ∀ (a b : State) (r : Request), a.port = b.port → a.alike b →
          ((a.raise r).chans[c.val]'c.isLt).fetch = ((b.raise r).chans[c.val]'c.isLt).fetch
            ∧ ((a.raise r).chans[c.val]'c.isLt).pool = ((b.raise r).chans[c.val]'c.isLt).pool ∧ (a.raise r).port = (b.raise r).port := by
        intro a b r hport halike
        rw [a.raise_eq, b.raise_eq]
        exact ⟨(halike.2 c).1, (halike.2 c).2.1, State.raisedPort_congr hport halike r⟩
      simp only [Fin.getElem_fin, hfetch, hpool, h.settings c, State.modFetch_put, State.modPool_put, State.put_chan, State.put_put,
        State.put_port]
      split
      · refine hraise _ _ _ hp (h.put c ?_ _ _)
        exact ⟨rfl, rfl, hstate⟩
      · split
        · refine hraise _ _ _ hp (h.put c ?_ _ _)
          exact ⟨rfl, rfl, hstate⟩
        · exact ⟨hfetch, hpool, hp⟩
    · simp only [not_exists] at hd
      have hd' : ∀ ctx pass offset, (t.chans[c]'c.isLt).fetch.data ≠ some (.step ctx pass offset) := by
        simpa [← hfetch] using hd
      rw [State.fed, State.fed, State.feed_offStep hd, State.feed_offStep hd']
      exact ⟨hfetch, hpool, hp⟩

/-- The data feeder, asked with a channel that looks alike in place: its own changes, and the rest of that channel. -/
theorem State.feed_alike {s : State} {c : Chan} {ch : Channel} (h : ch.alike (s.chans[c.val]'c.isLt)) :
    (s.put c ch s.port).feed c = s.put c { ch with fetch := (s.fed c).fetch, pool := (s.fed c).pool } (s.feed c).port := by
  obtain ⟨hfetch, hpool, hport⟩ := State.feed_congr (s := s.put c ch s.port) (t := s) rfl (State.put_alike h _) c
  obtain ⟨data, owed, reserve, hfed⟩ := (s.put c ch s.port).fed_eq c
  rw [State.feed_put, State.put_put, hport, ← hfetch, ← hpool, hfed, State.put_chan]

end Sys2Proof.Machine

namespace Sys2Proof.Machine

/-! ## One channel's change within an event -/

@[simp] theorem Ev.of_st (s : State) (b : Bool) : (Ev.of s b).st = s := rfl
@[simp] theorem Ev.of_recs (s : State) (b : Bool) : (Ev.of s b).recs = [] := rfl
@[simp] theorem Ev.of_asked (s : State) (b : Bool) : (Ev.of s b).asked = 0 := rfl

/-- A channel's bit where it asks for its status block (R176). -/
def askedBit (c : Chan) (ask : Bool) : BitVec 8 := if ask then maskOf c else 0

theorem askedBit_or (c : Chan) (a b : Bool) : askedBit c a ||| askedBit c b = askedBit c (a || b) := by
  cases a <;> cases b <;> simp [askedBit]

/-- An event in which a channel and the port have changed, records were raised and, with `ask`, the channel's status block was asked
for. -/
def Ev.act (e : Ev) (c : Chan) (ch : Channel) (p : Port) (rs : List Record) (ask : Bool) : Ev :=
  { e with st := e.st.put c ch p, recs := e.recs ++ rs, asked := e.asked ||| askedBit c ask }

section Act

variable (e : Ev) (c d : Chan) (ch ch' : Channel) (p p' : Port) (rs rs' : List Record) (a a' : Bool)

@[simp] theorem Ev.act_st : (e.act c ch p rs a).st = e.st.put c ch p := rfl
@[simp] theorem Ev.act_recs : (e.act c ch p rs a).recs = e.recs ++ rs := rfl
@[simp] theorem Ev.act_inExpiry : (e.act c ch p rs a).inExpiry = e.inExpiry := rfl
@[simp] theorem Ev.act_starts : (e.act c ch p rs a).starts = e.starts := rfl
@[simp] theorem Ev.act_counted : (e.act c ch p rs a).counted = e.counted := rfl
@[simp] theorem Ev.act_lost : (e.act c ch p rs a).lost = e.lost := rfl
@[simp] theorem Ev.chan_eq : e.chan c = e.st.chans[c.val]'c.isLt := rfl

@[simp] theorem Ev.act_act : (e.act c ch p rs a).act c ch' p' rs' a' = e.act c ch' p' (rs ++ rs') (a || a') := by
  simp [Ev.act, BitVec.or_assoc, askedBit_or]

@[simp] theorem Ev.act_self : e.act c (e.st.chans[c.val]'c.isLt) e.st.port [] false = e := by
  simp [Ev.act, askedBit]

/-- A change of the state that is one of a channel and the port. -/
theorem Ev.mod_act {f : State → State} (h : f e.st = e.st.put c ch p) : e.mod f = e.act c ch p [] false := by
  simp [Ev.mod, Ev.act, askedBit, h]

@[simp] theorem Ev.modChan_act (f : Channel → Channel) :
    e.modChan c f = e.act c (f (e.st.chans[c.val]'c.isLt)) e.st.port [] false := e.mod_act c _ _ rfl

@[simp] theorem Ev.modFetch_act (f : Fetch → Fetch) :
    e.modFetch c f = e.act c { e.st.chans[c.val]'c.isLt with fetch := f (e.st.chans[c.val]'c.isLt).fetch } e.st.port [] false := e.mod_act c _ _ rfl

@[simp] theorem Ev.modPool_act (f : Pool → Pool) :
    e.modPool c f = e.act c { e.st.chans[c.val]'c.isLt with pool := f (e.st.chans[c.val]'c.isLt).pool } e.st.port [] false := e.mod_act c _ _ rfl

@[simp] theorem Ev.modPlay_act (f : Play → Play) :
    e.modPlay c f = e.act c { e.st.chans[c.val]'c.isLt with play := f (e.st.chans[c.val]'c.isLt).play } e.st.port [] false := e.mod_act c _ _ rfl

@[simp] theorem Ev.modLevel_act (f : Levels → Levels) :
    e.modLevel c f = e.act c { e.st.chans[c.val]'c.isLt with level := f (e.st.chans[c.val]'c.isLt).level } e.st.port [] false := e.mod_act c _ _ rfl

@[simp] theorem Ev.raiseCond_act (k : Condition) :
    e.raiseCond c k = e.act c ((e.st.chans[c.val]'c.isLt).raised k) e.st.port [] false := e.mod_act c _ _ rfl

@[simp] theorem Ev.quietMarkers_act : e.mod (·.quietMarkers c) = e.act c { e.st.chans[c.val]'c.isLt with level :=
    { (e.st.chans[c.val]'c.isLt).level with markers := bothMarkers OneShot.quiet (e.st.chans[c.val]'c.isLt).level.markers } } e.st.port [] false :=
  e.mod_act c _ _ rfl

@[simp] theorem Ev.addChanRecord_act (kind : RecordKind) (slot detailA detailB : Nat) :
    e.addChanRecord c kind slot detailA detailB = e.act c (e.st.chans[c.val]'c.isLt) e.st.port
      [chanRecord c kind (e.st.chans[c.val]'c.isLt).play.sampleCount slot detailA detailB] false := by
  simp [Ev.addChanRecord, Ev.addRecord, Ev.act, askedBit, chanRecord]

@[simp] theorem Ev.ask_act : e.ask c = e.act c (e.st.chans[c.val]'c.isLt) e.st.port [] true := by
  simp [Ev.ask, Ev.act, askedBit]

/-- A change of state or wait reason asks for the status block (R176). -/
@[simp] theorem Ev.setState_act (st : ChannelState) (w : WaitReason) :
    e.setState c st w = e.act c { e.st.chans[c.val]'c.isLt with play := { (e.st.chans[c.val]'c.isLt).play with state := st, wait := w } } e.st.port
      [] (!decide ((e.st.chans[c.val]'c.isLt).play.state = st ∧ (e.st.chans[c.val]'c.isLt).play.wait = w)) := by
  unfold Ev.setState
  by_cases h : (e.st.chans[c.val]'c.isLt).play.state = st ∧ (e.st.chans[c.val]'c.isLt).play.wait = w <;> simp [h]

@[simp] theorem Ev.purge_act : e.mod (·.purge c false) = e.act c { e.st.chans[c.val]'c.isLt with
      fetch := purgedFetch (e.st.chans[c.val]'c.isLt).fetch, pool := emptyShare } (e.st.port.purgedOf c) [] false :=
  e.mod_act c _ _ (e.st.purge_put c)

theorem members_askedBit (c : Chan) (a : Bool) : members (0 ||| askedBit c a) = if a then [c] else [] := by
  revert a c; decide

/-- The end of an event in which one channel has changed: its records are handed over, then its status block is written (R165,
R176). -/
theorem Ev.finish_act (hr : e.recs = []) (ha : e.asked = 0) :
    (e.act c ch p rs a).finish =
      if a then (State.handOverAll rs (e.st.put c ch p)).writeStatusBlock c else State.handOverAll rs (e.st.put c ch p) := by
  unfold Ev.finish Ev.act
  rw [ha, members_askedBit, hr]
  cases a <;> rfl

end Act

theorem Ev.finish_eq {e : Ev} {s : State} {rs : List Record} {l : List Chan} (hs : e.st = s) (hr : e.recs = rs)
    (ha : members e.asked = l) : e.finish = l.foldl State.writeStatusBlock (State.handOverAll rs s) := by
  rw [← hs, ← hr, ← ha]
  rfl

/-! ## Mirrors (R105, R106) -/

theorem mem_mirrorsOf {s : State} {c d : Chan} :
    d ∈ s.mirrorsOf c ↔ (s.chans[d.val]'d.isLt).play.state = .mirroring ∧ (s.chans[d.val]'d.isLt).level.mirror = some c := by
  simp [State.mirrorsOf, mem_allChans]

theorem State.mirrorsOf_nodup (s : State) (c : Chan) : (s.mirrorsOf c).Nodup := allChans_nodup.filter _

/-- The mirrors of a channel, each changed alike. -/
def State.mirrorsMoved (s : State) (c : Chan) (g : Channel → Channel) : State :=
  { s with chans := vec8 fun d => if d ∈ s.mirrorsOf c then g (s.chans[d]'d.isLt) else (s.chans[d]'d.isLt) }

section Mirrors

variable (s : State) (c : Chan) (g : Channel → Channel) (ch : Channel) (p : Port)

theorem State.mirrorsMoved_get (d : Chan) :
    (s.mirrorsMoved c g).chans[d.val]'d.isLt = if d ∈ s.mirrorsOf c then g (s.chans[d.val]'d.isLt) else (s.chans[d.val]'d.isLt) := vec8_get _ d

@[simp] theorem State.mirrorsMoved_port : (s.mirrorsMoved c g).port = s.port := rfl
@[simp] theorem State.mirrorsMoved_engine : (s.mirrorsMoved c g).engine = s.engine := rfl
@[simp] theorem State.mirrorsMoved_gens : (s.mirrorsMoved c g).gens = s.gens := rfl
@[simp] theorem State.mirrorsMoved_slotAddr (d : Chan) (n : Nat) : (s.mirrorsMoved c g).slotAddr d n = s.slotAddr d n := rfl
@[simp] theorem State.mirrorsMoved_settings (d : Chan) : (s.mirrorsMoved c g).settings d = s.settings d := rfl

theorem State.mirrorsMoved_sameButChannels : s.sameButChannels (s.mirrorsMoved c g) := ⟨_, _, rfl⟩

/-- A channel that is no mirror stands. -/
theorem State.mirrorsMoved_other {d : Chan} (h : (s.chans[d.val]'d.isLt).play.state ≠ .mirroring) :
    (s.mirrorsMoved c g).chans[d.val]'d.isLt = s.chans[d.val]'d.isLt := by
  rw [State.mirrorsMoved_get, if_neg fun hm => h (mem_mirrorsOf.1 hm).1]

variable {s c} in
/-- A channel that none mirrors moves no other. -/
theorem State.mirrorsMoved_none (h : s.unmirrored c) : s.mirrorsMoved c g = s := by
  unfold State.mirrorsMoved
  rw [h]
  simp only [List.not_mem_nil, if_false, Fin.getElem_fin, vec8_self]

theorem State.mirrorsOf_put (h : ch.play.state ≠ .mirroring) {d : Chan} :
    d ∈ (s.put c ch p).mirrorsOf c ↔ d ∈ s.mirrorsOf c ∧ d ≠ c := by
  rw [mem_mirrorsOf, mem_mirrorsOf, State.put_get]
  by_cases hd : c = d
  · subst hd
    simp [h]
  · simp [hd, Ne.symm hd]

/-- The mirrors move alike before and after a change of their source. -/
theorem State.put_mirrorsMoved (h : ch.play.state ≠ .mirroring) :
    (s.put c ch p).mirrorsMoved c g = (s.mirrorsMoved c g).put c ch p := by
  have hchans : ((s.put c ch p).mirrorsMoved c g).chans = ((s.mirrorsMoved c g).put c ch p).chans := by
    refine chans_ext fun d => ?_
    simp only [State.mirrorsMoved_get, State.put_get, State.mirrorsOf_put s c ch p h]
    by_cases hd : c = d
    · subst hd
      simp
    · simp [hd, Ne.symm hd]
  exact congrArg (fun v => { s with chans := v, port := p }) hchans

/-- A change made for each mirror of a channel, which leaves that channel as it is. -/
theorem State.foldl_mirrors {f : State → Chan → State} {k : Channel → Channel → Channel}
    (hf : ∀ (t : State) (m : Chan), m ≠ c → f t m = t.put m (k (t.chans[m.val]'m.isLt) (t.chans[c.val]'c.isLt)) t.port)
    (hc : (s.chans[c.val]'c.isLt).play.state ≠ .mirroring) :
    (s.mirrorsOf c).foldl f s = s.mirrorsMoved c fun m => k m (s.chans[c.val]'c.isLt) := by
  have hne : ∀ m ∈ s.mirrorsOf c, m ≠ c := fun m hm e => hc (e ▸ (mem_mirrorsOf.1 hm).1)
  refine Eq.trans (foldl_eachChan (g := fun m => k (s.chans[m.val]'m.isLt) (s.chans[c.val]'c.isLt)) (h := fun _ p => p)
    (fun t => (t.chans[c.val]'c.isLt) = s.chans[c.val]'c.isLt) (s.mirrorsOf_nodup c) rfl ?keeps ?step) ?_
  case keeps =>
    intro t m hm ht _
    rw [hf t m (hne m hm), State.put_other _ _ _ (hne m hm), ht]
  case step =>
    intro t m hm ht hsame
    rw [hf t m (hne m hm), ht]
    exact congrArg (fun ch => t.put m (k ch (s.chans[c.val]'c.isLt)) t.port) hsame
  exact congrArg (fun q => { s.mirrorsMoved c (k · (s.chans[c.val]'c.isLt)) with port := q }) (List.foldl_fixed _)

/-- A lane at its idle level, its markers inactive but for a set latch (R102, R112). -/
def Channel.atIdle (ch : Channel) : Channel :=
  { ch with level := { ch.level with
      lane := ch.level.idle, idleDue := false, markers := bothMarkers (·.present false) ch.level.markers } }

variable {s c}

theorem State.mirrorIdle_put {t : State} {m : Chan} (h : m ≠ c) :
    t.mirrorIdle c m = t.put m (mirrorAtIdle (t.chans[m.val]'m.isLt) (t.chans[c.val]'c.isLt)) t.port := by
  simp [State.mirrorIdle, State.mirrorMarkers, State.put_other _ _ _ h, mirrorAtIdle, mirrorLines]

/-- A channel shows its idle level, and its mirrors theirs with it (R102, R105). -/
theorem State.showIdle_put (h : (s.chans[c.val]'c.isLt).play.state ≠ .mirroring) :
    s.showIdle c = (s.mirrorsMoved c fun m => mirrorAtIdle m (s.chans[c.val]'c.isLt).atIdle).put c (s.chans[c.val]'c.isLt).atIdle s.port := by
  have hshown : (s.modLevel c fun l => { l with lane := l.idle, idleDue := false }).presentMarkers c false
      = s.put c (s.chans[c.val]'c.isLt).atIdle s.port := by
    simp [State.presentMarkers, Channel.atIdle]
  unfold State.showIdle State.mirrorsIdle
  rw [hshown, State.foldl_mirrors (k := mirrorAtIdle) _ _ (fun t m hm => State.mirrorIdle_put hm) (by simpa [Channel.atIdle] using h),
    State.put_chan, State.put_mirrorsMoved]
  exact h

end Mirrors

/-! ## Closing an order (R135, R136) -/

theorem exec_row (order : Order) (edition : BitVec 32) (s : State) :
    exec (order.row edition) s = .next (s.orderCommand order edition) := by
  cases order <;> rfl

/-- An order that the unit can take is executed with the slot read that brings it off the port (log 7). -/
theorem exec_row_taken {s : State} (h : s.takesOrders) (order : Order) (edition : BitVec 32) :
    exec (order.row edition) s = .next (s.settled (s.freed.takeOrder order edition)) := by
  obtain ⟨hon, hst | hst⟩ := h <;> rw [exec_row, State.orderCommand, if_pos hon, State.settled, State.freed, hst]
  · rfl
  · cases hfl : s.orderReadInFlight <;> rfl

/-- Taking the slot read off the port changes the port alone (log 7). -/
theorem State.freed_port (s : State) :
    ∃ p, s.freed = { s with port := p } ∧ p.busy = s.port.busy ∧ ∀ r ∈ p.waiting, r ∈ s.port.waiting := by
  unfold State.freed
  split
  · split
    · exact ⟨_, rfl, rfl, fun r hr => hr⟩
    · exact ⟨_, rfl, rfl, fun r hr => (List.mem_filter.1 hr).1⟩
  · exact ⟨_, rfl, rfl, fun r hr => hr⟩

theorem State.freed_idleEmpty {s : State} (h : s.port.idleEmpty) : s.freed.port.idleEmpty := by
  obtain ⟨p, hp, hbusy, hwaiting⟩ := s.freed_port
  rw [hp]
  intro hb
  refine List.eq_nil_iff_forall_not_mem.2 fun r hr => ?_
  simpa [h (hbusy ▸ hb)] using hwaiting r hr

/-- The result of an order is decided: CLOSING, and the result word's write (R135). -/
theorem State.closeOrder_after {s : State} (h : s.port.idleEmpty) (r : OrderResult) :
    s.closeOrder r = { s with
      orders := { s.orders with state := .closing, result := some r }
      port := s.port.after [s.resultWrite r] } := by
  have haddr : s.orderAddr 8 = s.pageAddr (0x808 + 64 * s.orders.next.val) := by
    unfold State.orderAddr
    congr 1
    omega
  rw [State.closeOrder, haddr]
  exact State.raiseWrite_after (s := s.modOrders fun o => { o with state := .closing, result := some r }) _ _ _ h rfl

end Sys2Proof.Machine

namespace Sys2Proof.Machine

/-! ## START (R139 to R142) -/

section Start

variable {s : State} {c : Chan}

theorem lowest_eq {m : BitVec 8} {lead : Chan} (hm : m.getLsbD lead.val = true)
    (hfirst : ∀ d : Chan, d < lead → m.getLsbD d.val = false) : lowest m = some lead := by
  have hall : allChans[lead.val]? = some lead := (by decide : ∀ d : Chan, allChans[d.val]? = some d) lead
  obtain ⟨hlen, hget⟩ := List.getElem?_eq_some_iff.1 hall
  rw [lowest, members, List.head?_filter, List.find?_eq_some_iff_getElem]
  refine ⟨hm, lead.val, hlen, hget, fun j hj => ?_⟩
  have hjlt : j < 8 := hj.trans lead.isLt
  have hdrop : ∀ d : Chan, ∀ h, allChans[d.val]'h = d := by decide
  have hj' := hdrop ⟨j, hjlt⟩ (hj.trans hlen)
  simp only at hj'
  rw [hj', inMask, hfirst ⟨j, hjlt⟩ hj]
  rfl

theorem startConditionOf_eq {condition : Byte} {start : StartCondition}
    (h : condition.toNat % 4 = 0 ∧ start = .immediate
      ∨ condition.toNat % 4 = 1 ∧ start = .trigger (Fin.ofNat 4 (condition.toNat / 16))) :
    startConditionOf condition = some start := by
  unfold startConditionOf
  obtain ⟨h, rfl⟩ | ⟨h, rfl⟩ := h <;> rw [h] <;> rfl

/-- The members' start fields pass (R139, checks 3 and 4). -/
theorem State.memberField_none {generators : Vector Byte 8} {slots : Vector (BitVec 16) 8}
    (h : s.startFieldsPass generators slots c) : s.memberField generators slots c = none := by
  obtain ⟨hgen, hslot⟩ := h
  unfold State.memberField
  rw [if_neg (by omega), if_neg]
  rintro ⟨hallotment, hbeyond⟩
  have := hslot hallotment
  omega

/-- A member that can be armed is not refused (R140). -/
theorem State.memberRefusal_none {generators : Vector Byte 8} {lead : Chan} (h : s.toBeArmed generators lead c) :
    s.memberRefusal generators generators[lead] c = none := by
  obtain ⟨hstate, hunmirrored, hallotment, hgen⟩ := h
  have hmode : ¬((s.chans[c]'c.isLt).play.state = .mirroring ∨ s.mirrorsOf c ≠ []) := by
    rintro (h | h)
    · rcases hstate with h' | h' <;> rw [h'] at h <;> cases h
    · exact h hunmirrored
  have hbusy : s.busyChannel c = false := by
    unfold State.busyChannel
    rcases hstate with h | h <;> rw [h] <;> rfl
  unfold State.memberRefusal
  rw [if_neg hmode, hbusy, if_neg (by decide), if_neg hallotment, if_neg (fun h => h hgen)]

/-- The read of the start slot that arming a channel raises (R43). -/
def State.armingRead (s : State) (c : Chan) (slot : BitVec 16) : Request :=
  readOf (.stepSlotRead c ((s.chans[c]'c.isLt).fetch.epoch + 1) false) (s.slotAddr c slot.toNat) 64

/-- Fetch starts: the map is emptied, the epoch advanced, the cursor put on the start slot and its read raised (R43). -/
theorem State.startFetch_put (h : s.port.idleEmpty) (slot : BitVec 16) :
    s.startFetch c slot.toNat = s.put c { s.chans[c.val]'c.isLt with fetch := { (s.chans[c.val]'c.isLt).fetch with
        map := [], epoch := (s.chans[c.val]'c.isLt).fetch.epoch + 1, cursor := slot.toNat, reader := .slotRead } }
      (s.port.after [s.armingRead c slot]) := by
  unfold State.startFetch
  rw [State.readSlot_put_after c (by exact h)]
  simp [Channel.reading, State.slotRequest, State.armingRead]

/-- Arming a member that is IDLE or FAULTED and mirrored by none (R43, R90, R141, R142). -/
theorem Ev.armMember_act {e : Ev} {m : Membership} {slots : Vector (BitVec 16) 8}
    (hstate : (e.st.chans[c]'c.isLt).play.state = .idle ∨ (e.st.chans[c]'c.isLt).play.state = .faulted) (hmirrors : e.st.unmirrored c)
    (hidle : e.st.port.idleEmpty) :
    Ev.armMember m slots e c = e.act c (armedChannel (e.st.chans[c]'c.isLt) m slots[c])
      (e.st.port.after [e.st.armingRead c slots[c]]) [] true := by
  have hask : (!decide ((e.st.chans[c.val]'c.isLt).play.state = .armed ∧ (e.st.chans[c.val]'c.isLt).play.wait = .none)) = true := by
    rcases hstate with h | h <;> rw [Fin.getElem_fin] at h <;> simp [h]
  unfold Ev.armMember
  simp only [Ev.setState_act, Ev.modPlay_act, Ev.act_st, Ev.act_act, State.put_chan, State.put_port, hask, Bool.true_or,
    List.append_nil]
  have hshow : ∀ (ch : Channel), ch.play.state = .armed → (e.act c ch e.st.port [] true).mod (·.showIdle c)
      = e.act c ch.atIdle e.st.port [] true := by
    intro ch hch
    have harmed : ch.play.state ≠ .mirroring := by rw [hch]; decide
    refine Eq.trans (Ev.mod_act _ c ch.atIdle e.st.port ?_) (by simp)
    rw [Ev.act_st, State.showIdle_put (by simpa using harmed), State.put_mirrorsMoved _ _ _ _ _ harmed,
      State.mirrorsMoved_none _ hmirrors]
    simp
  rw [hshow _ rfl]
  refine Eq.trans (Ev.mod_act _ c _ _ (State.startFetch_put (by simpa using hidle) _)) ?_
  simp [armedChannel, Channel.atIdle, bothMarkers, State.armingRead]

/-- What arming the channels of a list does (R141, R142). -/
theorem Ev.forEach_armMember {m : Membership} {slots : Vector (BitVec 16) 8} {e : Ev} {l : List Chan} (hl : l.Nodup)
    (hidle : e.st.port.idleEmpty)
    (harm : ∀ d ∈ l, ((e.st.chans[d]'d.isLt).play.state = .idle ∨ (e.st.chans[d]'d.isLt).play.state = .faulted) ∧ e.st.unmirrored d) :
    e.forEach l (Ev.armMember m slots) = { e with
      st := { e.st with
        chans := vec8 fun d => if d ∈ l then armedChannel (e.st.chans[d]'d.isLt) m slots[d] else (e.st.chans[d]'d.isLt)
        port := e.st.port.after (l.map fun d => e.st.armingRead d slots[d]) }
      asked := l.foldl (fun mask d => mask ||| askedBit d true) e.asked } := by
  let I : Ev → Prop := fun t => t.st.port.idleEmpty ∧ t.st.engine = e.st.engine
    ∧ ∀ d d' : Chan, d' ∈ t.st.mirrorsOf d → d' ∈ e.st.mirrorsOf d
  have harmed : ∀ t d, d ∈ l → I t → (t.st.chans[d]'d.isLt) = e.st.chans[d]'d.isLt → Ev.armMember m slots t d =
      t.act d (armedChannel (e.st.chans[d]'d.isLt) m slots[d]) (t.st.port.after [e.st.armingRead d slots[d]]) [] true := by
    rintro t d hd ⟨ht, hengine, hmirrors⟩ hsame
    have hun : t.st.unmirrored d :=
      List.eq_nil_iff_forall_not_mem.2 fun d' hd' => by
        have := hmirrors d d' hd'
        rw [(harm d hd).2] at this
        cases this
    rw [Ev.armMember_act (hsame ▸ (harm d hd).1) hun ht, hsame]
    simp only [State.armingRead, hsame, State.slotAddr, State.settings, hengine]
  refine Eq.trans (Ev.forEach_eachChan (g := fun d => armedChannel (e.st.chans[d]'d.isLt) m slots[d])
    (h := fun d p => p.after [e.st.armingRead d slots[d]]) (r := fun _ => []) (a := fun d => askedBit d true) I hl
    ⟨hidle, rfl, fun _ _ h => h⟩ ?keeps ?step) ?_
  case keeps =>
    rintro t d hd ht hsame
    rw [harmed t d hd ht hsame]
    obtain ⟨hport, hengine, hmirrors⟩ := ht
    refine ⟨Port.after_idleEmpty _ _ hport, hengine, fun d' d'' h => hmirrors d' d'' ?_⟩
    rw [mem_mirrorsOf] at h ⊢
    rw [Ev.act_st, State.put_get] at h
    split at h
    · exact absurd h.1 (by simp [armedChannel])
    · exact h
  case step =>
    intro t d hd ht hsame
    exact harmed t d hd ht hsame
  have hnone : l.flatMap (fun _ : Chan => ([] : List Record)) = [] := by simp
  simp only [Port.foldl_after, hnone, List.append_nil, ← List.map_eq_flatMap]

/-- The status blocks of a list of channels are written in order (R176). -/
theorem State.writeStatusBlocks_after {l : List Chan} {s : State} (h : s.port.idleEmpty) :
    l.foldl State.writeStatusBlock s = { s with port := s.port.after (l.map fun d => s.blockWrite d (s.chans[d]'d.isLt)) } := by
  induction l generalizing s with
  | nil => rfl
  | cons d l ih =>
    have hfirst : s.writeStatusBlock d = { s with port := s.port.after [s.blockWrite d (s.chans[d]'d.isLt)] } :=
      State.raise_after s _ h rfl
    rw [List.foldl_cons, hfirst, ih (Port.after_idleEmpty _ _ h)]
    simp only [Port.after_append]
    rfl

/-- The members of a group are armed, their slot reads raised and then their status blocks written (R43, R141, R142, R176). -/
theorem State.armMembers {m : Membership} {slots : Vector (BitVec 16) 8} {mask : BitVec 8} (hidle : s.port.idleEmpty)
    (harm : ∀ d ∈ members mask, ((s.chans[d]'d.isLt).play.state = .idle ∨ (s.chans[d]'d.isLt).play.state = .faulted) ∧ s.unmirrored d) :
    (s.event fun e => e.forEach (members mask) (Ev.armMember m slots)) = { s with
      chans := vec8 fun d => if mask.getLsbD d.val then armedChannel (s.chans[d]'d.isLt) m slots[d] else (s.chans[d]'d.isLt)
      port := s.port.after (((members mask).map fun d => s.armingRead d slots[d])
        ++ (members mask).map fun d => s.blockWrite d (armedChannel (s.chans[d]'d.isLt) m slots[d])) } := by
  have hasked : members ((members mask).foldl (fun m d => m ||| askedBit d true) 0) = members mask := by
    refine Eq.trans (members_foldl_asked (members mask) fun _ => true) (List.filter_congr fun d _ => ?_)
    simp [inMask]
  rw [State.event, Ev.forEach_armMember (e := Ev.of s false) (members_nodup mask) hidle harm]
  refine Eq.trans (Ev.finish_eq rfl rfl hasked) ?_
  refine Eq.trans (State.writeStatusBlocks_after (Port.after_idleEmpty _ _ hidle)) ?_
  have hblocks : (members mask).map (fun d => s.blockWrite d
        ((vec8 fun d => if d ∈ members mask then armedChannel (s.chans[d]'d.isLt) m slots[d] else (s.chans[d]'d.isLt))[d]))
      = (members mask).map fun d => s.blockWrite d (armedChannel (s.chans[d]'d.isLt) m slots[d]) := by
    refine List.map_congr_left fun d hd => ?_
    rw [Fin.getElem_fin, vec8_get, if_pos hd]
  simp only [mem_members] at hblocks
  rw [← hblocks, ← Port.after_append]
  simp only [mem_members]
  rfl

/-- Settles O19: every member passes the tests, is armed, has its status block written, and the order is closed with OK. -/
theorem startArmsEveryMember : Obligations.StartArmsEveryMember := by
  intro edition mask condition generators slots s lead start group htakes hidle hlead hfirst hstart hmembers hgroup
  rw [show Instr.start edition mask condition generators slots = (Order.start mask condition generators slots).row edition from rfl,
    exec_row_taken htakes]
  refine congrArg (Host.Outcome.next ∘ s.settled) ?_
  obtain ⟨p, hfreed, -⟩ := s.freed_port
  have hfreedIdle : s.freed.port.idleEmpty := State.freed_idleEmpty hidle
  rw [hfreed] at hfreedIdle ⊢
  let held := State.holdOrder { s with port := p } (.start mask condition generators slots) edition
  have hfields : (members mask).findSome? (held.memberField generators slots) = none :=
    List.findSome?_eq_none_iff.2 fun d hd => State.memberField_none (s := held) (hmembers d (mem_members.1 hd)).1
  have hrefusals : (members mask).findSome? (held.memberRefusal generators generators[lead]) = none :=
    List.findSome?_eq_none_iff.2 fun d hd => State.memberRefusal_none (s := held) (hmembers d (mem_members.1 hd)).2
  have hrun : State.takeOrder { s with port := p } (.start mask condition generators slots) edition
      = (held.event fun e => e.forEach (members mask) (Ev.armMember group slots)).closeOrder .done := by
    unfold State.takeOrder State.runOrder
    dsimp only
    unfold State.runStart
    rw [lowest_eq hlead hfirst, startConditionOf_eq hstart]
    dsimp only
    rw [hfields]
    dsimp only
    rw [hrefusals, hgroup]
    rfl
  rw [hrun, State.armMembers (s := held) hfreedIdle
    fun d hd => ⟨(hmembers d (mem_members.1 hd)).2.1, (hmembers d (mem_members.1 hd)).2.2.1⟩,
    State.closeOrder_after (Port.after_idleEmpty _ _ hfreedIdle)]
  simp only [Port.after_append]
  rfl

end Start

end Sys2Proof.Machine

namespace Sys2Proof.Machine

/-! ## Attention pending while records are handed over (R178) -/

@[simp] theorem State.raise_report (s : State) (r : Request) : (s.raise r).report = s.report := by rw [State.raise_eq]

@[simp] theorem State.raiseRead_report (s : State) (k : Transfer) (addr size : Nat) :
    (s.raiseRead k addr size).report = s.report := State.raise_report ..

@[simp] theorem State.raiseWrite_report (s : State) (k : Transfer) (addr : Nat) (data : List Byte) :
    (s.raiseWrite k addr data).report = s.report := State.raise_report ..

@[simp] theorem State.raiseOverrun_attention (s : State) : s.raiseOverrun.report.attention = s.report.attention := by
  unfold State.raiseOverrun State.writeConditionsWord
  split <;> simp

@[simp] theorem State.placeFresh_attention (s : State) (q : QueuedRecord) :
    (s.placeFresh q).report.attention = s.report.attention := by
  simp [State.placeFresh, State.writeReportsWritten]

@[simp] theorem State.joinQueue_attention (s : State) (r : Record) : (s.joinQueue r).report.attention = s.report.attention := by
  unfold State.joinQueue
  split <;> simp

@[simp] theorem State.loseRecord_attention (s : State) (q : QueuedRecord) :
    (s.loseRecord q).report.attention = s.report.attention := by
  simp [State.loseRecord]

theorem State.handOver_attention (s : State) (r : Record) : (s.handOver r).report.attention = s.report.attention := by
  unfold State.handOver State.raiseTakenRead
  dsimp only
  split
  · simp
  · split
    · simp
    · split
      · split <;> simp
      · simp

theorem State.handOverAll_attention (l : List Record) (s : State) :
    (State.handOverAll l s).report.attention = s.report.attention := by
  induction l generalizing s with
  | nil => rfl
  | cons r rest ih =>
    unfold State.handOverAll
    dsimp only
    split
    · split
      · rw [ih, State.handOver_attention]
      · rw [ih]
        exact State.handOver_attention _ _
    · rw [ih, State.handOver_attention]

theorem State.writeStatusBlocks_report (l : List Chan) (s : State) : (l.foldl State.writeStatusBlock s).report = s.report :=
  List.foldlRecOn (motive := fun t : State => t.report = s.report) _ _ rfl
    fun t ht _ _ => (State.raise_report t _).trans ht

theorem Ev.finish_attention (e : Ev) : e.finish.report.attention = e.st.report.attention := by
  rw [Ev.finish, State.writeStatusBlocks_report, State.handOverAll_attention]

/-! ## HALT (R187) -/

/-- A channel at a HALT, its membership, mirror and lane still to be settled (R44, R95). -/
def haltedChannel (ch : Channel) : Channel :=
  if ch.play.state.counts then
    { ch with
      fetch := purgedFetch ch.fetch
      pool := emptyShare
      play := { ch.play with state := .idle, wait := .none, pendingStop := .none, lastStop := .halt, episode := 0 } }
  else if ch.play.state = .idle then ch
  else { ch with play := { ch.play with state := .idle, wait := .none } }

theorem haltedChannel_state (ch : Channel) : (haltedChannel ch).play.state = .idle := by
  unfold haltedChannel
  split
  · rfl
  · split
    · assumption
    · rfl

/-- A halted channel in no group, mirroring none, its markers quiet and its lane at the idle level (R95, R113). -/
def settledChannel (ch : Channel) : Channel :=
  { ch with
    play := { ch.play with group := none }
    level := { ch.level with
      mirror := none
      lane := ch.level.idle
      idleDue := false
      markers := #v[haltedMarker ch.level.markers[0], haltedMarker ch.level.markers[1]] } }

theorem settledChannel_play (ch : Channel) : (settledChannel (haltedChannel ch)).play = haltedPlay ch.play := by
  unfold settledChannel haltedChannel haltedPlay
  cases hst : ch.play.state <;> simp [ChannelState.counts, hst]

theorem haltedChannel_fetch (ch : Channel) :
    (haltedChannel ch).fetch = if ch.play.state.counts then purgedFetch ch.fetch else ch.fetch := by
  unfold haltedChannel
  split
  · rfl
  · split <;> rfl

theorem haltedChannel_pool (ch : Channel) :
    (haltedChannel ch).pool = if ch.play.state.counts then emptyShare else ch.pool := by
  unfold haltedChannel
  split
  · rfl
  · split <;> rfl

theorem haltedChannel_rest (ch : Channel) : (haltedChannel ch).level = ch.level
    ∧ (haltedChannel ch).perRecord = ch.perRecord ∧ (haltedChannel ch).accumulated = ch.accumulated := by
  unfold haltedChannel
  split
  · exact ⟨rfl, rfl, rfl⟩
  · split <;> exact ⟨rfl, rfl, rfl⟩

/-- The CHANNEL_STOPPED record of a channel stopped by a HALT (R95). -/
def haltRecords (c : Chan) (ch : Channel) : List Record :=
  if ch.play.state.counts then
    [chanRecord c .channelStopped ch.play.sampleCount (ch.play.lastRetired.getD ch.play.startSlot) 6 0]
  else []

/-- One channel at a HALT (R44, R95, R187). -/
theorem Ev.haltChannel_act (e : Ev) (c : Chan) :
    e.haltChannel c = e.act c (haltedChannel (e.st.chans[c]'c.isLt))
      (if (e.st.chans[c]'c.isLt).play.state.counts then e.st.port.purgedOf c else e.st.port)
      (haltRecords c (e.st.chans[c]'c.isLt)) (decide ((e.st.chans[c]'c.isLt).play.state ≠ .idle)) := by
  rw [Fin.getElem_fin]
  by_cases hcounts : (e.st.chans[c.val]'c.isLt).play.state.counts = true
  · have hactive : e.haltChannel c = e.haltActive c := by
      unfold Ev.haltChannel
      cases hst : (e.chan c).play.state <;> simp_all [ChannelState.counts]
    have hidle : (e.st.chans[c.val]'c.isLt).play.state ≠ .idle := fun h => by simp [h, ChannelState.counts] at hcounts
    simp [hactive, Ev.haltActive, haltedChannel, haltRecords, hcounts, hidle, Play.stopSlot, StopReason.code]
  · by_cases hidle : (e.st.chans[c.val]'c.isLt).play.state = .idle
    · have hnothing : e.haltChannel c = e := by
        rw [Ev.haltChannel, Ev.chan_eq, hidle]
      simp [hnothing, haltedChannel, haltRecords, hidle, ChannelState.counts]
    · have hended : e.haltChannel c = e.setState c .idle .none := by
        unfold Ev.haltChannel
        cases hst : (e.chan c).play.state <;> simp_all [ChannelState.counts]
      simp [hended, haltedChannel, haltRecords, hidle, hcounts]

/-- What is settled of a halted channel that no channel mirrors (R95, R113). -/
theorem State.settleChannel_put {s : State} {c : Chan} (hstate : (s.chans[c]'c.isLt).play.state ≠ .mirroring) (h : s.unmirrored c) :
    s.settleChannel c = s.put c (settledChannel (s.chans[c]'c.isLt)) s.port := by
  rw [Fin.getElem_fin] at hstate
  unfold State.settleChannel
  dsimp only
  rw [State.showIdle_put (by simpa using hstate), State.modPlay_put, State.modLevel_put, State.put_put,
    State.put_mirrorsMoved _ _ _ _ _ (by simpa using hstate), State.mirrorsMoved_none _ h]
  simp [settledChannel, Channel.atIdle, bothMarkers, OneShot.halted, haltedMarker, OneShot.present, OneShot.level, OneShot.active]

/-- The channels are settled one by one, none of them a mirror (R95, R113). -/
theorem State.settleChannels {s : State} (h : ∀ c : Chan, (s.chans[c]'c.isLt).play.state = .idle) :
    allChans.foldl State.settleChannel s = { s with chans := vec8 fun c => settledChannel (s.chans[c]'c.isLt) } := by
  have hput : ∀ (t : State) (c : Chan), (∀ d : Chan, (t.chans[d]'d.isLt).play.state = .idle) →
      t.settleChannel c = t.put c (settledChannel (t.chans[c]'c.isLt)) t.port := by
    intro t c ht
    refine State.settleChannel_put (by rw [ht c]; decide) (List.eq_nil_iff_forall_not_mem.2 fun d hd => ?_)
    have hmirroring := (mem_mirrorsOf.1 hd).1
    rw [← Fin.getElem_fin, ht d] at hmirroring
    cases hmirroring
  refine Eq.trans (foldl_eachChan (g := fun c => settledChannel (s.chans[c]'c.isLt)) (h := fun _ p => p)
    (fun t => ∀ d : Chan, (t.chans[d]'d.isLt).play.state = .idle) allChans_nodup h ?keeps ?step) ?_
  case keeps =>
    intro t c _ ht _ d
    rw [hput t c ht, Fin.getElem_fin, State.put_get]
    split
    · exact ht c
    · exact ht d
  case step =>
    intro t c _ ht hsame
    rw [hput t c ht, hsame]
    rfl
  · simp only [mem_allChans, if_true, List.foldl_fixed]

/-- The port with the waiting requests of a list of purged channels withdrawn (R160). -/
theorem Port.foldl_purgedOf (l : List Chan) (b : Chan → Bool) (p : Port) :
    l.foldl (fun p c => if b c then p.purgedOf c else p) p =
      { p with waiting := p.waiting.filter fun r => !l.any fun c => b c && decide (r.kind.chan? = some c) } := by
  induction l generalizing p with
  | nil => simp
  | cons c l ih =>
    rw [List.foldl_cons, ih]
    cases hb : b c <;> simp [hb, Port.purgedOf, List.filter_filter, Bool.and_comm]

/-- The state after a HALT, its records still to be handed over (R95, R113, R119, R130, R153, R187). -/
def State.haltedState (s : State) (cause : HaltCause) (detail : HaltDetail) : State :=
  { s with
    engine := { s.engine with state := .halted, starting := false, cause := cause, detail := detail }
    orders := s.haltOrders.orders
    chans := vec8 fun c => settledChannel (haltedChannel (s.chans[c]'c.isLt))
    port := allChans.foldl (fun p c => if (s.chans[c]'c.isLt).play.state.counts then p.purgedOf c else p) s.haltOrders.port
    gens := vec4 fun g => s.gens[g].halted
    trig := { s.trig with lines := vec4 fun k => s.trig.lines[k].halted }
    report := { s.report with attention := true } }

/-- A HALT stops the channels that play, idles the others and settles every block (R95, R113, R119, R130, R153, R187). -/
theorem Ev.halt_eq (s : State) (cause : HaltCause) (detail : HaltDetail) :
    Ev.halt cause detail (Ev.of s false) = { Ev.of s false with
      st := s.haltedState cause detail
      recs := allChans.flatMap fun c => haltRecords c (s.chans[c]'c.isLt)
      asked := allChans.foldl (fun m c => m ||| askedBit c (decide ((s.chans[c]'c.isLt).play.state ≠ .idle))) 0 } := by
  obtain ⟨orders, port, hhalt⟩ : ∃ orders port, s.haltOrders = { s with orders := orders, port := port } := by
    unfold State.haltOrders
    split <;> exact ⟨_, _, rfl⟩
  have hchannels : ((Ev.of s false).mod State.haltOrders).forEach allChans Ev.haltChannel = { Ev.of s false with
      st := { s.haltOrders with
        chans := vec8 fun c => haltedChannel (s.chans[c]'c.isLt)
        port := allChans.foldl (fun p c => if (s.chans[c]'c.isLt).play.state.counts then p.purgedOf c else p) s.haltOrders.port }
      recs := allChans.flatMap fun c => haltRecords c (s.chans[c]'c.isLt)
      asked := allChans.foldl (fun m c => m ||| askedBit c (decide ((s.chans[c]'c.isLt).play.state ≠ .idle))) 0 } := by
    have hchan : ∀ c : Chan, s.haltOrders.chans[c]'c.isLt = s.chans[c]'c.isLt := fun c => by rw [hhalt]
    refine Eq.trans (Ev.forEach_eachChan (g := fun c => haltedChannel (s.chans[c]'c.isLt))
      (h := fun c p => if (s.chans[c]'c.isLt).play.state.counts then p.purgedOf c else p) (r := fun c => haltRecords c (s.chans[c]'c.isLt))
      (a := fun c => askedBit c (decide ((s.chans[c]'c.isLt).play.state ≠ .idle))) (fun _ => True) allChans_nodup trivial
      (fun _ _ _ _ _ => trivial) ?step) ?_
    case step =>
      intro t c _ _ hsame
      rw [Ev.haltChannel_act, hsame.trans (hchan c)]
      rfl
    · simp only [mem_allChans, if_true]
      rfl
  have hidle : ∀ c : Chan, (haltedChannel (s.chans[c]'c.isLt)).play.state = .idle := fun c => haltedChannel_state _
  rw [Ev.halt, hchannels, Ev.mod, State.settleChannels (fun c => by rw [Fin.getElem_fin, vec8_get]; exact hidle c), hhalt]
  simp only [Fin.getElem_fin, vec8_get, State.haltedState, hhalt]
  rfl

theorem State.sameButRecords_replaced {s t : State} (h : s.sameButRecords t) (r : ReportUnit) (v : Vector Channel 8) (p : Port) :
    { t with report := r, chans := v, port := p } = { s with report := r, chans := v, port := p } := by
  obtain ⟨hengine, horders, hgens, htrig, hpins, hphase, hfree, hpending, -⟩ := h
  rw [hengine, horders, hgens, htrig, hpins, hphase, hfree, hpending]

/-- The requests that a HALT withdraws while they wait: the purged channels', and the Order Unit's abandoned ones (R153, R160). -/
theorem State.haltedState_port (s : State) (cause : HaltCause) (detail : HaltDetail) :
    (s.haltedState cause detail).port = { s.port with
      waiting := s.port.waiting.filter fun r =>
        !((match r.kind.chan? with | some c => (s.chans[c]'c.isLt).play.state.counts | none => false)
          || decide (s.orders.state ≠ .closing) && decide (r.kind = .orderSlotRead ∨ r.kind = .configReadOrder
              ∨ r.kind = .snapshotWrite)) } := by
  have hpurged : ∀ r : Request, (allChans.any fun c => (s.chans[c]'c.isLt).play.state.counts && decide (r.kind.chan? = some c))
      = match r.kind.chan? with | some c => (s.chans[c]'c.isLt).play.state.counts | none => false := by
    intro r
    cases hchan : r.kind.chan? with
    | none => simp
    | some c => rw [Bool.eq_iff_iff]; simp [mem_allChans]
  have hwork : ∀ t : Transfer, t.isOrderWork = decide (t = .orderSlotRead ∨ t = .configReadOrder ∨ t = .snapshotWrite) := by
    intro t
    cases t <;> simp [Transfer.isOrderWork]
  have hport : s.haltOrders.port = { s.port with
      waiting := s.port.waiting.filter fun r => !(decide (s.orders.state ≠ .closing) && r.kind.isOrderWork) } := by
    unfold State.haltOrders
    cases s.orders.state <;> simp [State.withdraw]
  rw [State.haltedState, Port.foldl_purgedOf, hport]
  simp only [List.filter_filter, hpurged, hwork, Bool.not_or]

/-- Settles O12: a HALT is one event; its end changes the Report Unit, the port and per-record conditions alone. -/
theorem haltQuietsTheEngine : Obligations.HaltQuietsTheEngine := by
  intro s
  refine ⟨fun hon => ?online, fun hoff => ?offline⟩
  case offline => exact congrArg Host.Outcome.next (if_neg (by simp [State.online, hoff]))
  case online =>
    obtain ⟨e, he, hexec⟩ : ∃ e, e = Ev.halt .hostHalt .none (Ev.of s false) ∧ exec .halt s = .next e.finish :=
      ⟨_, rfl, congrArg Host.Outcome.next (if_pos (by simp [State.online, hon]))⟩
    rw [Ev.halt_eq] at he
    have hst : e.st = s.haltedState .hostHalt .none := congrArg Ev.st he
    obtain ⟨hengine, horders, hgens, htrig, hpins, hphase, hfree, hpending, hchans⟩ := e.finish_records
    have hattention := e.finish_attention
    rw [hst] at hengine horders hgens htrig hpins hphase hfree hpending hattention
    have hchan : ∀ c : Chan, e.st.chans[c]'c.isLt = settledChannel (haltedChannel (s.chans[c]'c.isLt)) := fun c => by
      rw [hst]; exact vec8_get _ c
    refine ⟨e.finish, hexec, hengine, hattention, fun c => ?chans, hgens, htrig, fun hclosing => horders.trans ?closing,
      fun hnot => horders.trans ?abandoned, hpins, hphase, hfree, hpending, ?whole⟩
    case closing => 
      show s.haltOrders.orders = _
      unfold State.haltOrders
      simp [hclosing]
    case abandoned =>
      show s.haltOrders.orders = _
      unfold State.haltOrders
      simp
    case chans =>
      have hfinal := hchans c
      rw [hchan] at hfinal
      rw [hfinal]
      obtain ⟨hlevel, -, haccumulated⟩ := haltedChannel_rest (s.chans[c]'c.isLt)
      refine ⟨settledChannel_play _, haltedChannel_fetch _, haltedChannel_pool _, ?_, haccumulated⟩
      rw [settledChannel, hlevel]
    case whole =>
      rintro halted rfl
      have hrecs : e.recs = (allChans.filter fun c => (s.chans[c]'c.isLt).play.state.counts).map fun c =>
          chanRecord c .channelStopped (s.chans[c]'c.isLt).play.sampleCount
            ((s.chans[c]'c.isLt).play.lastRetired.getD (s.chans[c]'c.isLt).play.startSlot) 6 0 := by
        rw [he]
        exact (flatMap_ite _ _ _).trans (congrArg _ (List.filter_congr fun c _ => by simp))
      have hasked : members e.asked = allChans.filter fun c => decide ((s.chans[c]'c.isLt).play.state ≠ .idle) := by
        rw [he]
        refine Eq.trans (members_foldl_asked _ _) (List.filter_congr fun c _ => ?_)
        simp [mem_allChans]
      refine Ev.finish_eq ?_ hrecs hasked
      have hkept : (vec8 fun c => { e.finish.chans[c]'c.isLt with perRecord := (s.chans[c]'c.isLt).perRecord }) = e.st.chans := by
        refine chans_ext fun c => ?_
        have hper : (e.st.chans[c]'c.isLt).perRecord = (s.chans[c]'c.isLt).perRecord := by
          rw [hchan]
          exact (haltedChannel_rest (s.chans[c]'c.isLt)).2.1
        rw [vec8_get, hchans c, ← hper]
        rfl
      rw [hkept, State.sameButRecords_replaced e.finish_records, hst]
      exact congrArg (fun p => { s.haltedState .hostHalt .none with port := p }) (s.haltedState_port .hostHalt .none)

end Sys2Proof.Machine

namespace Sys2Proof.Machine

/-! ## Moves of one channel's fetch context and pool share -/

/-- The states differ in one channel's fetch context and pool share, and in the port, alone. -/
def State.fetchMoved (s t : State) (c : Chan) : Prop :=
  ∃ f q p, t = s.put c { s.chans[c.val]'c.isLt with fetch := f, pool := q } p

section FetchMoved

variable {s t u : State} {c : Chan}

theorem State.fetchMoved_refl (s : State) (c : Chan) : s.fetchMoved s c :=
  ⟨(s.chans[c.val]'c.isLt).fetch, (s.chans[c.val]'c.isLt).pool, s.port, (s.put_self c).symm⟩

theorem State.fetchMoved.trans (h : s.fetchMoved t c) (g : t.fetchMoved u c) : s.fetchMoved u c := by
  obtain ⟨f, q, p, rfl⟩ := h
  obtain ⟨f', q', p', rfl⟩ := g
  exact ⟨f', q', p', by simp⟩

/-- The state after such a move is the state before it with the channel and the port as they are then. -/
theorem State.fetchMoved.eq_put (h : s.fetchMoved t c) : t = s.put c (t.chans[c.val]'c.isLt) t.port := by
  obtain ⟨f, q, p, rfl⟩ := h
  simp

theorem State.fetchMoved.chan (h : s.fetchMoved t c) :
    t.chans[c.val]'c.isLt = { s.chans[c.val]'c.isLt with fetch := (t.chans[c.val]'c.isLt).fetch, pool := (t.chans[c.val]'c.isLt).pool } := by
  obtain ⟨f, q, p, rfl⟩ := h
  simp

theorem State.modFetch_fetchMoved (s : State) (c : Chan) (f : Fetch → Fetch) : s.fetchMoved (s.modFetch c f) c :=
  ⟨_, _, _, rfl⟩

theorem State.modPool_fetchMoved (s : State) (c : Chan) (f : Pool → Pool) : s.fetchMoved (s.modPool c f) c := ⟨_, _, _, rfl⟩

theorem State.withPort_fetchMoved (s : State) (c : Chan) (p : Port) : s.fetchMoved { s with port := p } c :=
  ⟨(s.chans[c.val]'c.isLt).fetch, (s.chans[c.val]'c.isLt).pool, p, congrArg (fun v => { s with chans := v, port := p }) (chans_set_self s c).symm⟩

theorem State.raise_fetchMoved (s : State) (c : Chan) (r : Request) : s.fetchMoved (s.raise r) c := by
  rw [s.raise_eq r]
  exact s.withPort_fetchMoved c _

theorem State.feed_fetchMoved (s : State) (c : Chan) : s.fetchMoved (s.feed c) c := by
  obtain ⟨data, owed, reserve, p, h⟩ := s.feed_frame c
  exact ⟨_, _, p, h⟩

theorem State.readSlot_fetchMoved (s : State) (c : Chan) (reread : Bool) : s.fetchMoved (s.readSlot c reread) c :=
  (s.modFetch_fetchMoved c _).trans (State.raise_fetchMoved _ c _)

theorem State.readerTo_fetchMoved (s : State) (c : Chan) (slot : Nat) : s.fetchMoved (s.readerTo c slot) c := by
  unfold State.readerTo
  dsimp only
  split
  · exact (s.modFetch_fetchMoved c _).trans (State.readSlot_fetchMoved _ c false)
  · exact (s.modFetch_fetchMoved c _).trans (State.modFetch_fetchMoved _ c _)

theorem State.readerOn_fetchMoved (s : State) (c : Chan) (successor : Option Nat) : s.fetchMoved (s.readerOn c successor) c := by
  cases successor with
  | some slot => exact s.readerTo_fetchMoved c slot
  | none => exact s.modFetch_fetchMoved c fun f => { f with reader := .listEnd }

theorem State.placeContext_fetchMoved (s : State) (c : Chan) (ctx : StepContext) : s.fetchMoved (s.placeContext c ctx) c := by
  rw [State.placeContext_eq, State.readsOn_eq]
  have hfed := (s.modFetch_fetchMoved c (·.joined ctx)).trans (State.feed_fetchMoved _ c)
  split
  · exact hfed.trans (State.modFetch_fetchMoved _ c _)
  · exact hfed.trans (State.readerOn_fetchMoved _ c _)

theorem State.placeResident_fetchMoved (s : State) (c : Chan) (ctx : StepContext) (id : BankId) :
    s.fetchMoved (s.placeResident c ctx id) c :=
  (s.modPool_fetchMoved c _).trans (State.placeContext_fetchMoved _ c _)

theorem State.released_fetchMoved (s : State) (c : Chan) (occ : Nat) : s.fetchMoved (s.released c occ) c :=
  State.fetchMoved.trans ⟨_, _, _, rfl⟩ (State.feed_fetchMoved _ c)

/-- A release lets a context held in BANK_WAIT take the bank that it frees (R29, R59). -/
theorem State.releaseBank_eq (s : State) (c : Chan) (occ : Nat) :
    s.releaseBank c occ =
      match ((s.released c occ).chans[c]'c.isLt).fetch.reader, ((s.released c occ).chans[c]'c.isLt).fetch.held,
        ((s.released c occ).chans[c]'c.isLt).pool.freeBank with
      | .bankWait, some held, some id => (s.released c occ).placeResident c held id
      | _, _, _ => s.released c occ := by
  have hload : ∀ t : Transfer, (!(match t with
      | .bankLoad c' _ occ' _ _ _ => decide (c' = c) && decide (occ' = occ)
      | _ => false)) = match t with
      | .bankLoad d _ o _ _ _ => !(decide (d = c) && decide (o = occ))
      | _ => true := by
    intro t
    cases t <;> rfl
  have hreleased : s.released c occ = State.feed (((s.modPool c fun p =>
        { p with bankA := p.bankA.releasedFrom occ, bankB := p.bankB.releasedFrom occ }).withdraw fun t =>
      match t with
      | .bankLoad c' _ occ' _ _ _ => decide (c' = c) && decide (occ' = occ)
      | _ => false).modFetch c fun f =>
      match f.data with
      | some (.step ctx _ _) => if ctx.occ = occ then f.moveData (f.cursorAfter occ) else f
      | _ => f) c := by
    have hleft : ∀ f : Fetch, (match f.data with
        | some (.step ctx _ _) => if ctx.occ = occ then f.moveData (f.cursorAfter occ) else f
        | _ => f) = match f.data with
        | some (.step d _ _) => if d.occ = occ then
            { f with data := f.cursorAfter occ, owed := owedBeyond f.owed (f.cursorAfter occ) } else f
        | _ => f := by
      intro f
      split
      · rw [← Fetch.moveData_owed]
        rfl
      · rfl
    refine congrArg (State.feed · c) ?_
    simp only [State.modPool_put, State.withdraw, State.put, State.modFetch, State.modChan, Fin.getElem_fin, hload,
      Vector.getElem_set_self, Vector.set_set, hleft, Bank.releasedFrom] <;> rfl
  rw [hreleased]
  rfl

theorem State.releaseBank_fetchMoved (s : State) (c : Chan) (occ : Nat) : s.fetchMoved (s.releaseBank c occ) c := by
  rw [State.releaseBank_eq]
  split
  · exact (s.released_fetchMoved c occ).trans (State.placeResident_fetchMoved _ c _ _)
  · exact s.released_fetchMoved c occ

theorem State.retireWrite_fetchMoved (s : State) (c : Chan) (ctx : StepContext) : s.fetchMoved (s.retireWrite c ctx) c := by
  unfold State.retireWrite
  split
  · exact s.raise_fetchMoved c _
  · exact s.fetchMoved_refl c

theorem State.dropHead_fetchMoved (s : State) (c : Chan) (ctx : StepContext) : s.fetchMoved (s.dropHead c ctx) c := by
  unfold State.dropHead
  dsimp only
  split
  · exact (s.modFetch_fetchMoved c _).trans (State.readSlot_fetchMoved _ c false)
  · exact s.modFetch_fetchMoved c _

end FetchMoved

/-- Such a move within an event. -/
theorem Ev.mod_fetchMoved {f : State → State} (e : Ev) (c : Chan) (h : e.st.fetchMoved (f e.st) c) :
    e.mod f = e.act c ((f e.st).chans[c.val]'c.isLt) (f e.st).port [] false := e.mod_act c _ _ h.eq_put

/-! ## Starvation episodes (R76, R81) -/

/-- The channel with its open episode or late DATA wait ended, and the STARVED record that ends it (R76, R81). -/
def Channel.closing (ch : Channel) (c : Chan) : Channel × List Record :=
  if ch.play.state = .running then
    if 0 < ch.play.episode then
      (starvedChannel ch ch.play.episode, [chanRecord c .starved ch.play.sampleCount ch.play.episodeSlot ch.play.episode 0])
    else (ch, [])
  else if ch.play.state = .waiting ∧ ch.play.wait = .data true then
    (starvedChannel ch ch.play.episode,
      [chanRecord c .starved ch.play.sampleCount (ch.play.lastRetired.getD ch.play.startSlot) ch.play.episode 1])
  else (ch, [])

theorem Channel.closesEpisode_iff {ch closed : Channel} {c : Chan} {records : List Record} :
    ch.closesEpisode c closed records ↔ closed = (ch.closing c).1 ∧ records = (ch.closing c).2 := by
  unfold Channel.closesEpisode Channel.closing
  by_cases hr : ch.play.state = .running
  · by_cases he : 0 < ch.play.episode
    · simp [hr, he, Nat.ne_of_gt he]
    · simp [hr, Nat.eq_zero_of_not_pos he]
  · by_cases hw : ch.play.state = .waiting ∧ ch.play.wait = .data true
    · simp [hw]
    · rw [not_and] at hw
      simp only [hr, false_and, false_or, if_false, false_implies, true_and]
      constructor
      · rintro (⟨h, h', -⟩ | ⟨-, h⟩)
        · exact absurd h' (hw h)
        · rwa [if_neg (fun h => hw h.1 h.2)]
      · intro h
        rw [if_neg (fun h => hw h.1 h.2)] at h
        exact Or.inr ⟨hw, h⟩

theorem Channel.closing_fetch (ch : Channel) (c : Chan) : (ch.closing c).1.fetch = ch.fetch := by
  unfold Channel.closing
  split <;> (split <;> rfl)

theorem Channel.closing_pool (ch : Channel) (c : Chan) : (ch.closing c).1.pool = ch.pool := by
  unfold Channel.closing
  split <;> (split <;> rfl)

theorem Channel.closing_level (ch : Channel) (c : Chan) : (ch.closing c).1.level = ch.level := by
  unfold Channel.closing
  split <;> (split <;> rfl)

/-- Ending an episode leaves all of the playout but the count of held samples and the episode (R76, R81). -/
theorem Channel.closing_play (ch : Channel) (c : Chan) :
    ∃ held episode, (ch.closing c).1.play = { ch.play with samplesHeld := held, episode := episode } := by
  unfold Channel.closing
  split <;> (split <;> exact ⟨_, _, rfl⟩)

theorem Ev.starved_act (e : Ev) (c : Chan) (slot detailB : Nat) :
    e.starved c slot detailB = e.act c (starvedChannel (e.st.chans[c.val]'c.isLt) (e.st.chans[c.val]'c.isLt).play.episode) e.st.port
      [chanRecord c .starved (e.st.chans[c.val]'c.isLt).play.sampleCount slot (e.st.chans[c.val]'c.isLt).play.episode detailB] false := by
  simp [Ev.starved, Channel.raised, starvedChannel, Condition.bit, wrap32]

theorem Ev.closeEpisode_act (e : Ev) (c : Chan) :
    e.closeEpisode c = e.act c ((e.st.chans[c.val]'c.isLt).closing c).1 e.st.port ((e.st.chans[c.val]'c.isLt).closing c).2 false := by
  unfold Ev.closeEpisode Channel.closing
  simp only [Ev.chan_eq]
  split
  · rename_i hr
    rw [if_pos hr]
    by_cases he : 0 < (e.st.chans[c.val]'c.isLt).play.episode
    · rw [if_pos he]
      exact (if_pos he).trans (e.starved_act c _ _)
    · rw [if_neg he]
      exact (if_neg he).trans (e.act_self c).symm
  · rename_i hw hd
    rw [if_neg (by rw [hw]; decide), if_pos ⟨hw, hd⟩]
    exact e.starved_act c _ _
  · rename_i hr hw
    rw [if_neg hr, if_neg (fun h => hw h.1 h.2)]
    exact (e.act_self c).symm

/-! ## Retirement (R30, R41, R70) -/

/-- A channel whose oldest step has left the window and is counted; a reader that waited for room reads on (R30, R41, R70). -/
def retiredStep (ch : Channel) (ctx : StepContext) : Channel :=
  { ch with
    fetch := { ch.fetch with
      window := ch.fetch.window.tail
      owed := owedAfter ch.fetch ctx
      reader := if ch.fetch.reader = .windowFull then .slotRead else ch.fetch.reader }
    play := { ch.play with retired := (ch.play.retired + 1) % 4294967296, lastRetired := some ctx.slot } }

/-- The port after the requests of a step's retirement (R30, R41). -/
def State.retiredPort (s : State) (c : Chan) (ctx : StepContext) : Port := ((s.retireWrite c ctx).dropHead c ctx).port

section Retirement

variable {s : State} {c : Chan} {ctx : StepContext}

theorem State.retireWrite_after (h : s.port.idleEmpty) :
    s.retireWrite c ctx = { s with port := s.port.after (if ctx.body.consume then [s.retireOf c ctx] else []) } := by
  unfold State.retireWrite
  split
  · rename_i hc
    exact State.raise_after s (s.retireOf c ctx) h rfl
  · rfl

theorem State.dropHead_chan (s : State) (c : Chan) (ctx : StepContext) :
    ((s.dropHead c ctx).chans[c.val]'c.isLt).fetch = (retiredStep (s.chans[c.val]'c.isLt) ctx).fetch
      ∧ ((s.dropHead c ctx).chans[c.val]'c.isLt).pool = (s.chans[c.val]'c.isLt).pool := by
  unfold State.dropHead retiredStep
  simp only [State.modFetch_put, State.put_chan, Fin.getElem_fin, Fetch.withoutHead_eq]
  split
  · simp only [State.readSlot_put, State.put_chan, Channel.reading, and_self]
  · simp only [State.put_chan, and_self]

theorem Ev.retireStep_act (e : Ev) (c : Chan) (ctx : StepContext) :
    e.retireStep c ctx = e.act c (retiredStep (e.st.chans[c.val]'c.isLt) ctx) (e.st.retiredPort c ctx) [] true := by
  have hmove := (e.st.retireWrite_fetchMoved c ctx).trans (State.dropHead_fetchMoved _ c ctx)
  obtain ⟨hfetch, hpool⟩ := (e.st.retireWrite c ctx).dropHead_chan c ctx
  have hwrite : (e.st.retireWrite c ctx).chans[c.val]'c.isLt = e.st.chans[c.val]'c.isLt := by
    unfold State.retireWrite State.raiseWrite
    split
    · rw [State.raise_eq]
    · rfl
  have hchan := hmove.chan
  rw [hfetch, hpool, hwrite] at hchan
  have hboth : (e.mod (·.retireWrite c ctx)).mod (·.dropHead c ctx)
      = e.act c (((e.st.retireWrite c ctx).dropHead c ctx).chans[c.val]'c.isLt) (e.st.retiredPort c ctx) [] false :=
    e.mod_fetchMoved (f := fun s => (s.retireWrite c ctx).dropHead c ctx) c hmove
  rw [Ev.retireStep, hboth, hchan]
  simp [retiredStep, wrap32]

/-- The requests of a retirement, at an IDLE or a BUSY port (R30, R41, R156). -/
theorem State.retiredPort_after (h : s.port.idleEmpty) : s.retiredPort c ctx = s.port.after (s.retireRequests c ctx) := by
  unfold State.retiredPort State.retireRequests
  rw [State.retireWrite_after h]
  unfold State.dropHead
  simp only [State.modFetch_put, State.put_chan, Fin.getElem_fin, Fetch.withoutHead_reader]
  split
  · rename_i hr
    rw [State.readSlot_put_after c (Port.after_idleEmpty _ _ h)]
    simp only [State.put_port, State.put_chan, Port.after_append]
    simp [State.slotRequest] <;> rfl
  · rename_i hr
    simp

end Retirement

end Sys2Proof.Machine

namespace Sys2Proof.Machine

/-! ## The idle level, and the mirrors of a source within an event -/

/-- A channel whose lane turns to the idle level: at its next expiry, or at once (R102; log 11). -/
def Channel.turned (atExpiry : Bool) (ch : Channel) : Channel :=
  if atExpiry then { ch with level := { ch.level with idleDue := true } } else ch.atIdle

/-- A mirror whose source's lane turns to the idle level (R105; log 11). -/
def mirrorTurned (atExpiry : Bool) (source m : Channel) : Channel :=
  if atExpiry then { m with level := { m.level with idleDue := true } } else mirrorAtIdle m source

theorem Channel.turned_play (x : Bool) (ch : Channel) : (ch.turned x).play = ch.play := by
  unfold Channel.turned
  split <;> rfl

theorem Channel.turned_fetch (x : Bool) (ch : Channel) : (ch.turned x).fetch = ch.fetch := by
  unfold Channel.turned
  split <;> rfl

theorem Channel.turned_pool (x : Bool) (ch : Channel) : (ch.turned x).pool = ch.pool := by
  unfold Channel.turned
  split <;> rfl

theorem State.toIdleLevel_put {s : State} {c : Chan} (x : Bool) (h : (s.chans[c.val]'c.isLt).play.state ≠ .mirroring) :
    s.toIdleLevel c x = (s.mirrorsMoved c (mirrorTurned x ((s.chans[c.val]'c.isLt).turned x))).put c ((s.chans[c.val]'c.isLt).turned x) s.port := by
  cases x with
  | false => exact State.showIdle_put h
  | true =>
    have hfirst : s.showIdleNext c = (s.mirrorsOf c).foldl
        (fun s d => s.modLevel d fun l => { l with idleDue := true }) (s.put c ((s.chans[c.val]'c.isLt).turned true) s.port) := rfl
    have hstill : ((s.chans[c.val]'c.isLt).turned true).play.state ≠ .mirroring := by rwa [Channel.turned_play]
    have hlist : s.mirrorsOf c = (s.put c ((s.chans[c.val]'c.isLt).turned true) s.port).mirrorsOf c := by
      refine List.filter_congr fun d _ => Bool.eq_iff_iff.2 ?_
      have hput := State.mirrorsOf_put s c _ s.port hstill (d := d)
      simp only [State.mirrorsOf, List.mem_filter, mem_allChans, true_and] at hput
      rw [hput]
      refine ⟨fun hd => ⟨hd, ?_⟩, fun hd => hd.1⟩
      rintro rfl
      simp [h] at hd
    rw [State.toIdleLevel, if_pos rfl, hfirst, hlist]
    refine Eq.trans (State.foldl_mirrors (k := fun m src => mirrorTurned true src m) _ c (fun t m _ => rfl)
      (by rwa [State.put_chan])) ?_
    rw [State.put_chan, State.put_mirrorsMoved _ _ _ _ _ hstill]

/-- The mirrors of a channel changed alike within an event. -/
def Ev.moved (e : Ev) (c : Chan) (g : Channel → Channel) : Ev := { e with st := e.st.mirrorsMoved c g }

section Moved

variable (e : Ev) (c : Chan) (g : Channel → Channel) (ch : Channel) (p : Port) (rs : List Record) (a : Bool)

@[simp] theorem Ev.moved_st : (e.moved c g).st = e.st.mirrorsMoved c g := rfl
@[simp] theorem Ev.moved_recs : (e.moved c g).recs = e.recs := rfl
@[simp] theorem Ev.moved_asked : (e.moved c g).asked = e.asked := rfl

variable {e c} in
theorem Ev.moved_none (h : e.st.unmirrored c) : e.moved c g = e := by
  rw [Ev.moved, State.mirrorsMoved_none g h]

theorem Ev.act_moved (h : ch.play.state ≠ .mirroring) : (e.act c ch p rs a).moved c g = (e.moved c g).act c ch p rs a := by
  simp only [Ev.moved, Ev.act, State.put_mirrorsMoved _ _ _ _ _ h]

theorem Ev.toIdleLevel_act (x : Bool) (h : ch.play.state ≠ .mirroring) :
    (e.act c ch p rs a).mod (·.toIdleLevel c x) = (e.moved c (mirrorTurned x (ch.turned x))).act c (ch.turned x) p rs a := by
  have hst := State.toIdleLevel_put (s := e.st.put c ch p) (c := c) x (by rwa [State.put_chan])
  rw [State.put_chan, State.put_mirrorsMoved _ _ _ _ _ h, State.put_put, State.put_port] at hst
  simp only [Ev.mod, Ev.act_st, hst]
  rfl

theorem Ev.showIdle_act (h : ch.play.state ≠ .mirroring) :
    (e.act c ch p rs a).mod (·.showIdle c) = (e.moved c (mirrorTurned false ch.atIdle)).act c ch.atIdle p rs a :=
  e.toIdleLevel_act c ch p rs a false h

end Moved

/-! ## Stops (R88) -/

/-- A channel that stops, before its lane turns to the idle level: `closed` is the channel with its open episode ended and its
playing step retired (R88, R111, R112). -/
def stoppedChannel (closed : Channel) (reason : StopReason) : Channel :=
  let ended := fun (m : OneShot) =>
    if reason = .drain ∨ reason = .endStep then m.quiet.endOfPlay else m.quiet
  let condition : BitVec 9 := if reason = .leaderGone then 0x080 else 0
  { closed with
    fetch := purgedFetch closed.fetch
    pool := emptyShare
    play := { closed.play with state := .idle, wait := .none, pendingStop := .none, lastStop := reason, episode := 0 }
    level := { closed.level with markers := bothMarkers ended closed.level.markers }
    perRecord := closed.perRecord ||| condition
    accumulated := closed.accumulated ||| condition }

/-- The CHANNEL_STOPPED record of a stop (R88, R173). -/
def stopRecord (c : Chan) (closed : Channel) (reason : StopReason) : Record :=
  chanRecord c .channelStopped closed.play.sampleCount (closed.play.lastRetired.getD closed.play.startSlot) reason.code 0

/-- What a stop does once the open episode is ended and a cut step retired: actions 3 to 5 of R88. -/
def Ev.stopFrom (e : Ev) (c : Chan) (reason : StopReason) (x : Bool) : Ev :=
  let e3 := e.mod (·.purge c false)
  let e4 := (e3.setState c .idle .none).modPlay c fun p => { p with pendingStop := .none, lastStop := reason, episode := 0 }
  let e5 := e4.addChanRecord c .channelStopped (e4.chan c).play.stopSlot reason.code 0
  let e6 := if reason = .leaderGone then e5.raiseCond c .leaderGone else e5
  let e7 := e6.mod (·.quietMarkers c)
  let e8 := if reason = .drain ∨ reason = .endStep then e7.mod (·.endOfPlay c) else e7
  e8.mod (·.toIdleLevel c x)

theorem Ev.stopFrom_act (e : Ev) (c : Chan) (reason : StopReason) (x : Bool) :
    e.stopFrom c reason x =
      let stopped := (stoppedChannel (e.st.chans[c.val]'c.isLt) reason).turned x
      (e.moved c (mirrorTurned x stopped)).act c stopped (e.st.port.purgedOf c) [stopRecord c (e.st.chans[c.val]'c.isLt) reason]
        (!decide ((e.st.chans[c.val]'c.isLt).play.state = .idle ∧ (e.st.chans[c.val]'c.isLt).play.wait = .none)) := by
  have hcore : e.stopFrom c reason x = Ev.mod (e.act c (stoppedChannel (e.st.chans[c.val]'c.isLt) reason) (e.st.port.purgedOf c)
      [stopRecord c (e.st.chans[c.val]'c.isLt) reason]
      (!decide ((e.st.chans[c.val]'c.isLt).play.state = .idle ∧ (e.st.chans[c.val]'c.isLt).play.wait = .none))) (·.toIdleLevel c x) := by
    have hlatch : ∀ (e : Ev), e.mod (·.endOfPlay c) = e.modLevel c fun l =>
        { l with markers := bothMarkers (·.endOfPlay) l.markers } := fun _ => rfl
    unfold Ev.stopFrom
    refine congrArg (Ev.mod · (·.toIdleLevel c x)) ?_
    by_cases hgone : reason = .leaderGone
    · subst hgone
      simp [stoppedChannel, stopRecord, Channel.raised, Condition.bit, Play.stopSlot, bothMarkers]
    · by_cases hend : reason = .drain ∨ reason = .endStep
      · simp [hgone, hend, hlatch, stoppedChannel, stopRecord, Play.stopSlot, bothMarkers]
      · simp [hgone, hend, stoppedChannel, stopRecord, Play.stopSlot, bothMarkers]
  rw [hcore, Ev.toIdleLevel_act]
  exact fun h => by cases h

/-- A stop that retires no step (R88). -/
theorem Ev.stopCore_eq (e : Ev) (c : Chan) (reason : StopReason) (x : Bool)
    (h : (e.st.chans[c.val]'c.isLt).play.state ≠ .running ∨ reason ≠ .cut ∨ (e.st.chans[c.val]'c.isLt).headStep = none) :
    e.stopCore c reason x = (e.closeEpisode c).stopFrom c reason x := by
  have hhead : ((e.closeEpisode c).chan c).headStep = (e.st.chans[c.val]'c.isLt).headStep := by
    simp [Ev.closeEpisode_act, Channel.headStep, Channel.head, Channel.closing_fetch]
  refine congrArg (Ev.stopFrom · c reason x) ?_
  rw [hhead]
  split
  · rename_i hstate hstep
    rcases h with h | h | h
    · exact (h hstate).elim
    · exact (h rfl).elim
    · cases hstep.symm.trans h
  · rfl

/-- A CUT of a RUNNING channel retires its playing step (R84, R88). -/
theorem Ev.stopCore_cut (e : Ev) (c : Chan) (x : Bool) {ctx : StepContext} (h : (e.st.chans[c.val]'c.isLt).plays ctx) :
    e.stopCore c .cut x = ((e.closeEpisode c).retirePlaying c ctx).stopFrom c .cut x := by
  obtain ⟨hstate, hstep⟩ := h
  have hhead : ((e.closeEpisode c).chan c).headStep = some ctx := by
    rw [← hstep]
    simp [Ev.closeEpisode_act, Channel.headStep, Channel.head, Channel.closing_fetch]
  refine congrArg (Ev.stopFrom · c .cut x) ?_
  rw [hhead, Ev.chan_eq, hstate]

/-! ## Faults (R89) -/

/-- A faulted channel whose lane has still to turn to the idle level (R89, R112). -/
def faultedShowing (closed : Channel) (cause : FaultCause) : Channel :=
  { closed with
    fetch := purgedFetch closed.fetch
    pool := emptyShare
    play := { closed.play with state := .faulted, wait := .none, pendingStop := .none, faultCause := cause, episode := 0 }
    level := { closed.level with markers := bothMarkers OneShot.quiet closed.level.markers }
    perRecord := closed.perRecord ||| cause.condition.bit
    accumulated := closed.accumulated ||| cause.condition.bit }

theorem faultedShowing_atIdle (closed : Channel) (cause : FaultCause) :
    (faultedShowing closed cause).atIdle = faultedChannel closed cause := by
  simp [faultedShowing, Channel.atIdle, faultedChannel, quietedChannel, FaultCause.condition_bit, bothMarkers,
    OneShot.quiet_present]

/-- A fault: the channel is purged, its record raised and its lane at the idle level; then the group is seen to (R89). -/
theorem Ev.faultChannel_act (e : Ev) (c : Chan) (cause : FaultCause) :
    e.faultChannel c cause =
      let closed := ((e.st.chans[c.val]'c.isLt).closing c).1
      let faulted := faultedChannel closed cause
      Ev.groupAfter ((e.moved c (mirrorTurned false faulted)).act c faulted (e.st.port.purgedOf c)
        (((e.st.chans[c.val]'c.isLt).closing c).2 ++ [chanRecord c .channelFault closed.play.sampleCount
          (((e.st.chans[c.val]'c.isLt).head.map WindowEntry.slot).getD (e.st.chans[c.val]'c.isLt).play.startSlot) cause.code cause.subCode])
        (!decide (closed.play.state = .faulted ∧ closed.play.wait = .none))) c (decide ((e.st.chans[c.val]'c.isLt).play.state = .armed)) := by
  let closed := ((e.st.chans[c.val]'c.isLt).closing c).1
  refine congrArg (Ev.groupAfter · c (decide ((e.st.chans[c.val]'c.isLt).play.state = .armed))) (Eq.trans (congrArg (Ev.mod · (·.showIdle c))
    (?pre : _ = e.act c (faultedShowing closed cause) (e.st.port.purgedOf c)
      (((e.st.chans[c.val]'c.isLt).closing c).2 ++ [chanRecord c .channelFault closed.play.sampleCount
        (((e.st.chans[c.val]'c.isLt).head.map WindowEntry.slot).getD (e.st.chans[c.val]'c.isLt).play.startSlot) cause.code cause.subCode])
      (!decide (closed.play.state = .faulted ∧ closed.play.wait = .none)))) ?_)
  case pre =>
    simp [Ev.closeEpisode_act, faultedShowing, Channel.raised, closed]
  · rw [Ev.showIdle_act, faultedShowing_atIdle]
    exact fun h => by cases h

end Sys2Proof.Machine

namespace Sys2Proof.Machine

/-! ## How the port moves on while requests are raised and withdrawn (R154, R156, R160) -/

/-- The port moves on from `p` to `q` by raising, granting and withdrawing: a transfer in flight stays in flight, a well-formed port
stays so, and no waiting request of a kind in `K` is lost while the port is BUSY. -/
structure Port.grows (K : Transfer → Prop) (p q : Port) : Prop where
  busy : p.busy = true → q.busy = true ∧ q.inFlight = p.inFlight ∧ q.discard = p.discard
  wf : p.wf → q.wf
  keeps : p.busy = true → ∀ r ∈ p.waiting, K r.kind → r ∈ q.waiting

/-- The port holds a request: it is BUSY and the request stands. -/
def Port.holds (p : Port) (r : Request) : Prop := p.busy = true ∧ r ∈ p.standing

section Grows

variable {K : Transfer → Prop} {p q : Port}

theorem Port.grows_refl (K : Transfer → Prop) (p : Port) : p.grows K p := ⟨fun h => ⟨h, rfl, rfl⟩, fun h => h, fun _ _ h _ => h⟩

theorem Port.grows.trans {r : Port} (h : p.grows K q) (g : q.grows K r) : p.grows K r where
  busy hb := by
    obtain ⟨hb', hf, hd⟩ := h.busy hb
    obtain ⟨hb'', hf', hd'⟩ := g.busy hb'
    exact ⟨hb'', hf'.trans hf, hd'.trans hd⟩
  wf hw := g.wf (h.wf hw)
  keeps hb x hx hk := g.keeps (h.busy hb).1 x (h.keeps hb x hx hk) hk

theorem Port.grows.holds {r : Request} (h : p.grows K q) (hk : K r.kind) (hr : p.holds r) : q.holds r := by
  obtain ⟨hb, hr⟩ := hr
  obtain ⟨hb', hf, -⟩ := h.busy hb
  refine ⟨hb', ?_⟩
  rw [Port.standing, List.mem_append] at hr ⊢
  rw [hf]
  exact hr.imp_right fun hw => h.keeps hb r hw hk

theorem Port.grows.mono {K' : Transfer → Prop} (h : p.grows K q) (hK : ∀ t, K' t → K t) : p.grows K' q :=
  ⟨h.busy, h.wf, fun hb r hr hk => h.keeps hb r hr (hK _ hk)⟩

theorem Port.without_grows {f : Transfer → Bool} (hf : ∀ t, K t → f t = false) (p : Port) : p.grows K (p.without f) where
  busy hb := ⟨hb, rfl, rfl⟩
  wf hw := ⟨hw.1, fun hb => by simp [Port.without, hw.2 hb]⟩
  keeps _ r hr hk := List.mem_filter.2 ⟨hr, by simp [hf _ hk]⟩

theorem Port.purgedOf_grows {c : Chan} (hK : ∀ t, K t → t.chan? ≠ some c) (p : Port) : p.grows K (p.purgedOf c) :=
  Port.without_grows (f := fun t => decide (t.chan? = some c)) (fun t ht => decide_eq_false (hK t ht)) p

variable {s t u : State}

/-- Raising a request makes the port BUSY, and the request stands (R156). -/
theorem State.raise_holds (s : State) (r : Request) : (s.raise r).port.holds r := by
  unfold State.raise State.arbitrate
  split
  · rename_i hb
    exact ⟨hb, by simp [Port.standing]⟩
  · split
    · rename_i q hq
      obtain ⟨p, hp, hb, hf, -, hw⟩ := State.grant_port { s with port := { s.port with waiting := s.port.waiting ++ [r] } } q
      rw [hp]
      refine ⟨hb, ?_⟩
      simp only [Port.standing, hf, hw, Option.toList, List.mem_append]
      by_cases h : r = q
      · exact Or.inl (by simp [h])
      · exact Or.inr ((List.mem_erase_of_ne h).2 (by simp))
    · rename_i hn
      have := State.choose_none _ hn
      simp at this

theorem State.raise_grows (s : State) (r : Request) : s.port.grows K (s.raise r).port where
  busy hb := by simp [s.raise_busy r hb, hb]
  wf := s.raise_wf r
  keeps hb x hx _ := by simp [s.raise_busy r hb, hx]

theorem State.raisedPort_grows (s : State) (r : Request) : s.port.grows K (s.raisedPort r) := s.raise_grows r

theorem State.readSlot_grows (s : State) (c : Chan) (reread : Bool) : s.port.grows K (s.readSlot c reread).port :=
  State.raise_grows (s.modFetch c _) _

theorem State.readerTo_grows (s : State) (c : Chan) (slot : Nat) : s.port.grows K (s.readerTo c slot).port := by
  unfold State.readerTo
  dsimp only
  split
  · exact State.readSlot_grows (s.modFetch c fun f => { f with cursor := slot }) c false
  · exact Port.grows_refl K _

theorem State.readerOn_grows (s : State) (c : Chan) (successor : Option Nat) : s.port.grows K (s.readerOn c successor).port := by
  cases successor with
  | some slot => exact s.readerTo_grows c slot
  | none => exact Port.grows_refl K _

theorem State.resumeReader_grows (s : State) (c : Chan) (ctx : StepContext) : s.port.grows K (s.resumeReader c ctx).port := by
  unfold State.resumeReader
  split
  · exact s.readerOn_grows c _
  · exact Port.grows_refl K _

theorem State.feed_grows (s : State) (c : Chan) : s.port.grows K (s.feed c).port := by
  unfold State.feed
  dsimp only
  split
  · split
    · exact Port.grows_refl K _
    · split
      · exact State.raise_grows (s.modFetch c _) _
      · split
        · exact State.raise_grows ((s.modFetch c _).modPool c _) _
        · exact Port.grows_refl K _
  · exact Port.grows_refl K _

theorem State.placeContext_grows (s : State) (c : Chan) (ctx : StepContext) : s.port.grows K (s.placeContext c ctx).port := by
  rw [State.placeContext_eq, State.readsOn_eq]
  have hfed : s.port.grows K ((s.modFetch c (·.joined ctx)).feed c).port := State.feed_grows (s.modFetch c (·.joined ctx)) c
  split
  · exact hfed
  · exact hfed.trans (State.readerOn_grows _ c _)

theorem State.placeResident_grows (s : State) (c : Chan) (ctx : StepContext) (id : BankId) :
    s.port.grows K (s.placeResident c ctx id).port := State.placeContext_grows (s.modPool c _) c _

theorem State.released_grows {c : Chan} (hK : ∀ t, K t → t.chan? ≠ some c) (s : State) (occ : Nat) :
    s.port.grows K (s.released c occ).port := by
  unfold State.released
  refine Port.grows.trans ?_ (State.feed_grows _ c)
  have hload : ∀ r : Request, K r.kind → (match r.kind with
      | .bankLoad d _ o _ _ _ => !(decide (d = c) && decide (o = occ))
      | _ => true) = true := by
    intro r hr
    have hchan := hK _ hr
    split
    · rename_i d _ o _ _ _ h
      rw [h] at hchan
      have hd : d ≠ c := fun h => hchan (congrArg some h)
      rw [decide_eq_false hd]
      rfl
    · rfl
  exact ⟨fun hb => ⟨hb, rfl, rfl⟩, fun hw => ⟨hw.1, fun hb => by simp [hw.2 hb]⟩,
    fun _ r hr hk => List.mem_filter.2 ⟨hr, hload r hk⟩⟩

theorem State.releaseBank_grows {c : Chan} (hK : ∀ t, K t → t.chan? ≠ some c) (s : State) (occ : Nat) :
    s.port.grows K (s.releaseBank c occ).port := by
  rw [State.releaseBank_eq]
  have hreleased := s.released_grows hK occ
  split
  · exact hreleased.trans (State.placeResident_grows _ c _ _)
  · exact hreleased

theorem State.retireWrite_grows (s : State) (c : Chan) (ctx : StepContext) : s.port.grows K (s.retireWrite c ctx).port := by
  unfold State.retireWrite
  split
  · exact s.raise_grows _
  · exact Port.grows_refl K _

theorem State.dropHead_grows (s : State) (c : Chan) (ctx : StepContext) : s.port.grows K (s.dropHead c ctx).port := by
  unfold State.dropHead
  dsimp only
  split
  · exact State.readSlot_grows (s.modFetch c fun f => f.withoutHead ctx) c false
  · exact Port.grows_refl K _

theorem State.retiredPort_grows (s : State) (c : Chan) (ctx : StepContext) : s.port.grows K (s.retiredPort c ctx) :=
  (s.retireWrite_grows c ctx).trans (State.dropHead_grows _ c ctx)

/-- The retire write of a Consume step stands once the step has retired (R41). -/
theorem State.retiredPort_holds (s : State) (c : Chan) {ctx : StepContext} (h : ctx.body.consume = true) :
    (s.retiredPort c ctx).holds (s.retireOf c ctx) := by
  have hwrite : (s.retireWrite c ctx).port.holds (s.retireOf c ctx) := by
    unfold State.retireWrite
    rw [if_pos h]
    exact s.raise_holds (s.retireOf c ctx)
  exact (State.dropHead_grows (K := fun _ => True) _ c ctx).holds trivial hwrite

/-! ### Records and status blocks (R165, R176) -/

theorem State.raiseOverrun_grows (s : State) : s.port.grows K s.raiseOverrun.port := by
  unfold State.raiseOverrun
  split
  · exact Port.grows_refl K _
  · exact State.raise_grows (s.modReport _) _

theorem State.placeFresh_grows (s : State) (q : QueuedRecord) : s.port.grows K (s.placeFresh q).port :=
  (s.raise_grows _).trans (State.raise_grows _ _)

theorem State.loseRecord_grows (s : State) (q : QueuedRecord) : s.port.grows K (s.loseRecord q).port :=
  State.raiseOverrun_grows (s.modReport _)

theorem State.joinQueue_grows (s : State) (r : Record) : s.port.grows K (s.joinQueue r).port := by
  unfold State.joinQueue
  split
  · exact Port.grows_refl K _
  · exact State.raiseOverrun_grows (s.modReport _)

theorem State.raiseTakenRead_grows (s : State) : s.port.grows K s.raiseTakenRead.port := State.raise_grows (s.modReport _) _

theorem State.handOver_grows (s : State) (r : Record) : s.port.grows K (s.handOver r).port := by
  unfold State.handOver
  split
  · exact s.joinQueue_grows r
  · split
    · exact s.placeFresh_grows _
    · split
      · dsimp only
        split
        · exact (s.joinQueue_grows r).trans (State.raiseTakenRead_grows _)
        · exact s.joinQueue_grows r
      · exact s.loseRecord_grows _

theorem State.handOverAll_grows (l : List Record) (s : State) : s.port.grows K (State.handOverAll l s).port := by
  induction l generalizing s with
  | nil => exact Port.grows_refl K _
  | cons r rest ih =>
    unfold State.handOverAll
    dsimp only
    split
    · split
      · exact (s.handOver_grows _).trans (ih _)
      · exact (s.handOver_grows _).trans (ih (State.modChan _ _ _))
    · exact (s.handOver_grows _).trans (ih _)

theorem State.writeStatusBlocks_grows (l : List Chan) (s : State) :
    s.port.grows K (l.foldl State.writeStatusBlock s).port :=
  List.foldlRecOn (motive := fun t : State => s.port.grows K t.port) _ _ (Port.grows_refl K _)
    fun t ht _ _ => ht.trans (t.raise_grows _)

theorem Ev.finish_grows (e : Ev) : e.st.port.grows K e.finish.port :=
  (State.handOverAll_grows e.recs e.st).trans (State.writeStatusBlocks_grows _ _)

end Grows

/-! ## A channel's conditions once its records are handed over (R165) -/

theorem State.handOverAll_cons (r : Record) (rest : List Record) (s : State) :
    ∃ t, State.handOverAll (r :: rest) s = State.handOverAll rest t := by
  rw [State.handOverAll]
  cases r.source with
  | channel c =>
    dsimp only
    split <;> exact ⟨_, rfl⟩
  | line k => exact ⟨_, rfl⟩
  | engine => exact ⟨_, rfl⟩

/-- The last record of a channel carries and empties its conditions (R165). -/
theorem State.handOverAll_last {r : Record} {rest : List Record} {c : Chan} (hr : r.source = .channel c)
    (hrest : ∀ q ∈ rest, q.source ≠ .channel c) (s : State) :
    ∃ t : State, State.handOverAll (r :: rest) s = State.handOverAll rest (t.modChan c fun ch => { ch with perRecord := 0 }) := by
  have hlast : ¬(rest.any fun r => decide (r.source = .channel c)) = true := by
    rw [List.any_eq_true]
    rintro ⟨q, hq, hsource⟩
    exact hrest q hq (of_decide_eq_true hsource)
  rw [State.handOverAll]
  simp only [hr]
  rw [if_neg hlast]
  exact ⟨_, rfl⟩

/-- A channel that raised a record in an event has handed its conditions over at its end (R165). -/
theorem State.handOverAll_perRecord {l : List Record} {c : Chan} (h : ∃ r ∈ l, r.source = .channel c) (s : State) :
    ((State.handOverAll l s).chans[c.val]'c.isLt).perRecord = 0 := by
  induction l generalizing s with
  | nil => obtain ⟨r, hr, -⟩ := h; cases hr
  | cons r rest ih =>
    by_cases hrest : ∃ q ∈ rest, q.source = .channel c
    · obtain ⟨t, ht⟩ := State.handOverAll_cons r rest s
      rw [ht]
      exact ih hrest t
    · have hnone : ∀ q ∈ rest, q.source ≠ .channel c := fun q hq hs => hrest ⟨q, hq, hs⟩
      obtain ⟨q, hq, hsource⟩ := h
      have hr : r.source = .channel c := by
        rcases List.mem_cons.1 hq with rfl | hq
        · exact hsource
        · exact (hnone q hq hsource).elim
      obtain ⟨t, ht⟩ := State.handOverAll_last hr hnone s
      have hquiet := State.handOverAll_quiet rest (t.modChan c fun ch => { ch with perRecord := 0 }) c hnone
      rw [Fin.getElem_fin, Fin.getElem_fin] at hquiet
      rw [ht, hquiet, State.modChan_same]

theorem State.writeStatusBlocks_chans (l : List Chan) (s : State) : (l.foldl State.writeStatusBlock s).chans = s.chans :=
  List.foldlRecOn (motive := fun t : State => t.chans = s.chans) _ _ rfl fun t ht c _ => (t.writeStatusBlock_chans c).trans ht

theorem Ev.finish_perRecord {e : Ev} {c : Chan} (h : ∃ r ∈ e.recs, r.source = .channel c) :
    (e.finish.chans[c.val]'c.isLt).perRecord = 0 := by
  rw [Ev.finish, State.writeStatusBlocks_chans]
  exact State.handOverAll_perRecord h e.st

/-- A channel that raised no record in an event stands as the event left it (R165). -/
theorem Ev.finish_quiet {e : Ev} {c : Chan} (h : ∀ r ∈ e.recs, r.source ≠ .channel c) :
    e.finish.chans[c.val]'c.isLt = e.st.chans[c.val]'c.isLt := by
  rw [Ev.finish, State.writeStatusBlocks_chans]
  exact State.handOverAll_quiet e.recs e.st c h

end Sys2Proof.Machine

namespace Sys2Proof.Machine

/-! ## What an event leaves of a channel that it does not act on -/

/-- The event goes on from `e` to `e'` without touching channel `c`: it acts on other channels and the port alone, raises no record of
`c`, and loses no request but fetch and sample requests. -/
structure Ev.spares (e e' : Ev) (c : Chan) : Prop where
  chan : e'.st.chans[c.val]'c.isLt = e.st.chans[c.val]'c.isLt
  rest : e.st.sameButChannels e'.st
  recs : ∃ rs, e'.recs = e.recs ++ rs ∧ ∀ r ∈ rs, r.source ≠ .channel c
  port : e.st.port.grows (fun t => t.chan? = none ∨ t.chan? = some c) e'.st.port

section Spares

variable {e e' e'' : Ev} {c d : Chan}

theorem Ev.spares_refl (e : Ev) (c : Chan) : e.spares e c :=
  ⟨rfl, e.st.sameButChannels_refl, ⟨[], by simp, by simp⟩, Port.grows_refl _ _⟩

theorem Ev.spares.trans (h : e.spares e' c) (g : e'.spares e'' c) : e.spares e'' c := by
  obtain ⟨rs, hrs, hc⟩ := h.recs
  obtain ⟨rs', hrs', hc'⟩ := g.recs
  refine ⟨g.chan.trans h.chan, State.sameButChannels_trans h.rest g.rest, ⟨rs ++ rs', ?_, ?_⟩, h.port.trans g.port⟩
  · rw [hrs', hrs, List.append_assoc]
  · intro r hr
    exact (List.mem_append.1 hr).elim (hc r) (hc' r)

/-- A kind of request of channel `c`, or of none, is not one of another channel. -/
theorem Transfer.chan?_ne {t : Transfer} (hd : d ≠ c) (h : t.chan? = none ∨ t.chan? = some c) : t.chan? ≠ some d := by
  rcases h with h | h
  · rw [h]
    exact nofun
  · rw [h]
    exact fun h => hd (Option.some.inj h).symm

theorem Ev.act_spares (e : Ev) {ch : Channel} {p : Port} {rs : List Record} {a : Bool} (hd : d ≠ c)
    (hrs : ∀ r ∈ rs, r.source = .channel d) (hp : e.st.port.grows (fun t => t.chan? ≠ some d) p) :
    e.spares (e.act d ch p rs a) c :=
  ⟨State.put_other _ _ _ hd, State.put_sameButChannels .., ⟨rs, rfl, fun r hr h => hd (by
    have := (hrs r hr).symm.trans h
    exact Source.channel.inj this)⟩, hp.mono fun t => Transfer.chan?_ne hd⟩

theorem Ev.moved_spares (e : Ev) (d : Chan) (g : Channel → Channel) (hc : (e.st.chans[c.val]'c.isLt).play.state ≠ .mirroring) :
    e.spares (e.moved d g) c :=
  ⟨State.mirrorsMoved_other _ _ _ hc, State.mirrorsMoved_sameButChannels .., ⟨[], by simp, by simp⟩, Port.grows_refl _ _⟩

theorem Ev.forEach_spares {l : List Chan} {f : Ev → Chan → Ev} (h : ∀ e', e.spares e' c → ∀ d ∈ l, e'.spares (f e' d) c) :
    e.spares (e.forEach l f) c :=
  List.foldlRecOn (motive := fun e' : Ev => e.spares e' c) l f (e.spares_refl c) fun e' he d hd => he.trans (h e' he d hd)

theorem chanRecord_source (c : Chan) (kind : RecordKind) (time slot detailA detailB : Nat) :
    (chanRecord c kind time slot detailA detailB).source = .channel c := rfl

theorem Channel.closing_source (ch : Channel) (c : Chan) : ∀ r ∈ (ch.closing c).2, r.source = .channel c := by
  unfold Channel.closing
  split <;> (split <;> simp [chanRecord_source])

theorem Ev.purged_grows (p : Port) (c : Chan) : p.grows (fun t => t.chan? ≠ some c) (p.purgedOf c) :=
  Port.purgedOf_grows (fun _ ht => ht) p

theorem Ev.stopFrom_spares (e : Ev) (hd : d ≠ c) (hc : (e.st.chans[c.val]'c.isLt).play.state ≠ .mirroring) (reason : StopReason) (x : Bool) :
    e.spares (e.stopFrom d reason x) c := by
  rw [Ev.stopFrom_act]
  refine (e.moved_spares d _ hc).trans (Ev.act_spares _ hd ?_ (Ev.purged_grows _ d))
  simp [stopRecord, chanRecord_source]

theorem Ev.closeEpisode_spares (e : Ev) (hd : d ≠ c) : e.spares (e.closeEpisode d) c := by
  rw [Ev.closeEpisode_act]
  exact e.act_spares hd (Channel.closing_source _ d) (Port.grows_refl _ _)

theorem Channel.follows_self (ch : Channel) (c : Chan) : ch.follows c c = false := by
  unfold Channel.follows
  split <;> simp

/-- The loss of a leader spares a channel that does not follow it and mirrors none (R93). -/
theorem Ev.loseLeader_spares {leader : Chan} (hf : (e.st.chans[c.val]'c.isLt).follows c leader = false)
    (hc : (e.st.chans[c.val]'c.isLt).play.state ≠ .mirroring) (x : Bool) (counted : BitVec 8) :
    e.spares (e.loseLeader leader x counted) c := by
  refine Ev.forEach_spares fun e' he f _ => ?_
  dsimp only
  split
  · rename_i hfollows
    have hd : f ≠ c := by
      rintro rfl
      rw [Ev.chan_eq, he.chan, hf] at hfollows
      cases hfollows
    rw [Ev.modPlay_act]
    have hmod := e'.act_spares (ch := { e'.st.chans[f.val]'f.isLt with play := (e'.st.chans[f.val]'f.isLt).play.modGroup fun g =>
      { g with leaderLost := true } }) (p := e'.st.port) (rs := []) (a := false) hd (by simp) (Port.grows_refl _ _)
    split
    · rename_i hwait
      rw [Ev.stopCore_eq _ _ _ _ (Or.inr (Or.inl (by decide)))]
      have hclose := Ev.closeEpisode_spares (e'.act f { e'.st.chans[f.val]'f.isLt with play := (e'.st.chans[f.val]'f.isLt).play.modGroup fun g =>
        { g with leaderLost := true } } e'.st.port [] false) hd
      refine hmod.trans (hclose.trans (Ev.stopFrom_spares _ hd ?_ _ _))
      rw [hclose.chan, hmod.chan, he.chan]
      exact hc
    · exact hmod
  · exact e'.spares_refl c

/-- The end of a stop or fault of a channel that was not ARMED spares a channel that does not follow it and mirrors none (R93). -/
theorem Ev.groupAfter_spares (e : Ev) (hf : (e.st.chans[c.val]'c.isLt).follows c d = false) (hc : (e.st.chans[c.val]'c.isLt).play.state ≠ .mirroring) :
    e.spares (e.groupAfter d false) c := by
  unfold Ev.groupAfter
  simp only [Bool.false_eq_true, if_false]
  split
  · split
    · exact ⟨rfl, e.st.sameButChannels_refl, ⟨[], by simp, by simp⟩, Port.grows_refl _ _⟩
    · exact Ev.loseLeader_spares hf hc _ _
  · exact e.spares_refl c

/-- A leader that no channel follows is lost to none (R93). -/
theorem Ev.loseLeader_alone {leader : Chan} (h : ∀ d : Chan, (e.st.chans[d]'d.isLt).follows d leader = false) (x : Bool)
    (counted : BitVec 8) : e.loseLeader leader x counted = e := by
  unfold Ev.loseLeader Ev.forEach
  refine List.foldlRecOn (motive := fun e' : Ev => e' = e) _ _ rfl fun e' he d _ => ?_
  subst he
  exact if_neg (by rw [Ev.chan, h d]; decide)

/-- The end of a stop or fault of a channel that was not ARMED and that no channel follows (R93). -/
theorem Ev.groupAfter_alone (e : Ev) (h : ∀ d : Chan, (e.st.chans[d]'d.isLt).follows d c = false) :
    ∃ lost, e.groupAfter c false = { e with lost := lost } ∧ (lost = e.lost ∨ lost = e.lost ||| maskOf c) := by
  unfold Ev.groupAfter
  simp only [Bool.false_eq_true, if_false]
  split
  · split
    · exact ⟨_, rfl, Or.inr rfl⟩
    · exact ⟨e.lost, Ev.loseLeader_alone h _ _, Or.inl rfl⟩
  · exact ⟨e.lost, rfl, Or.inl rfl⟩

/-- A stop is its core, and then the group (R88). -/
theorem Ev.stopChannel_eq (e : Ev) (c : Chan) (reason : StopReason) (x : Bool) (h : (e.st.chans[c.val]'c.isLt).play.state ≠ .armed) :
    e.stopChannel c reason x = (e.stopCore c reason x).groupAfter c false := by
  rw [Ev.stopChannel, Ev.chan_eq, decide_eq_false h]

end Spares

/-! ## What the end of an event leaves -/

/-- All that no event of a channel changes: Engine Control, the Order Unit, the clocks, the lines and the model's own counters. -/
def State.sameRest (s t : State) : Prop :=
  t.engine = s.engine ∧ t.orders = s.orders ∧ t.gens = s.gens ∧ t.trig = s.trig ∧ t.pins = s.pins ∧ t.refPhase = s.refPhase
    ∧ t.freeCount = s.freeCount ∧ t.pending = s.pending

theorem State.sameButChannels.sameRest {s t : State} (h : s.sameButChannels t) : s.sameRest t := by
  obtain ⟨_, _, rfl⟩ := h
  exact ⟨rfl, rfl, rfl, rfl, rfl, rfl, rfl, rfl⟩

theorem State.sameButRecords.sameRest {s t : State} (h : s.sameButRecords t) : s.sameRest t := by
  obtain ⟨h1, h2, h3, h4, h5, h6, h7, h8, -⟩ := h
  exact ⟨h1, h2, h3, h4, h5, h6, h7, h8⟩

theorem State.sameRest.trans {s t u : State} (h : s.sameRest t) (g : t.sameRest u) : s.sameRest u := by
  obtain ⟨h1, h2, h3, h4, h5, h6, h7, h8⟩ := h
  obtain ⟨g1, g2, g3, g4, g5, g6, g7, g8⟩ := g
  exact ⟨g1.trans h1, g2.trans h2, g3.trans h3, g4.trans h4, g5.trans h5, g6.trans h6, g7.trans h7, g8.trans h8⟩

/-- The end of an event changes no channel but for its per-record conditions (R165). -/
theorem Ev.finish_chan (e : Ev) (c : Chan) :
    e.finish.chans[c.val]'c.isLt = { e.st.chans[c.val]'c.isLt with perRecord := (e.finish.chans[c.val]'c.isLt).perRecord } := by
  obtain ⟨-, -, -, -, -, -, -, -, h⟩ := e.finish_records
  exact h c

/-- A channel that raised a record and was then spared, at the end of the event (R165). -/
theorem Ev.spares.finish_chan {e e' : Ev} {c : Chan} (h : e.spares e' c) (hr : ∃ r ∈ e.recs, r.source = .channel c) :
    e'.finish.chans[c.val]'c.isLt = { e.st.chans[c.val]'c.isLt with perRecord := 0 } := by
  obtain ⟨rs, hrs, -⟩ := h.recs
  obtain ⟨r, hr, hc⟩ := hr
  have hper : (e'.finish.chans[c.val]'c.isLt).perRecord = 0 := Ev.finish_perRecord ⟨r, hrs ▸ List.mem_append_left _ hr, hc⟩
  rw [e'.finish_chan c, hper, h.chan]

/-- A channel that raised no record and was spared, at the end of the event (R165). -/
theorem Ev.spares.finish_same {e e' : Ev} {c : Chan} (h : e.spares e' c) (hr : ∀ r ∈ e.recs, r.source ≠ .channel c) :
    e'.finish.chans[c.val]'c.isLt = e.st.chans[c.val]'c.isLt := by
  obtain ⟨rs, hrs, hc⟩ := h.recs
  refine (Ev.finish_quiet fun r hmem => ?_).trans h.chan
  rw [hrs] at hmem
  exact (List.mem_append.1 hmem).elim (hr r) (hc r)

theorem Ev.spares.finish_sameRest {e e' : Ev} {c : Chan} (h : e.spares e' c) : e.st.sameRest e'.finish :=
  h.rest.sameRest.trans e'.finish_records.sameRest

theorem Ev.spares.finish_holds {e e' : Ev} {c : Chan} (h : e.spares e' c) {r : Request} (hk : r.kind.chan? = none ∨ r.kind.chan? = some c)
    (hr : e.st.port.holds r) : e'.finish.port.holds r :=
  (h.port.trans e'.finish_grows).holds hk hr

end Sys2Proof.Machine

namespace Sys2Proof.Machine

/-! ## The timeout of a decision step (R35, R40, R74) -/

/-- A channel whose decision step has timed out: the step is retired, the channel purged with its loop counters kept, and its reader
reads the Branch Target (R35, R74). -/
def timedOut (ch : Channel) (ctx : StepContext) : Channel :=
  { ch with
    fetch := { purgedFetch ch.fetch with map := ch.fetch.map, cursor := ctx.body.branchTarget, reader := .slotRead }
    pool := emptyShare
    play := { ch.play with retired := (ch.play.retired + 1) % 4294967296, lastRetired := some ctx.slot }
    level := { ch.level with markers := bothMarkers OneShot.quiet ch.level.markers }
    perRecord := ch.perRecord ||| 0x010
    accumulated := ch.accumulated ||| 0x010 }

/-- The read of a timed out step's Branch Target (R35). -/
def State.branchRead (s : State) (c : Chan) (ctx : StepContext) : Request :=
  readOf (.stepSlotRead c ((s.chans[c.val]'c.isLt).fetch.epoch + 1) false) (s.slotAddr c ctx.body.branchTarget) 64

/-- The state in which the read of the Branch Target is raised. -/
def State.branching (s : State) (c : Chan) (ctx : StepContext) : State :=
  s.put c (timedOut (s.chans[c.val]'c.isLt) ctx) ((s.retiredPort c ctx).purgedOf c)

/-- A timed out decision step is retired with its record, and its branch taken; then a pending DRAIN completes, or a DATA wait
begins (R74, R86). -/
theorem Ev.timeOut_act (e : Ev) (c : Chan) (ctx : StepContext) :
    e.timeOut c ctx =
      let branched := e.act c (timedOut (e.st.chans[c.val]'c.isLt) ctx)
        ((e.st.branching c ctx).raisedPort (e.st.branchRead c ctx))
        [chanRecord c .waitTimeout (e.st.chans[c.val]'c.isLt).play.sampleCount ctx.slot ctx.body.branchTarget 0] true
      if (e.st.chans[c.val]'c.isLt).play.pendingStop = .drain then branched.stopChannel c .drain true else branched.beginData c false := by
  have hretired : (e.st.chans[c.val]'c.isLt).fetch.map = (retiredStep (e.st.chans[c.val]'c.isLt) ctx).fetch.map := rfl
  have hkeep : ∀ (ch : Channel) (p : Port) (rs : List Record) (a : Bool), (e.act c ch p rs a).mod (·.purge c true) =
      e.act c { ch with fetch := { purgedFetch ch.fetch with map := ch.fetch.map }, pool := emptyShare } (p.purgedOf c) rs a := by
    intro ch p rs a
    refine Eq.trans (Ev.mod_act _ c _ _ (State.purgeKeeping_put _ c)) (by simp)
  have hread : ∀ (ch : Channel) (p : Port) (rs : List Record) (a : Bool), (e.act c ch p rs a).mod (·.readSlot c false) =
      e.act c ch.reading ((e.st.put c ch.reading p).raisedPort (readOf (.stepSlotRead c ch.fetch.epoch false)
        (e.st.slotAddr c ch.fetch.cursor) 64)) rs a := by
    intro ch p rs a
    refine Eq.trans (Ev.mod_act _ c _ _ (State.readSlot_put _ c false)) (by simp [State.slotRequest])
  unfold Ev.timeOut
  simp only [Ev.retireStep_act, Ev.addChanRecord_act, Ev.raiseCond_act, Ev.quietMarkers_act, Ev.act_act, Ev.act_st, State.put_chan,
    State.put_port, hkeep, Ev.modFetch_act, hread, Ev.chan_eq]
  rfl

section TimeOut

variable {s : State} {c : Chan} {ctx : StepContext}

theorem exec_waitTimeout_due (hwait : (s.chans[c]'c.isLt).play.inEntryWait = true) (hstep : (s.chans[c]'c.isLt).headStep = some ctx)
    (hdecision : ctx.decision = true) (hcount : (s.chans[c]'c.isLt).play.waitCount = ctx.body.waitTimeout) :
    exec (.waitTimeout c) s = .next ((Ev.of s false).timeOut c ctx).finish := by
  refine congrArg Host.Outcome.next ?_
  rw [hstep]
  exact if_pos ⟨hwait, by rw [Play.timeoutDue, hdecision, decide_eq_true hcount]; rfl⟩

theorem exec_waitTimeout_notWaiting (h : (s.chans[c]'c.isLt).play.inEntryWait = false) : exec (.waitTimeout c) s = .next s := by
  refine congrArg Host.Outcome.next ?_
  split
  · exact if_neg fun hdue => by rw [h] at hdue; cases hdue.1
  · rfl

theorem exec_waitTimeout_notDue (hstep : (s.chans[c]'c.isLt).headStep = some ctx)
    (h : ctx.decision = false ∨ (s.chans[c]'c.isLt).play.waitCount ≠ ctx.body.waitTimeout) : exec (.waitTimeout c) s = .next s := by
  refine congrArg Host.Outcome.next ?_
  rw [hstep]
  refine if_neg fun hdue => ?_
  obtain ⟨hdecision, hcount⟩ : ctx.decision = true ∧ (s.chans[c]'c.isLt).play.waitCount = ctx.body.waitTimeout := by
    simpa [Play.timeoutDue] using hdue.2
  rcases h with h | h
  · cases h.symm.trans hdecision
  · exact h hcount

/-- A channel WAITING for a trigger or its leader has no episode to end (R76). -/
theorem Channel.closing_of_inEntryWait {ch : Channel} (h : ch.play.inEntryWait = true) (c : Chan) : ch.closing c = (ch, []) := by
  unfold Play.inEntryWait at h
  unfold Channel.closing
  split at h
  · rename_i hs hw
    simp [hs, hw]
  · rename_i hs hw
    simp [hs, hw]
  · cases h

theorem Play.inEntryWait_state {p : Play} (h : p.inEntryWait = true) : p.state = .waiting := by
  unfold Play.inEntryWait at h
  split at h
  · assumption
  · assumption
  · cases h

/-- The port once the Branch Target's read is raised holds it, and the retire write. -/
theorem State.branching_grows (s : State) (c : Chan) (ctx : StepContext) :
    (s.retiredPort c ctx).grows (fun t => t.chan? ≠ some c) ((s.branching c ctx).raisedPort (s.branchRead c ctx)) :=
  (Ev.purged_grows _ c).trans (State.raisedPort_grows (s.branching c ctx) _)

/-- A waiting channel whose timed out step has branched (R74). -/
def branchedChannel (ch : Channel) (ctx : StepContext) : Channel :=
  { timedOut ch ctx with play := { (timedOut ch ctx).play with state := .waiting, wait := .data false, episode := 0 } }

/-- The timeout of a step under no pending DRAIN (R74). -/
theorem Ev.timeOut_branches (e : Ev) (hpending : (e.st.chans[c.val]'c.isLt).play.pendingStop ≠ .drain) :
    e.timeOut c ctx = e.act c (branchedChannel (e.st.chans[c.val]'c.isLt) ctx) ((e.st.branching c ctx).raisedPort (e.st.branchRead c ctx))
      [chanRecord c .waitTimeout (e.st.chans[c.val]'c.isLt).play.sampleCount ctx.slot ctx.body.branchTarget 0] true := by
  rw [Ev.timeOut_act]
  dsimp only
  rw [if_neg hpending]
  simp [Ev.beginData, branchedChannel]

/-- The timeout of a step under a pending DRAIN: the channel stops (R74, R86). -/
theorem Ev.timeOut_drains (e : Ev) (hwait : (e.st.chans[c.val]'c.isLt).play.inEntryWait = true)
    (hpending : (e.st.chans[c.val]'c.isLt).play.pendingStop = .drain) :
    e.timeOut c ctx =
      let stopped := (stoppedChannel (timedOut (e.st.chans[c.val]'c.isLt) ctx) .drain).turned true
      Ev.groupAfter ((e.moved c (mirrorTurned true stopped)).act c stopped
        (((e.st.branching c ctx).raisedPort (e.st.branchRead c ctx)).purgedOf c)
        [chanRecord c .waitTimeout (e.st.chans[c.val]'c.isLt).play.sampleCount ctx.slot ctx.body.branchTarget 0,
          stopRecord c (timedOut (e.st.chans[c.val]'c.isLt) ctx) .drain] true) c false := by
  have hstate : (e.st.chans[c.val]'c.isLt).play.state = .waiting := Play.inEntryWait_state hwait
  have hwait' : (timedOut (e.st.chans[c.val]'c.isLt) ctx).play.inEntryWait = true := hwait
  rw [Ev.timeOut_act]
  dsimp only
  rw [if_pos hpending, Ev.stopChannel_eq, Ev.stopCore_eq, Ev.closeEpisode_act, Ev.stopFrom_act]
  · simp only [Ev.act_st, State.put_chan, State.put_port, Channel.closing_of_inEntryWait hwait', Ev.act_act]
    rw [Ev.act_moved]
    · simp
    · exact fun h => by cases hstate.symm.trans h
  · exact Or.inr (Or.inl (by decide))
  · simp [timedOut, hstate]

/-- The state after a timeout under no pending DRAIN, at an IDLE or a BUSY port, with the records `before` raised ahead of it (R35,
R74). -/
theorem Ev.timeOut_finish {x a : Bool} {before : List Record} (hidle : s.port.idleEmpty)
    (hpending : (s.chans[c.val]'c.isLt).play.pendingStop ≠ .drain) :
    (((Ev.of s x).act c (s.chans[c.val]'c.isLt) s.port before a).timeOut c ctx).finish = s.afterTimeout c ctx before := by
  have hst : ((Ev.of s x).act c (s.chans[c.val]'c.isLt) s.port before a).st = s := s.put_self c
  rw [Ev.timeOut_branches _ (by rw [hst]; exact hpending), hst, Ev.act_act, Ev.finish_act _ _ _ _ _ _ rfl rfl, Bool.or_true,
    if_pos rfl]
  have hpurged : (s.branching c ctx).port = (s.port.after (s.retireRequests c ctx)).purgedOf c := by
    rw [State.branching, State.put_port, State.retiredPort_after hidle]
  have hempty : (s.branching c ctx).port.idleEmpty := by
    rw [hpurged]
    intro hb
    simp [Port.purgedOf, Port.after_idleEmpty _ _ hidle hb]
  have hport : (s.branching c ctx).raisedPort (s.branchRead c ctx)
      = ((s.port.after (s.retireRequests c ctx)).purgedOf c).after [s.branchRead c ctx] := by
    rw [State.raisedPort_after hempty rfl, hpurged]
  rw [show (Ev.of s x).st = s from rfl, hport]
  rfl

/-- What a timeout leaves of its channel, whether a DRAIN was pending or not (R74). -/
theorem Ev.timeOut_spares (e : Ev) (hwait : (e.st.chans[c.val]'c.isLt).play.inEntryWait = true) :
    ∃ e' : Ev, e'.spares (e.timeOut c ctx) c ∧ e.st.sameButChannels e'.st ∧ (∃ r ∈ e'.recs, r.source = .channel c)
      ∧ (e.st.retiredPort c ctx).grows (fun t => t.chan? ≠ some c) e'.st.port
      ∧ ((e.st.chans[c.val]'c.isLt).play.pendingStop ≠ .drain → (e'.st.chans[c.val]'c.isLt) = branchedChannel (e.st.chans[c.val]'c.isLt) ctx)
      ∧ ((e.st.chans[c.val]'c.isLt).play.pendingStop = .drain →
          (e'.st.chans[c.val]'c.isLt) = (stoppedChannel (timedOut (e.st.chans[c.val]'c.isLt) ctx) .drain).turned true) := by
  by_cases hpending : (e.st.chans[c.val]'c.isLt).play.pendingStop = .drain
  · rw [Ev.timeOut_drains e hwait hpending]
    refine ⟨_, Ev.groupAfter_spares _ (Channel.follows_self _ c) ?_, ?_, ⟨_, List.mem_append_right _ (List.mem_cons_self ..), rfl⟩, ?_,
      fun h => (h hpending).elim, fun _ => State.put_chan ..⟩
    · rw [Ev.act_st, State.put_chan, Channel.turned_play]
      exact fun h => by cases h
    · exact State.sameButChannels_trans (State.mirrorsMoved_sameButChannels ..) (State.put_sameButChannels ..)
    · exact (e.st.branching_grows c ctx).trans (Ev.purged_grows _ c)
  · rw [Ev.timeOut_branches e hpending]
    exact ⟨_, Ev.spares_refl _ c, State.put_sameButChannels .., ⟨_, List.mem_append_right _ (List.mem_cons_self ..), rfl⟩, e.st.branching_grows c ctx,
      fun _ => State.put_chan .., fun h => (hpending h).elim⟩

end TimeOut

/-- Settles O44: a due timeout is one event, whose channel is then spared; its end hands over the channel's conditions. -/
theorem waitTimeoutBranches : Obligations.WaitTimeoutBranches := by
  rintro c s p rfl
  refine ⟨fun ctx hwait hstep hdecision hcount => ?due, exec_waitTimeout_notWaiting, fun ctx => exec_waitTimeout_notDue⟩
  refine ⟨_, exec_waitTimeout_due hwait hstep hdecision hcount, ?_⟩
  obtain ⟨e', hspares, hsame, hrec, hport, hbranched, hdrained⟩ := Ev.timeOut_spares (ctx := ctx) (Ev.of s false) hwait
  have hchan := hspares.finish_chan hrec
  have hrest := hsame.sameRest.trans hspares.finish_sameRest
  have hretire : ctx.body.consume = true → s.retireOf c ctx ∈ ((Ev.of s false).timeOut c ctx).finish.port.standing := fun h =>
    (hspares.finish_holds (Or.inl rfl) (hport.holds (fun h => by cases h) (s.retiredPort_holds c h))).2
  rw [Fin.getElem_fin, hchan]
  by_cases hpending : (s.chans[c]'c.isLt).play.pendingStop = .drain
  · rw [hdrained hpending]
    refine ⟨?_, rfl, Channel.turned_pool .., ?_, ?_, fun h => (h hpending).elim, fun _ => ?_, hretire, fun h => (h hpending).elim,
      hrest⟩
    · simp [Channel.turned, stoppedChannel, timedOut]
    · simp [Channel.turned_play, stoppedChannel, timedOut]
    · simp [Channel.turned_play, stoppedChannel, timedOut]
    · simp [Channel.turned_play, Channel.turned_fetch, stoppedChannel, timedOut, purgedFetch]
  · rw [hbranched hpending]
    refine ⟨rfl, rfl, rfl, rfl, rfl, fun _ => ⟨rfl, rfl, ?_⟩, fun h => (hpending h).elim, hretire,
      fun _ hidle => ?_, hrest⟩
    swap
    · rw [← Ev.act_self (Ev.of s false) c]
      exact Ev.timeOut_finish hidle hpending
    rw [Ev.timeOut_branches (Ev.of s false) hpending]
    exact ((Ev.finish_grows (K := fun _ => True) _).holds trivial (State.raise_holds (s.branching c ctx) (s.branchRead c ctx))).2

end Sys2Proof.Machine

namespace Sys2Proof.Machine

/-! ## Changes of each of a list of channels, at any port -/

/-- A change of one channel, made for each of a list of channels in order, raising the records `r` and asking for status blocks by the
mask `a`; `h` is what it does to a port that is BUSY or holds no waiting request. -/
theorem Ev.forEach_chans {f : Ev → Chan → Ev} {g : Chan → Channel} {h : Chan → Port → Port} {r : Chan → List Record}
    {a : Chan → BitVec 8} (I : Ev → Prop) {l : List Chan} (hl : l.Nodup) {e : Ev} (hs : I e)
    (hI : ∀ t c, c ∈ l → I t → (t.st.chans[c]'c.isLt) = e.st.chans[c]'c.isLt → I (f t c))
    (hstep : ∀ t c, c ∈ l → I t → (t.st.chans[c]'c.isLt) = e.st.chans[c]'c.isLt →
      ∃ p, (t.st.port.idleEmpty → p = h c t.st.port ∧ p.idleEmpty) ∧ f t c = { t with
        st := { t.st with chans := t.st.chans.set c (g c), port := p }
        recs := t.recs ++ r c
        asked := t.asked ||| a c }) :
    ∃ p, (e.st.port.idleEmpty → p = l.foldl (fun p c => h c p) e.st.port) ∧ e.forEach l f = { e with
      st := { e.st with
        chans := vec8 fun c => if c ∈ l then g c else (e.st.chans[c]'c.isLt)
        port := p }
      recs := e.recs ++ l.flatMap r
      asked := l.foldl (fun m c => m ||| a c) e.asked } := by
  unfold Ev.forEach
  induction l generalizing e with
  | nil =>
    refine ⟨e.st.port, fun _ => rfl, ?_⟩
    simp only [List.not_mem_nil, if_false, Fin.getElem_fin, vec8_self, List.foldl_nil, List.flatMap_nil, List.append_nil]
  | cons c rest ih =>
    obtain ⟨hc, hrest⟩ := List.nodup_cons.1 hl
    obtain ⟨q, hq, hfirst⟩ := hstep e c (List.mem_cons_self ..) hs rfl
    have hnext : I (f e c) := hI e c (List.mem_cons_self ..) hs rfl
    have hkept : ∀ d ∈ rest, (f e c).st.chans[d]'d.isLt = e.st.chans[d]'d.isLt := by
      intro d hd
      have hne : c.val ≠ d.val := fun h => hc (Fin.ext h ▸ hd)
      simp [hfirst, Vector.getElem_set_ne, hne]
    obtain ⟨p, hp, hfold⟩ := ih hrest hnext
      (fun t d hd ht hsame => hI t d (List.mem_cons_of_mem _ hd) ht (hsame.trans (hkept d hd)))
      (fun t d hd ht hsame => hstep t d (List.mem_cons_of_mem _ hd) ht (hsame.trans (hkept d hd)))
    refine ⟨p, fun hidle => ?_, ?_⟩
    · obtain ⟨rfl, hqidle⟩ := hq hidle
      have hport : (f e c).st.port = h c e.st.port := by rw [hfirst]
      exact (hp (by rwa [hport])).trans (by rw [hport]; rfl)
    · rw [List.foldl_cons, hfold, hfirst]
      simp only [List.foldl_cons, List.flatMap_cons, List.append_assoc, chans_set_each hc]

/-! ## A trigger event reaches a channel (R73, R78, R129) -/

theorem Channel.attendsAdvance_iff (ch : Channel) (a : Advance) : ch.attendsAdvance a = true ↔
    ch.play.state = .running ∧ 1 ≤ ch.play.stepExpiries
      ∧ ∃ ctx : StepContext, ch.headStep = some ctx ∧ ctx.body.rep = 0 ∧ ctx.body.advance = some a := by
  unfold Channel.attendsAdvance
  split
  · rename_i ctx hs hh
    simp only [Bool.and_eq_true, decide_eq_true_eq]
    constructor
    · rintro ⟨⟨hrep, hadv⟩, hpos⟩
      exact ⟨hs, hpos, ctx, hh, hrep, hadv⟩
    · rintro ⟨-, hpos, ctx', hh', hrep, hadv⟩
      cases hh.symm.trans hh'
      exact ⟨⟨hrep, hadv⟩, hpos⟩
  · rename_i hno
    constructor
    · intro h; cases h
    · rintro ⟨hs, -, ctx, hh, -⟩
      exact (hno ctx hs hh).elim

theorem Channel.attendsLine_iff (ch : Channel) (k : LineIx) : ch.attendsLine k = true ↔
    ch.play.state = .waiting ∧ ch.play.wait = .trigger k
    ∨ ch.play.state = .running ∧ 1 ≤ ch.play.stepExpiries
      ∧ (∃ ctx : StepContext, ch.headStep = some ctx ∧ ctx.body.rep = 0 ∧ ctx.body.advance = some (.trigger k))
    ∨ ch.play.state = .armed ∧ ∃ m : Membership, ch.play.group = some m ∧ m.condition = .trigger k := by
  unfold Channel.attendsLine
  split
  · rename_i j hs hw
    simp [hs, hw]
  · rename_i hs
    rw [Channel.attendsAdvance_iff]
    simp [hs]
  · rename_i m hs hg
    simp [hs, hg]
  · rename_i hrun hwait harm
    constructor
    · intro h; cases h
    · rintro (⟨hs, hw⟩ | ⟨hs, -⟩ | ⟨hs, m, hg, -⟩)
      · exact (hwait k hs hw).elim
      · exact (hrun hs).elim
      · exact (harm m hs hg).elim

/-- The channel waits for a trigger of the line with a step to take. -/
def Channel.awaits (ch : Channel) (k : LineIx) : Bool :=
  decide (ch.play.state = .waiting) && decide (ch.play.wait = .trigger k) && ch.headStep.isSome

/-- A channel whose waiting step has become the playing step (R34, R73). -/
def takenChannel (ch : Channel) (ctx : StepContext) : Channel :=
  { ch with
    fetch := resumedFetch ch.fetch ctx
    play := { ch.play with state := .running, wait := .none, waitCount := 0, stepExpiries := 0 }
    level := { ch.level with stepClips := 0 } }

/-- A request of class 1, 3 or 5 raised at any port. -/
theorem State.raise_any (s : State) (c : Chan) {r : Request} (hk : r.kind.fixedClass = true) :
    ∃ p, (s.port.idleEmpty → p = s.port.after [r] ∧ p.idleEmpty) ∧ s.raise r = s.put c (s.chans[c.val]'c.isLt) p := by
  refine ⟨s.raisedPort r, fun h => ?_, s.raise_put c r⟩
  rw [State.raisedPort_after h hk]
  exact ⟨rfl, Port.after_idleEmpty _ _ h⟩

/-- A reader that a decision step may have paused goes on, at any port (R34). -/
theorem State.resumeReader_put (s : State) (c : Chan) (ctx : StepContext) :
    ∃ p, (s.port.idleEmpty → p = s.port.after (s.resumeReads c ctx) ∧ p.idleEmpty)
      ∧ s.resumeReader c ctx = s.put c { s.chans[c.val]'c.isLt with fetch := resumedFetch (s.chans[c.val]'c.isLt).fetch ctx } p := by
  unfold State.resumeReader resumedFetch State.resumeReads
  simp only [Fin.getElem_fin]
  by_cases hpaused : ctx.decision = true ∧ (s.chans[c.val]'c.isLt).fetch.reader = .decisionPause
  · rw [if_pos hpaused, if_pos hpaused]
    obtain ⟨hdecision, hreader⟩ := hpaused
    cases ctx.successor with
    | none => exact ⟨s.port, fun h => ⟨rfl, h⟩, rfl⟩
    | some slot =>
      dsimp only
      rw [State.readerOn, State.readerTo_eq]
      by_cases hroom : (s.chans[c.val]'c.isLt).fetch.window.length < 4
      · obtain ⟨p, hp, hraise⟩ := State.raise_any (s.modFetch c fun f => { f with cursor := slot, reader := .slotRead }) c
          (r := readOf (.stepSlotRead c (s.chans[c.val]'c.isLt).fetch.epoch false) (s.slotAddr c slot) 64) rfl
        simp only [Fin.getElem_fin, hroom, hdecision, hreader, if_true, true_and]
        exact ⟨p, hp, hraise.trans (by simp)⟩
      · simp only [Fin.getElem_fin, hroom, if_false, and_false]
        exact ⟨s.port, fun h => ⟨rfl, h⟩, rfl⟩
  · rw [if_neg hpaused, if_neg hpaused]
    refine ⟨s.port, fun h => ⟨?_, h⟩, (s.put_self c).symm⟩
    split
    · rw [if_neg fun h => hpaused ⟨h.1, h.2.1⟩]
      rfl
    · rfl

/-- A waiting step's wait is over (R34, R73, R176). -/
theorem Ev.takeEntry_act (e : Ev) (c : Chan) (ctx : StepContext) :
    ∃ p, (e.st.port.idleEmpty → p = e.st.port.after (e.st.resumeReads c ctx) ∧ p.idleEmpty)
      ∧ e.takeEntry c ctx = e.act c (takenChannel (e.st.chans[c.val]'c.isLt) ctx) p []
        (!decide ((e.st.chans[c.val]'c.isLt).play.state = .running ∧ (e.st.chans[c.val]'c.isLt).play.wait = .none)) := by
  let woken : Channel := { e.st.chans[c.val]'c.isLt with
    play := { (e.st.chans[c.val]'c.isLt).play with state := .running, wait := .none, waitCount := 0, stepExpiries := 0 }
    level := { (e.st.chans[c.val]'c.isLt).level with stepClips := 0 } }
  obtain ⟨p, hp, hresume⟩ := (e.st.put c woken e.st.port).resumeReader_put c ctx
  refine ⟨p, fun h => ?_, ?_⟩
  · obtain ⟨hport, hidle⟩ := hp h
    refine ⟨hport.trans ?_, hidle⟩
    simp [State.resumeReads, woken]
  · have hmod : ∀ a, (e.act c woken e.st.port [] a).mod (·.resumeReader c ctx)
        = e.act c (takenChannel (e.st.chans[c.val]'c.isLt) ctx) p [] a := by
      intro a
      refine Eq.trans (Ev.mod_act _ c _ _ hresume) ?_
      simp [takenChannel, woken]
    unfold Ev.takeEntry Ev.becomePlaying
    simp only [Ev.setState_act, Ev.modPlay_act, Ev.modLevel_act, Ev.act_act, Ev.act_st, State.put_chan, State.put_port,
      List.append_nil, Bool.or_false]
    exact hmod _

/-- A channel that a trigger event of line `k` was offered to, where it leads no ARMED group waiting for it (R73, R78, R129). -/
def offeredChannel (k : LineIx) (ch : Channel) : Channel :=
  if ch.awaits k then
    match ch.headStep with
    | some ctx => takenChannel ch ctx
    | none => ch
  else if ch.play.state = .running ∧ ch.attendsAdvance (.trigger k) then
    { ch with play := { ch.play with advanceSeen := true } }
  else ch

/-- The slot read that a trigger event raises at a channel that awaits it (R34). -/
def State.offeredReads (s : State) (k : LineIx) (c : Chan) : List Request :=
  if (s.chans[c]'c.isLt).awaits k then
    match (s.chans[c]'c.isLt).headStep with
    | some ctx => s.resumeReads c ctx
    | none => []
  else []

/-- The channel leads an ARMED group that waits for a trigger of the line (R143). -/
def Channel.leadsFor (ch : Channel) (c : Chan) (k : LineIx) : Prop :=
  ∃ m, ch.armedLeader c = some m ∧ m.condition = .trigger k

theorem Channel.awaits_iff (ch : Channel) (k : LineIx) : ch.awaits k = true ↔
    ch.play.state = .waiting ∧ ch.play.wait = .trigger k ∧ ∃ ctx, ch.headStep = some ctx := by
  simp [Channel.awaits, Option.isSome_iff_exists, and_assoc]

/-- A trigger event passes by a channel that neither awaits it nor attends it as an advance, and leads no group for it (R129). -/
theorem Ev.offerTrigger_stands {e : Ev} {k : LineIx} {c : Chan} (ha : (e.st.chans[c.val]'c.isLt).awaits k = false)
    (hr : (e.st.chans[c.val]'c.isLt).play.state = .running → (e.st.chans[c.val]'c.isLt).attendsAdvance (.trigger k) = false)
    (hl : ¬(e.st.chans[c.val]'c.isLt).leadsFor c k) : Ev.offerTrigger k e c = e := by
  unfold Ev.offerTrigger
  dsimp only
  split
  · rename_i j ctx hs hw hh
    refine if_neg fun hjk => ?_
    subst hjk
    exact Bool.noConfusion (ha.symm.trans ((Channel.awaits_iff _ _).2 ⟨hs, hw, ctx, hh⟩))
  · rename_i hs
    exact if_neg (by rw [Ev.chan_eq, hr hs]; decide)
  · rename_i m hs hm
    exact if_neg fun hk => hl ⟨m, hm, hk⟩
  · rfl

/-- A trigger event is offered to a channel that leads no ARMED group waiting for it (R73, R78, R129). -/
theorem Ev.offerTrigger_act {e : Ev} {k : LineIx} {c : Chan} (h : ¬(e.st.chans[c.val]'c.isLt).leadsFor c k) :
    ∃ p, (e.st.port.idleEmpty → p = e.st.port.after (e.st.offeredReads k c) ∧ p.idleEmpty)
      ∧ Ev.offerTrigger k e c = e.act c (offeredChannel k (e.st.chans[c.val]'c.isLt)) p [] ((e.st.chans[c.val]'c.isLt).awaits k) := by
  by_cases ha : (e.st.chans[c.val]'c.isLt).awaits k = true
  · obtain ⟨hs, hw, ctx, hctx⟩ := (Channel.awaits_iff _ _).1 ha
    obtain ⟨p, hp, htake⟩ := e.takeEntry_act c ctx
    have hoffer : Ev.offerTrigger k e c = e.takeEntry c ctx := by
      simp [Ev.offerTrigger, hs, hw, hctx]
    refine ⟨p, ?_, ?_⟩
    · rw [State.offeredReads, Fin.getElem_fin, if_pos ha, hctx]
      exact hp
    · rw [hoffer, htake, ha, offeredChannel, if_pos ha, hctx, hs]
      rfl
  · rw [Bool.not_eq_true] at ha
    refine ⟨e.st.port, fun hidle => ⟨?_, hidle⟩, ?_⟩
    · rw [State.offeredReads, Fin.getElem_fin, ha]
      rfl
    · by_cases hadv : (e.st.chans[c.val]'c.isLt).play.state = .running ∧ (e.st.chans[c.val]'c.isLt).attendsAdvance (.trigger k) = true
      · simp [Ev.offerTrigger, hadv, offeredChannel, ha]
      · rw [Ev.offerTrigger_stands ha (fun hs => Bool.eq_false_iff.2 fun hr => hadv ⟨hs, hr⟩) h, offeredChannel, ha,
          if_neg (by decide), if_neg hadv]
        exact (e.act_self c).symm

/-! ## The event of a line (R124, R126, R128) -/

/-- The record of a line's capture, none with capture off (R128). -/
def captureRecords (k : LineIx) (capture : Bool) (edge applied ignored : Nat) : List Record :=
  if capture then
    [{ kind := .triggerCapture, source := .line k, slot := 0, conditions := 0, time := edge, detailA := applied, detailB := ignored }]
  else []

/-- The Trigger Unit differs from that of `s` in line `k` alone, which is IDLE with the edge time and the delay applied of an event and
the ignored-edge count `ignored`. -/
structure State.delivering (s : State) (k : LineIx) (edge applied ignored : Nat) (u : TrigUnit) : Prop where
  idle : u.lines[k.val].delaying = false
  edgeTime : u.lines[k.val].edgeTime = edge
  delayApplied : u.lines[k.val].delayApplied = applied
  ignored : u.lines[k.val].ignored = ignored
  capture : u.lines[k.val].capture = s.trig.lines[k.val].capture
  others : ∀ j : LineIx, j ≠ k → u.lines[j.val] = s.trig.lines[j.val]
  refTime : u.refTime = s.trig.refTime

section Line

variable {s : State} {k : LineIx} {i : Instr} {edge applied : Nat}

/-- A line changed so as to deliver. -/
theorem State.modLine_delivering {ignored : Nat} (f : TrigLine → TrigLine) (hi : (f s.trig.lines[k.val]).delaying = false)
    (he : (f s.trig.lines[k.val]).edgeTime = edge) (ha : (f s.trig.lines[k.val]).delayApplied = applied)
    (hg : (f s.trig.lines[k.val]).ignored = ignored) (hc : (f s.trig.lines[k.val]).capture = s.trig.lines[k.val].capture) :
    s.delivering k edge applied ignored (s.modLine k f).trig where
  idle := by rw [State.modLine_same]; exact hi
  edgeTime := by rw [State.modLine_same]; exact he
  delayApplied := by rw [State.modLine_same]; exact ha
  ignored := by rw [State.modLine_same]; exact hg
  capture := by rw [State.modLine_same]; exact hc
  others j hj := State.modLine_other s k j f (Ne.symm hj)
  refTime := rfl

theorem State.modLine_modLine (s : State) (k : LineIx) (f g : TrigLine → TrigLine) :
    (s.modLine k f).modLine k g = s.modLine k (g ∘ f) := by
  simp [State.modLine]

/-- A qualified edge takes the Reference Time and the line's delay (R124). -/
def edgeTaken (refTime : Nat) (l : TrigLine) : TrigLine := { l with edgeTime := refTime, delayApplied := l.delay }

/-- A qualified edge on an IDLE line with delay 0 delivers at once (R124). -/
theorem State.edge_atOnce (hd : s.trig.lines[k].delaying = false) (hz : s.trig.lines[k].delay = 0) :
    s.edge k = (s.modLine k (edgeTaken s.trig.refTime)).deliver k := by
  unfold State.edge
  dsimp only
  rw [if_neg (by rw [hd]; decide), if_pos hz]
  rfl

theorem filter_allLines_single (p : LineIx → Bool) (h : ∀ j, p j = decide (j = k)) : allLines.filter p = [k] := by
  have hp : p = fun j => decide (j = k) := funext h
  rw [hp]
  exact (by decide : ∀ k : LineIx, allLines.filter (fun j => decide (j = k)) = [k]) k

/-- The commands that bring a delivery set the line up and deliver (R123, R124, R126). -/
theorem exec_deliversBy (h : s.deliversBy k i edge applied) :
    ∃ u, s.delivering k edge applied s.trig.lines[k.val].ignored u ∧ exec i s = .next (State.deliver { s with trig := u } k) := by
  obtain ⟨hon, ⟨rfl, hd, hc, rfl, rfl⟩ | ⟨⟨v, rfl, hv⟩, hd, hz, rfl, rfl⟩ | ⟨rfl, hq, ht, hd, hz, rfl, rfl⟩⟩ := h
  · refine ⟨(s.modLine k fun l => { l with delaying := false }).trig, State.modLine_delivering _ rfl rfl rfl rfl rfl, ?_⟩
    exact congrArg Host.Outcome.next (if_pos ⟨hon, hd, hc⟩)
  · refine ⟨(s.modLine k (edgeTaken s.trig.refTime)).trig, State.modLine_delivering _ hd rfl hz rfl rfl,
      congrArg Host.Outcome.next ((if_pos hon).trans ?_)⟩
    rw [filter_allLines_single _ hv]
    exact State.edge_atOnce hd hz
  · let accepted : TrigLine → TrigLine := fun l => { l with stable := !s.trig.lines[k].stable, agreement := 0 }
    have hline : (s.modLine k accepted).trig.lines[k] = accepted s.trig.lines[k] := State.modLine_same s k _
    refine ⟨(s.modLine k (edgeTaken s.trig.refTime ∘ accepted)).trig, State.modLine_delivering _ hd rfl hz rfl rfl,
      congrArg Host.Outcome.next ((if_pos ⟨hon, hq⟩).trans ?_)⟩
    unfold State.acceptLevel
    rw [if_pos ht]
    refine (State.edge_atOnce (s := s.modLine k accepted) (by rw [hline]; exact hd) (by rw [hline]; exact hz)).trans ?_
    rw [State.modLine_modLine]
    rfl

/-- The beginning of a delivery: the capture record is raised, and the ignored-edge count returns to 0 with it (R128). -/
def State.captured (s : State) (u : TrigUnit) (rs : List Record) : Ev := { Ev.of { s with trig := u } false with recs := rs }

theorem Ev.capture_eq {u : TrigUnit} {ignored : Nat} (h : s.delivering k edge applied ignored u) :
    ∃ u', s.delivering k edge applied (if s.trig.lines[k.val].capture then 0 else ignored) u'
      ∧ (Ev.of { s with trig := u } false).capture k
        = s.captured u' (captureRecords k s.trig.lines[k.val].capture edge applied ignored) := by
  obtain ⟨hidle, hedge, happlied, hignored, hcapture, hothers, htime⟩ := h
  by_cases hc : s.trig.lines[k.val].capture = true
  · refine ⟨(State.modLine { s with trig := u } k fun l => { l with ignored := 0 }).trig, ?_, ?_⟩
    · have hline : (State.modLine { s with trig := u } k fun l => { l with ignored := 0 }).trig.lines[k.val]
          = { u.lines[k.val] with ignored := 0 } := State.modLine_same ..
      exact ⟨by rw [hline]; exact hidle, by rw [hline]; exact hedge, by rw [hline]; exact happlied, by rw [hline, if_pos hc],
        by rw [hline]; exact hcapture, fun j hj => (State.modLine_other _ k j _ (Ne.symm hj)).trans (hothers j hj), htime⟩
    · refine (if_pos (hcapture.trans hc)).trans ?_
      rw [captureRecords, if_pos hc, ← hedge, ← happlied, ← hignored]
      rfl
  · refine ⟨u, ⟨hidle, hedge, happlied, by rw [if_neg hc]; exact hignored, hcapture, hothers, htime⟩, ?_⟩
    refine (if_neg (fun h => hc (hcapture.symm.trans h))).trans ?_
    rw [captureRecords, if_neg hc]
    rfl

/-- A command that brings a delivery is one event: the capture, then the offers to the channels in order (R124, R128, R129). -/
theorem exec_delivers (h : s.deliversBy k i edge applied) :
    ∃ u, s.delivering k edge applied (if s.trig.lines[k.val].capture then 0 else s.trig.lines[k.val].ignored) u
      ∧ exec i s = .next (Ev.forEach (s.captured u (captureRecords k s.trig.lines[k.val].capture edge applied
        s.trig.lines[k.val].ignored)) allChans (Ev.offerTrigger k)).finish := by
  obtain ⟨u, hu, hexec⟩ := exec_deliversBy h
  obtain ⟨u', hu', hcapture⟩ := Ev.capture_eq hu
  exact ⟨u', hu', hexec.trans (congrArg (fun e : Ev => Host.Outcome.next (e.forEach allChans (Ev.offerTrigger k)).finish) hcapture)⟩

theorem captureRecords_source (capture : Bool) (edge applied ignored : Nat) (c : Chan) :
    ∀ r ∈ captureRecords k capture edge applied ignored, r.source ≠ .channel c := by
  unfold captureRecords
  split <;> simp

theorem flatMap_filter {α β : Type} (l : List α) (p : α → Bool) (f : α → List β) :
    (l.filter p).flatMap f = l.flatMap fun x => if p x then f x else [] := by
  induction l with
  | nil => rfl
  | cons x l ih => by_cases h : p x = true <;> simp [h, ih]

/-- An event offered to a list of channels, none of which leads an ARMED group that waits for it (R73, R78, R129). -/
theorem Ev.offerAll {e : Ev} {l : List Chan} (hl : l.Nodup) (h : ∀ c ∈ l, ¬(e.st.chans[c.val]'c.isLt).leadsFor c k) :
    ∃ p, (e.st.port.idleEmpty → p = e.st.port.after (l.flatMap (e.st.offeredReads k)))
      ∧ e.forEach l (Ev.offerTrigger k) = { e with
        st := { e.st with
          chans := vec8 fun c => if c ∈ l then offeredChannel k (e.st.chans[c]'c.isLt) else (e.st.chans[c]'c.isLt)
          port := p }
        asked := l.foldl (fun m c => m ||| askedBit c ((e.st.chans[c.val]'c.isLt).awaits k)) e.asked } := by
  have hoffer : ∀ (t : Ev) (c : Chan), c ∈ l → t.st.engine = e.st.engine → (t.st.chans[c]'c.isLt) = e.st.chans[c]'c.isLt →
      ∃ p, (t.st.port.idleEmpty → p = t.st.port.after (e.st.offeredReads k c) ∧ p.idleEmpty)
        ∧ Ev.offerTrigger k t c = t.act c (offeredChannel k (e.st.chans[c.val]'c.isLt)) p [] ((e.st.chans[c.val]'c.isLt).awaits k) := by
    intro t c hc hengine hsame
    rw [Fin.getElem_fin, Fin.getElem_fin] at hsame
    have hreads : t.st.offeredReads k c = e.st.offeredReads k c := by
      simp only [State.offeredReads, State.resumeReads, Fin.getElem_fin, hsame, State.slotAddr, State.settings, hengine]
    have := Ev.offerTrigger_act (e := t) (k := k) (c := c) (by rw [hsame]; exact h c hc)
    rwa [hsame, hreads] at this
  obtain ⟨p, hp, hall⟩ := Ev.forEach_chans (f := Ev.offerTrigger k) (g := fun c => offeredChannel k (e.st.chans[c.val]'c.isLt))
    (h := fun c p => p.after (e.st.offeredReads k c)) (r := fun _ => []) (a := fun c => askedBit c ((e.st.chans[c.val]'c.isLt).awaits k))
    (fun t => t.st.engine = e.st.engine) hl (e := e) rfl
    (fun t c hc ht hsame => by obtain ⟨p, -, hact⟩ := hoffer t c hc ht hsame; rw [hact]; exact ht)
    (fun t c hc ht hsame => hoffer t c hc ht hsame)
  refine ⟨p, fun hidle => (hp hidle).trans (Port.foldl_after ..), hall.trans ?_⟩
  have hnone : l.flatMap (fun _ : Chan => ([] : List Record)) = [] := by simp
  simp only [hnone, List.append_nil]
  rfl

end Line

end Sys2Proof.Machine

namespace Sys2Proof.Machine

/-! ## The Report Unit after a record (R165 to R171) -/

section ReportCongr

variable {s t : State}

theorem State.raiseOverrun_report (s : State) : s.raiseOverrun.report = { s.report with overrun := true } := by
  unfold State.raiseOverrun State.writeConditionsWord
  split
  · rename_i h
    rw [← h]
  · simp

theorem State.joinQueue_report_congr (h : s.report = t.report) (r : Record) : (s.joinQueue r).report = (t.joinQueue r).report := by
  unfold State.joinQueue
  rw [h]
  dsimp only
  split
  · rw [State.modReport_report, State.modReport_report, h]
  · rw [State.raiseOverrun_report, State.raiseOverrun_report, State.modReport_report, State.modReport_report, h]

/-- What a record does to the Report Unit depends on Engine Control and the Report Unit alone. -/
theorem State.handOver_report_congr (he : s.engine = t.engine) (h : s.report = t.report) (r : Record) :
    (s.handOver r).report = (t.handOver r).report := by
  have hring : s.ring = t.ring := by rw [State.ring, State.ring, he]
  have hroom : s.hasRoom = t.hasRoom := by rw [State.hasRoom, State.hasRoom, h, hring]
  have honline : s.online = t.online := by rw [State.online, State.online, he]
  have hjoin := State.joinQueue_report_congr h r
  unfold State.handOver
  rw [h, hroom, honline]
  dsimp only
  rw [hjoin]
  split
  · exact hjoin
  · split
    · simp only [State.placeFresh, State.writeReportsWritten, State.modReport_report, State.raiseWrite_report, h, hring]
    · split
      · split
        · simp only [State.raiseTakenRead, State.raiseRead_report, State.modReport_report, hjoin]
        · exact hjoin
      · simp only [State.loseRecord, State.raiseOverrun_report, State.modReport_report, h]

end ReportCongr

/-! ## A delivered event (R124, R128, R129, R143) -/

section Delivered

variable {s : State} {k : LineIx} {i : Instr} {edge applied : Nat} {u : TrigUnit}

theorem offeredChannel_woken {ch : Channel} {ctx : StepContext} (hs : ch.play.state = .waiting) (hw : ch.play.wait = .trigger k)
    (hstep : ch.headStep = some ctx) : offeredChannel k ch = takenChannel ch ctx := by
  simp [offeredChannel, Channel.awaits, hs, hw, hstep]

theorem offeredChannel_advanced {ch : Channel} (hs : ch.play.state = .running) (h : ch.attendsLine k = true) :
    offeredChannel k ch = { ch with play := { ch.play with advanceSeen := true } } := by
  have hadv : ch.attendsAdvance (.trigger k) = true := by
    rw [Channel.attendsAdvance_iff]
    rcases (Channel.attendsLine_iff ch k).1 h with ⟨hs', -⟩ | hrun | ⟨hs', -⟩
    · cases hs.symm.trans hs'
    · exact hrun
    · cases hs.symm.trans hs'
  simp [offeredChannel, Channel.awaits, hs, hadv]

theorem Channel.awaits_attends {ch : Channel} (h : ch.awaits k = true) : ch.attendsLine k = true := by
  obtain ⟨hs, hw, -⟩ := (Channel.awaits_iff ch k).1 h
  exact (Channel.attendsLine_iff ch k).2 (Or.inl ⟨hs, hw⟩)

theorem offeredChannel_unattending {ch : Channel} (h : ch.attendsLine k = false) : offeredChannel k ch = ch := by
  have hawaits : ch.awaits k = false := by
    rw [Bool.eq_false_iff]
    intro ha
    exact absurd (Channel.awaits_attends ha) (by simp [h])
  have hadv : ¬(ch.play.state = .running ∧ ch.attendsAdvance (.trigger k) = true) := by
    rintro ⟨-, hadv⟩
    have : ch.attendsLine k = true := (Channel.attendsLine_iff ch k).2 (Or.inr (Or.inl ((Channel.attendsAdvance_iff ch _).1 hadv)))
    rw [h] at this
    cases this
  rw [offeredChannel, hawaits, if_neg (by decide), if_neg hadv]

theorem Channel.leadsFor_armed {ch : Channel} {c : Chan} (h : ch.leadsFor c k) :
    ch.play.state = .armed ∧ ch.attendsLine k = true := by
  obtain ⟨m, hm, hk⟩ := h
  unfold Channel.armedLeader at hm
  split at hm
  · rename_i hs hg
    split at hm
    · cases hm
      exact ⟨hs, (Channel.attendsLine_iff ch k).2 (Or.inr (Or.inr ⟨hs, m, hg, hk⟩))⟩
    · cases hm
  · cases hm

/-- The state after an event delivered where no ARMED channel attends. -/
theorem exec_delivers_unarmed (h : s.deliversBy k i edge applied)
    (harmed : ∀ c : Chan, (s.chans[c]'c.isLt).play.state = .armed → (s.chans[c]'c.isLt).attendsLine k = false) :
    ∃ (u : TrigUnit) (e : Ev) (p : Port), exec i s = .next e.finish
      ∧ s.delivering k edge applied (if s.trig.lines[k.val].capture then 0 else s.trig.lines[k.val].ignored) u
      ∧ e.st = { s with trig := u, chans := vec8 fun c => offeredChannel k (s.chans[c]'c.isLt), port := p }
      ∧ e.recs = captureRecords k s.trig.lines[k.val].capture edge applied s.trig.lines[k.val].ignored
      ∧ members e.asked = allChans.filter (fun c => (s.chans[c]'c.isLt).awaits k)
      ∧ (s.port.idleEmpty → p = s.port.after (allChans.flatMap (s.offeredReads k))) := by
  obtain ⟨u, hu, hexec⟩ := exec_delivers h
  have hleads : ∀ c : Chan, ¬(s.chans[c]'c.isLt).leadsFor c k := fun c hc => by
    obtain ⟨hs, ha⟩ := Channel.leadsFor_armed hc
    rw [harmed c hs] at ha
    cases ha
  obtain ⟨p, hp, hall⟩ := Ev.offerAll (e := s.captured u (captureRecords k s.trig.lines[k.val].capture edge applied
    s.trig.lines[k.val].ignored)) (k := k) allChans_nodup fun c _ => hleads c
  rw [hall] at hexec
  simp only [mem_allChans, if_true] at hexec
  refine ⟨u, _, p, hexec, hu, rfl, rfl, ?_, hp⟩
  refine Eq.trans (members_foldl_asked allChans fun c => (s.chans[c]'c.isLt).awaits k) (List.filter_congr fun c _ => ?_)
  simp [mem_allChans]

/-- An event delivered where no ARMED channel attends (R73, R78, R128, R129). -/
theorem delivered_unarmed (h : s.deliversBy k i edge applied)
    (harmed : ∀ c : Chan, (s.chans[c]'c.isLt).play.state = .armed → (s.chans[c]'c.isLt).attendsLine k = false) :
    ∃ t, exec i s = .next t
      ∧ (∀ c : Chan, t.chans[c.val]'c.isLt = offeredChannel k (s.chans[c.val]'c.isLt))
      ∧ s.delivering k edge applied (if s.trig.lines[k.val].capture then 0 else s.trig.lines[k.val].ignored) t.trig
      ∧ (∀ record : Record, captureRecords k true edge applied s.trig.lines[k.val].ignored = [record] →
          t.report = if s.trig.lines[k.val].capture then (s.handOver record).report else s.report)
      ∧ (s.port.idleEmpty → t = (allChans.filter fun c => (s.chans[c]'c.isLt).awaits k).foldl State.writeStatusBlock
          (State.handOverAll (captureRecords k s.trig.lines[k.val].capture edge applied s.trig.lines[k.val].ignored)
            { s with trig := t.trig, chans := t.chans, port := s.port.after (allChans.flatMap (s.offeredReads k)) }))
      ∧ t.engine = s.engine ∧ t.orders = s.orders ∧ t.gens = s.gens ∧ t.pins = s.pins ∧ t.refPhase = s.refPhase
      ∧ t.freeCount = s.freeCount ∧ t.pending = s.pending := by
  obtain ⟨u, e, p, hexec, hu, hst, hrecs, hasked, hp⟩ := exec_delivers_unarmed h harmed
  obtain ⟨hengine, horders, hgens, htrig, hpins, hphase, hfree, hpending, -⟩ := e.finish_records
  have hchan : ∀ c : Chan, e.finish.chans[c.val]'c.isLt = offeredChannel k (s.chans[c.val]'c.isLt) := by
    intro c
    rw [Ev.finish_quiet (by rw [hrecs]; exact captureRecords_source _ _ _ _ c), hst]
    exact vec8_get _ c
  rw [hst] at hengine horders hgens htrig hpins hphase hfree hpending
  refine ⟨e.finish, hexec, hchan, by rw [htrig]; exact hu, fun record hrecord => ?report, fun hidle => ?whole, hengine, horders,
    hgens, hpins, hphase, hfree, hpending⟩
  case report =>
    have hreport : e.finish.report = (State.handOverAll e.recs e.st).report := State.writeStatusBlocks_report _ _
    rw [hreport, hrecs, hst]
    unfold captureRecords at hrecord ⊢
    split
    · rw [if_pos rfl] at hrecord
      cases hrecord
      show (State.handOver _ _).report = _
      refine State.handOver_report_congr (t := s) ?_ ?_ _ <;> rfl
    · rfl
  case whole =>
    have hchans : e.finish.chans = vec8 fun c => offeredChannel k (s.chans[c]'c.isLt) := chans_ext fun c => by
      rw [hchan c, vec8_get]
      rfl
    rw [hchans, htrig, ← hp hidle]
    exact Ev.finish_eq hst hrecs hasked

/-! ### ARMED groups (R143) -/

/-- A member of a group whose latch a trigger event has set (R143). -/
def latchedChannel (ch : Channel) : Channel :=
  { ch with play := ch.play.modGroup fun g => { g with latch := true } }

/-- A member that was not ready at a trigger event (R143). -/
def earlyChannel (ch : Channel) : Channel := ch.raised .earlyTrigger

/-- A member of a group that is not ready, after a trigger event (R143). -/
def State.earlied (s : State) (d : Chan) : Channel := if s.memberReady d then (s.chans[d]'d.isLt) else earlyChannel (s.chans[d]'d.isLt)

/-- The EARLY_TRIGGER record that a member raises where it is not ready (R143). -/
def State.earlyRecords (s : State) (k : LineIx) (d : Chan) : List Record :=
  if s.memberReady d then []
  else [chanRecord d .earlyTrigger (s.chans[d]'d.isLt).play.sampleCount (s.chans[d]'d.isLt).play.startSlot k.val 0]

/-- A ready group sets its latch (R143). -/
theorem Ev.groupTrigger_ready {e : Ev} {m : Membership} (h : e.st.groupReady m = true) :
    e.groupTrigger m k = { e with st := { e.st with
      chans := vec8 fun d => if d ∈ members m.mask then latchedChannel (e.st.chans[d]'d.isLt) else (e.st.chans[d]'d.isLt) } } := by
  unfold Ev.groupTrigger
  rw [if_pos h]
  refine (Ev.forEach_eachChan (g := fun d => latchedChannel (e.st.chans[d]'d.isLt)) (h := fun _ p => p) (r := fun _ => [])
    (a := fun _ => 0#8) (fun _ => True) (members_nodup _) trivial (fun _ _ _ _ _ => trivial) fun t d _ _ hsame => ?_).trans ?_
  · rw [Ev.modPlay_act, ← Fin.getElem_fin, hsame]
    simp [Ev.act, askedBit, latchedChannel, State.put]
  · have hnone : (members m.mask).flatMap (fun _ : Chan => ([] : List Record)) = [] := by simp
    simp only [hnone, List.append_nil, BitVec.or_zero, List.foldl_fixed]

theorem State.memberReady_congr {s t : State} {d : Chan} (he : s.engine = t.engine) (hc : s.chans[d]'d.isLt = t.chans[d]'d.isLt) :
    s.memberReady d = t.memberReady d := by
  unfold State.memberReady State.settings
  rw [hc, he]

/-- In a group that is not ready each member that is not ready raises EARLY_TRIGGER, in channel order (R143). -/
theorem Ev.groupTrigger_early {e : Ev} {m : Membership} (h : e.st.groupReady m = false) :
    e.groupTrigger m k = { e with
      st := { e.st with chans := vec8 fun d => if d ∈ members m.mask then e.st.earlied d else (e.st.chans[d]'d.isLt) }
      recs := e.recs ++ (members m.mask).flatMap (e.st.earlyRecords k) } := by
  unfold Ev.groupTrigger
  rw [if_neg (by rw [h]; decide)]
  have hstep : ∀ (t : Ev) (d : Chan), t.st.engine = e.st.engine → (t.st.chans[d]'d.isLt) = e.st.chans[d]'d.isLt →
      (if t.st.memberReady d then t
        else (t.addChanRecord d .earlyTrigger (t.chan d).play.startSlot k.val 0).raiseCond d .earlyTrigger)
      = t.act d (e.st.earlied d) t.st.port (e.st.earlyRecords k d) false := by
    intro t d he hsame
    unfold State.earlied State.earlyRecords
    rw [State.memberReady_congr he hsame]
    split
    · rw [← hsame]
      exact (t.act_self d).symm
    · rw [← hsame]
      simp [earlyChannel]
  refine (Ev.forEach_eachChan (g := e.st.earlied) (h := fun _ p => p) (r := e.st.earlyRecords k)
    (a := fun _ => 0#8) (fun t => t.st.engine = e.st.engine) (members_nodup _) rfl
    (fun t d _ ht hsame => ?_) fun t d _ ht hsame => ?_).trans ?_
  · rw [hstep t d ht hsame]
    exact ht
  · rw [hstep t d ht hsame]
    rfl
  · simp only [BitVec.or_zero, List.foldl_fixed]

end Delivered

end Sys2Proof.Machine

namespace Sys2Proof.Machine

/-! ## A trigger event that one ARMED group attends (R129, R143) -/

theorem Ev.forEach_stands {e : Ev} {f : Ev → Chan → Ev} {l : List Chan} (h : ∀ c ∈ l, f e c = e) : e.forEach l f = e := by
  induction l with
  | nil => rfl
  | cons c l ih =>
    have hrest : Ev.forEach e l f = e := ih fun d hd => h d (List.mem_cons_of_mem _ hd)
    exact (congrArg (fun t => Ev.forEach t l f) (h c (List.mem_cons_self ..))).trans hrest

theorem Channel.armedLeader_iff (ch : Channel) (c : Chan) (m : Membership) :
    ch.armedLeader c = some m ↔ ch.play.state = .armed ∧ ch.play.group = some m ∧ m.leader = c := by
  unfold Channel.armedLeader
  split
  · rename_i g hs hg
    constructor
    · intro h
      split at h
      · next hc => cases h; exact ⟨hs, hg, hc⟩
      · cases h
    · rintro ⟨-, hg', hc⟩
      cases hg.symm.trans hg'
      exact if_pos hc
  · rename_i hno
    constructor
    · intro h; cases h
    · rintro ⟨hs, hg, -⟩
      exact (hno m hs hg).elim

theorem offeredChannel_armed {k : LineIx} {ch : Channel} (hs : ch.play.state = .armed) : offeredChannel k ch = ch := by
  simp [offeredChannel, Channel.awaits, hs]

section Group

variable {k : LineIx} {e : Ev} {c : Chan} {m : Membership}

theorem State.groupReady_congr {s t : State} (he : s.engine = t.engine)
    (hc : ∀ d ∈ members m.mask, s.chans[d]'d.isLt = t.chans[d]'d.isLt) : s.groupReady m = t.groupReady m := by
  unfold State.groupReady
  rw [Bool.eq_iff_iff, List.all_eq_true, List.all_eq_true]
  exact forall₂_congr fun d hd => by rw [State.memberReady_congr he (hc d hd)]

/-- A member after a trigger event that its group attends (R143). -/
def State.triggered (s : State) (m : Membership) (d : Chan) : Channel :=
  if s.groupReady m then latchedChannel (s.chans[d]'d.isLt) else s.earlied d

/-- The records of a trigger event that a group attends (R143). -/
def State.triggeredRecords (s : State) (m : Membership) (k : LineIx) : List Record :=
  if s.groupReady m then [] else (members m.mask).flatMap (s.earlyRecords k)

theorem Ev.groupTrigger_eq (e : Ev) (m : Membership) (k : LineIx) :
    e.groupTrigger m k = { e with
      st := { e.st with chans := vec8 fun d => if d ∈ members m.mask then e.st.triggered m d else (e.st.chans[d]'d.isLt) }
      recs := e.recs ++ e.st.triggeredRecords m k } := by
  cases h : e.st.groupReady m with
  | true =>
    rw [Ev.groupTrigger_ready h]
    simp [State.triggered, State.triggeredRecords, h]
  | false =>
    rw [Ev.groupTrigger_early h]
    simp [State.triggered, State.triggeredRecords, h]

theorem State.triggered_congr {s t : State} (he : s.engine = t.engine)
    (hc : ∀ d ∈ members m.mask, s.chans[d]'d.isLt = t.chans[d]'d.isLt) {d : Chan} (hd : d ∈ members m.mask) :
    s.triggered m d = t.triggered m d := by
  rw [State.triggered, State.triggered, State.groupReady_congr he hc, State.earlied, State.earlied,
    State.memberReady_congr he (hc d hd), hc d hd]

theorem State.triggeredRecords_congr {s t : State} (he : s.engine = t.engine)
    (hc : ∀ d ∈ members m.mask, s.chans[d]'d.isLt = t.chans[d]'d.isLt) : s.triggeredRecords m k = t.triggeredRecords m k := by
  rw [State.triggeredRecords, State.triggeredRecords, State.groupReady_congr he hc]
  refine congrArg _ (List.flatMap_congr fun d hd => ?_)
  rw [State.earlyRecords, State.earlyRecords, State.memberReady_congr he (hc d hd), hc d hd]

theorem State.triggered_state (s : State) (m : Membership) (d : Chan) :
    (s.triggered m d).play.state = (s.chans[d]'d.isLt).play.state := by
  unfold State.triggered State.earlied
  split
  · rfl
  · split <;> rfl

theorem State.triggered_leader {s : State} {d : Chan} {g g' : Membership} (hg : (s.chans[d]'d.isLt).play.group = some g)
    (h : (s.triggered m d).play.group = some g') : g'.leader = g.leader := by
  unfold State.triggered State.earlied at h
  split at h
  · have : (s.chans[d]'d.isLt).play.group.map (fun g => { g with latch := true }) = some g' := h
    rw [hg] at this
    cases this
    rfl
  · have : (s.chans[d]'d.isLt).play.group = some g' := by
      split at h <;> exact h
    cases hg.symm.trans this
    rfl

/-- The ARMED group that channel `c` leads is the only one that attends line `k`, and its members are ARMED in it. -/
structure State.soleGroup (s : State) (k : LineIx) (c : Chan) (m : Membership) : Prop where
  leads : (s.chans[c]'c.isLt).armedLeader c = some m
  condition : m.condition = .trigger k
  member : m.mask.getLsbD c.val = true
  sole : ∀ (d : Chan) (n : Membership), (s.chans[d]'d.isLt).armedLeader d = some n → n.condition = .trigger k → d = c
  armed : ∀ d : Chan, m.mask.getLsbD d.val = true → (s.chans[d]'d.isLt).play.state = .armed ∧ (s.chans[d]'d.isLt).play.group = some m

theorem Ev.offerTrigger_leads {t : Ev} (hc : (t.st.chans[c.val]'c.isLt).armedLeader c = some m) (hk : m.condition = .trigger k) :
    Ev.offerTrigger k t c = t.groupTrigger m k := by
  obtain ⟨hs, -, -⟩ := (Channel.armedLeader_iff _ _ _).1 hc
  simp [Ev.offerTrigger, hs, hc, hk]

/-- The channels' offers where one ARMED group attends (R73, R78, R129, R143). -/
theorem Ev.offerAll_group (h : e.st.soleGroup k c m) :
    ∃ p a, e.forEach allChans (Ev.offerTrigger k) = { e with
        st := { e.st with
          chans := vec8 fun d => if d ∈ members m.mask then e.st.triggered m d else offeredChannel k (e.st.chans[d]'d.isLt)
          port := p }
        recs := e.recs ++ e.st.triggeredRecords m k
        asked := a }
      ∧ ((∀ d : Chan, m.mask.getLsbD d.val = false → (e.st.chans[d]'d.isLt).attendsLine k = false) → p = e.st.port ∧ a = e.asked) := by
  obtain ⟨before, after, hsplit⟩ := List.append_of_mem (mem_allChans c)
  have hnodup : (before ++ c :: after).Nodup := hsplit ▸ allChans_nodup
  obtain ⟨hbefore, hcafter, hdisjoint⟩ := List.nodup_append.1 hnodup
  obtain ⟨hcnot, hafter⟩ := List.nodup_cons.1 hcafter
  have hcmem : c ∈ members m.mask := mem_members.2 h.member
  obtain ⟨-, -, hleader⟩ := (Channel.armedLeader_iff _ _ _).1 h.leads
  -- the channels before the leader
  obtain ⟨p, -, hfirst⟩ := Ev.offerAll (e := e) (k := k) hbefore fun d hd ⟨n, hn, hnk⟩ =>
    hdisjoint d hd c (List.mem_cons_self ..) (h.sole d n hn hnk)
  obtain ⟨e1, he1⟩ : ∃ e1, e1 = e.forEach before (Ev.offerTrigger k) := ⟨_, rfl⟩
  rw [← he1] at hfirst
  have hkept : ∀ d ∈ members m.mask, e1.st.chans[d]'d.isLt = e.st.chans[d]'d.isLt := by
    intro d hd
    rw [hfirst]
    refine (vec8_get _ d).trans ?_
    split
    · exact offeredChannel_armed (h.armed d (mem_members.1 hd)).1
    · rfl
  have hengine : e1.st.engine = e.st.engine := by rw [hfirst]
  -- the leader
  have hlead : Ev.offerTrigger k e1 c = e1.groupTrigger m k :=
    Ev.offerTrigger_leads (by rw [← Fin.getElem_fin, hkept c hcmem]; exact h.leads) h.condition
  obtain ⟨e2, he2⟩ : ∃ e2, e2 = e1.groupTrigger m k := ⟨_, rfl⟩
  have hsecond : e2 = { e1 with
      st := { e1.st with chans := vec8 fun d => if d ∈ members m.mask then e.st.triggered m d else (e1.st.chans[d]'d.isLt) }
      recs := e1.recs ++ e.st.triggeredRecords m k } := by
    have hvec : (fun d => if d ∈ members m.mask then e1.st.triggered m d else (e1.st.chans[d]'d.isLt))
        = fun d => if d ∈ members m.mask then e.st.triggered m d else (e1.st.chans[d]'d.isLt) := funext fun d => by
      split
      · next hd => exact State.triggered_congr hengine hkept hd
      · rfl
    rw [he2, Ev.groupTrigger_eq, State.triggeredRecords_congr hengine hkept, hvec]
  have hchan2 : ∀ d : Chan, e2.st.chans[d]'d.isLt = if d ∈ members m.mask then e.st.triggered m d else (e1.st.chans[d]'d.isLt) := by
    intro d
    rw [hsecond]
    exact vec8_get _ d
  -- the channels after it
  have hnolead : ∀ d ∈ after, ¬(e2.st.chans[d.val]'d.isLt).leadsFor d k := by
    rintro d hd ⟨n, hn, hnk⟩
    have hdc : d ≠ c := fun hdc => hcnot (hdc ▸ hd)
    rw [← Fin.getElem_fin, hchan2] at hn
    split at hn
    · next hmem =>
      obtain ⟨-, hgroup, hnlead⟩ := (Channel.armedLeader_iff _ _ _).1 hn
      exact hdc (hnlead.symm.trans ((State.triggered_leader (h.armed d (mem_members.1 hmem)).2 hgroup).trans hleader))
    · have hsame : e1.st.chans[d]'d.isLt = e.st.chans[d]'d.isLt := by
        rw [hfirst]
        refine (vec8_get _ d).trans (if_neg fun hdb => ?_)
        exact hdisjoint d hdb d (List.mem_cons_of_mem _ hd) rfl
      rw [hsame] at hn
      exact hdc (h.sole d n hn hnk)
  obtain ⟨q, -, hlast⟩ := Ev.offerAll (e := e2) (k := k) hafter hnolead
  have hall : e.forEach allChans (Ev.offerTrigger k) = e2.forEach after (Ev.offerTrigger k) := by
    rw [hsplit, Ev.forEach, List.foldl_append, List.foldl_cons]
    refine congrArg (fun t => List.foldl (Ev.offerTrigger k) t after) ?_
    rw [he2, ← hlead, he1]
    rfl
  have hclosed : e.forEach allChans (Ev.offerTrigger k) = { e with
        st := { e.st with
          chans := vec8 fun d => if d ∈ members m.mask then e.st.triggered m d else offeredChannel k (e.st.chans[d]'d.isLt)
          port := q }
        recs := e.recs ++ e.st.triggeredRecords m k
        asked := (e2.forEach after (Ev.offerTrigger k)).asked } := by
    have hchans : (e2.forEach after (Ev.offerTrigger k)).st.chans
        = vec8 fun d => if d ∈ members m.mask then e.st.triggered m d else offeredChannel k (e.st.chans[d]'d.isLt) := by
      refine chans_ext fun d => ?_
      rw [hlast]
      refine (vec8_get _ d).trans (Eq.trans ?_ (vec8_get _ d).symm)
      rw [hchan2]
      by_cases hd : d ∈ members m.mask
      · have harmed : (e.st.triggered m d).play.state = .armed :=
          (State.triggered_state ..).trans (h.armed d (mem_members.1 hd)).1
        rw [if_pos hd, if_pos hd, offeredChannel_armed harmed, ite_self]
      · rw [if_neg hd, if_neg hd]
        have hin : d ∈ before ++ c :: after := hsplit ▸ mem_allChans d
        have h1 : e1.st.chans[d]'d.isLt = if d ∈ before then offeredChannel k (e.st.chans[d]'d.isLt) else (e.st.chans[d]'d.isLt) := by
          rw [hfirst]
          exact vec8_get _ d
        rw [h1]
        rcases List.mem_append.1 hin with hb | hb
        · rw [if_pos hb, if_neg fun ha => hdisjoint d hb d (List.mem_cons_of_mem _ ha) rfl]
        · rw [if_neg fun hb' => hdisjoint d hb' d hb rfl]
          rcases List.mem_cons.1 hb with rfl | ha
          · exact absurd hcmem hd
          · rw [if_pos ha]
    rw [hall, ← hchans, hlast, hsecond, hfirst]
  refine ⟨q, _, hclosed, fun hnone => ?_⟩
  -- where no other channel attends, each offer but the leader's passes by
  have hpass : ∀ (t : Ev) (d : Chan), (t.st.chans[d.val]'d.isLt).play.state = .armed ∨ (t.st.chans[d.val]'d.isLt).attendsLine k = false →
      ¬(t.st.chans[d.val]'d.isLt).leadsFor d k → Ev.offerTrigger k t d = t := by
    intro t d hd hl
    rcases hd with harmed | hattends
    · exact Ev.offerTrigger_stands (by simp [Channel.awaits, harmed]) (fun hs => by rw [harmed] at hs; cases hs) hl
    · refine Ev.offerTrigger_stands ?_ (fun hs => ?_) hl
      · exact Bool.eq_false_iff.2 fun ha => by rw [Channel.awaits_attends ha] at hattends; cases hattends
      · refine Bool.eq_false_iff.2 fun ha => ?_
        rw [(Channel.attendsLine_iff _ _).2 (Or.inr (Or.inl ((Channel.attendsAdvance_iff _ _).1 ha)))] at hattends
        cases hattends
  have hpassed1 : e1 = e := he1.trans <| Ev.forEach_stands fun d hd => by
    refine hpass e d ?_ fun ⟨n, hn, hnk⟩ => hdisjoint d hd c (List.mem_cons_self ..) (h.sole d n hn hnk)
    cases hmask : m.mask.getLsbD d.val
    · exact Or.inr (hnone d hmask)
    · exact Or.inl (h.armed d hmask).1
  have hpassed2 : e2.forEach after (Ev.offerTrigger k) = e2 := Ev.forEach_stands fun d hd => by
    refine hpass e2 d ?_ (hnolead d hd)
    rw [← Fin.getElem_fin, hchan2, hpassed1]
    cases hmask : m.mask.getLsbD d.val
    · rw [if_neg (by rw [mem_members, hmask]; decide)]
      exact Or.inr (hnone d hmask)
    · rw [if_pos (mem_members.2 hmask)]
      exact Or.inl ((State.triggered_state ..).trans (h.armed d hmask).1)
  have hend : e.forEach allChans (Ev.offerTrigger k) = e2 := hall.trans hpassed2
  constructor
  · have : q = e2.st.port := congrArg (fun t : Ev => t.st.port) (hclosed.symm.trans hend)
    rw [this, hsecond, hpassed1]
  · rw [hpassed2, hsecond, hpassed1]

end Group

end Sys2Proof.Machine

namespace Sys2Proof.Machine

section Armed

variable {s : State} {k : LineIx} {i : Instr} {edge applied : Nat} {c : Chan} {m : Membership}

theorem latchedChannel_group {ch : Channel} (h : ch.play.group = some m) :
    latchedChannel ch = { ch with play := { ch.play with group := some { m with latch := true } } } := by
  simp only [latchedChannel, Play.modGroup, h, Option.map_some]

/-- The members that are not ready. -/
def State.unready (s : State) (m : Membership) : List Chan := allChans.filter fun d => m.mask.getLsbD d.val && !s.memberReady d

theorem State.mem_unready {d : Chan} : d ∈ s.unready m ↔ m.mask.getLsbD d.val = true ∧ s.memberReady d = false := by
  simp only [State.unready, mem_filter_allChans, Bool.and_eq_true, Bool.not_eq_true']

theorem State.triggeredRecords_ready (h : s.groupReady m = true) : s.triggeredRecords m k = [] := if_pos h

theorem State.triggeredRecords_early (h : s.groupReady m = false) : s.triggeredRecords m k = (s.unready m).map fun d =>
    chanRecord d .earlyTrigger (s.chans[d]'d.isLt).play.sampleCount (s.chans[d]'d.isLt).play.startSlot k.val 0 := by
  have hrecords : ∀ d, s.earlyRecords k d = if s.memberReady d = false
      then [chanRecord d .earlyTrigger (s.chans[d]'d.isLt).play.sampleCount (s.chans[d]'d.isLt).play.startSlot k.val 0] else [] := by
    intro d
    unfold State.earlyRecords
    cases s.memberReady d <;> rfl
  rw [State.triggeredRecords, if_neg (by rw [h]; decide), List.flatMap_congr fun d _ => hrecords d, flatMap_ite, members,
    List.filter_filter]
  refine congrArg _ (List.filter_congr fun d _ => ?_)
  rw [Bool.and_comm, inMask]
  cases s.memberReady d <;> rfl

/-- The state after an event that one ARMED group attends. -/
theorem exec_delivers_armed (h : s.deliversBy k i edge applied) (hg : s.soleGroup k c m) :
    ∃ (u : TrigUnit) (e : Ev) (p : Port), exec i s = .next e.finish
      ∧ s.delivering k edge applied (if s.trig.lines[k.val].capture then 0 else s.trig.lines[k.val].ignored) u
      ∧ e.st = { s with
          trig := u
          chans := vec8 fun d => if d ∈ members m.mask then s.triggered m d else offeredChannel k (s.chans[d]'d.isLt)
          port := p }
      ∧ e.recs = captureRecords k s.trig.lines[k.val].capture edge applied s.trig.lines[k.val].ignored ++ s.triggeredRecords m k
      ∧ ((∀ d : Chan, m.mask.getLsbD d.val = false → (s.chans[d]'d.isLt).attendsLine k = false) → p = s.port ∧ e.asked = 0) := by
  obtain ⟨u, hu, hexec⟩ := exec_delivers h
  obtain ⟨p, a, hall, hnone⟩ := Ev.offerAll_group (e := s.captured u (captureRecords k s.trig.lines[k.val].capture edge applied
    s.trig.lines[k.val].ignored)) (k := k) (c := c) (m := m) ⟨hg.leads, hg.condition, hg.member, hg.sole, hg.armed⟩
  rw [hall] at hexec
  exact ⟨u, _, p, hexec, hu, rfl, rfl, hnone⟩

theorem State.triggeredRecords_quiet {d : Chan} (h : s.groupReady m = true ∨ s.memberReady d = true) :
    ∀ r ∈ s.triggeredRecords m k, r.source ≠ .channel d := by
  intro r hr hsource
  cases hready : s.groupReady m with
  | true => rw [State.triggeredRecords_ready hready] at hr; cases hr
  | false =>
    rw [State.triggeredRecords_early hready] at hr
    obtain ⟨x, hx, rfl⟩ := List.mem_map.1 hr
    cases hsource
    rw [hready, (State.mem_unready.1 hx).2] at h
    simp at h

/-- A member of the group after the event (R143). -/
theorem triggered_member {e : Ev} {u : TrigUnit} {p : Port} (hg : s.soleGroup k c m)
    (hst : e.st = { s with
      trig := u
      chans := vec8 fun d => if d ∈ members m.mask then s.triggered m d else offeredChannel k (s.chans[d]'d.isLt)
      port := p })
    (hrecs : e.recs = captureRecords k s.trig.lines[k.val].capture edge applied s.trig.lines[k.val].ignored
      ++ s.triggeredRecords m k) {d : Chan} (hd : m.mask.getLsbD d.val = true) :
    (s.groupReady m = true → (e.finish.chans[d.val]'d.isLt) = { s.chans[d.val]'d.isLt with
      play := { (s.chans[d.val]'d.isLt).play with group := some { m with latch := true } } })
    ∧ (s.groupReady m = false → s.memberReady d = true → (e.finish.chans[d.val]'d.isLt) = s.chans[d.val]'d.isLt)
    ∧ (s.groupReady m = false → s.memberReady d = false → (e.finish.chans[d.val]'d.isLt) = { s.chans[d.val]'d.isLt with
      accumulated := (s.chans[d.val]'d.isLt).accumulated ||| 0x008
      perRecord := 0 }) := by
  have hchan : e.st.chans[d.val]'d.isLt = s.triggered m d := by
    rw [hst]
    exact (vec8_get _ d).trans (if_pos (mem_members.2 hd))
  have hquiet : s.groupReady m = true ∨ s.memberReady d = true → (e.finish.chans[d.val]'d.isLt) = s.triggered m d := by
    intro h
    rw [← hchan]
    refine Ev.finish_quiet fun r hr => ?_
    rw [hrecs] at hr
    rcases List.mem_append.1 hr with hr | hr
    · exact captureRecords_source _ _ _ _ d r hr
    · exact State.triggeredRecords_quiet h r hr
  refine ⟨fun h => ?_, fun h hr => ?_, fun h hr => ?_⟩
  · rw [hquiet (Or.inl h), State.triggered, if_pos h]
    exact latchedChannel_group (hg.armed d hd).2
  · rw [hquiet (Or.inr hr), State.triggered, if_neg (by rw [h]; decide), State.earlied, if_pos hr]
    rfl
  · have hzero : (e.finish.chans[d.val]'d.isLt).perRecord = 0 := by
      refine Ev.finish_perRecord ⟨chanRecord d .earlyTrigger (s.chans[d]'d.isLt).play.sampleCount (s.chans[d]'d.isLt).play.startSlot k.val 0, ?_, rfl⟩
      rw [hrecs, State.triggeredRecords_early h]
      exact List.mem_append_right _ (List.mem_map.2 ⟨d, State.mem_unready.2 ⟨hd, hr⟩, rfl⟩)
    rw [Ev.finish_chan, hzero, hchan, State.triggered, if_neg (by rw [h]; decide), State.earlied, if_neg (by rw [hr]; decide)]
    rfl

/-- An event that one ARMED group and no channel beside it attends (R128, R143). -/
theorem triggered_whole {e : Ev} {u : TrigUnit} {p : Port}
    (hst : e.st = { s with
      trig := u
      chans := vec8 fun d => if d ∈ members m.mask then s.triggered m d else offeredChannel k (s.chans[d]'d.isLt)
      port := p })
    (hrecs : e.recs = captureRecords k s.trig.lines[k.val].capture edge applied s.trig.lines[k.val].ignored
      ++ s.triggeredRecords m k)
    (halone : (∀ d : Chan, m.mask.getLsbD d.val = false → (s.chans[d]'d.isLt).attendsLine k = false) → p = s.port ∧ e.asked = 0)
    (hnone : ∀ d : Chan, m.mask.getLsbD d.val = false → (s.chans[d]'d.isLt).attendsLine k = false) :
    e.finish = State.handOverAll
      (captureRecords k s.trig.lines[k.val].capture edge applied s.trig.lines[k.val].ignored ++ s.triggeredRecords m k)
      { s with
        trig := u
        chans := vec8 fun d => if m.mask.getLsbD d.val then s.triggered m d else (s.chans[d]'d.isLt) } := by
  obtain ⟨hport, hasked⟩ := halone hnone
  have hchans : (vec8 fun d => if d ∈ members m.mask then s.triggered m d else offeredChannel k (s.chans[d]'d.isLt))
      = vec8 fun d => if m.mask.getLsbD d.val then s.triggered m d else (s.chans[d]'d.isLt) := by
    refine congrArg vec8 (funext fun d => ?_)
    simp only [mem_members]
    split
    · rfl
    · next hd => exact offeredChannel_unattending (hnone d (by simpa using hd))
  rw [hport, hchans] at hst
  exact Ev.finish_eq (l := []) hst hrecs (by rw [hasked]; decide)

/-- An event that one ARMED group attends (R128, R143). -/
theorem delivered_armed (h : s.deliversBy k i edge applied) (hg : s.soleGroup k c m) :
    ∃ t, exec i s = .next t
      ∧ (∀ d : Chan, m.mask.getLsbD d.val = true →
        (s.groupReady m = true → (t.chans[d]'d.isLt) = { s.chans[d]'d.isLt with
          play := { (s.chans[d]'d.isLt).play with group := some { m with latch := true } } })
        ∧ (s.groupReady m = false → s.memberReady d = true → (t.chans[d]'d.isLt) = s.chans[d]'d.isLt)
        ∧ (s.groupReady m = false → s.memberReady d = false → (t.chans[d]'d.isLt) = { s.chans[d]'d.isLt with
          accumulated := (s.chans[d]'d.isLt).accumulated ||| 0x008
          perRecord := 0 }))
      ∧ s.delivering k edge applied (if s.trig.lines[k.val].capture then 0 else s.trig.lines[k.val].ignored) t.trig
      ∧ ((∀ d : Chan, m.mask.getLsbD d.val = false → (s.chans[d]'d.isLt).attendsLine k = false) →
        t = State.handOverAll
          (captureRecords k s.trig.lines[k.val].capture edge applied s.trig.lines[k.val].ignored ++ s.triggeredRecords m k)
          { s with
            trig := t.trig
            chans := vec8 fun d => if m.mask.getLsbD d.val then s.triggered m d else (s.chans[d]'d.isLt) }) := by
  obtain ⟨u, e, p, hexec, hu, hst, hrecs, halone⟩ := exec_delivers_armed h hg
  have htrig : e.finish.trig = u := by
    obtain ⟨-, -, -, htrig, -⟩ := e.finish_records
    rw [htrig, hst]
  refine ⟨e.finish, hexec, fun d hd => triggered_member hg hst hrecs hd, by rw [htrig]; exact hu, fun hnone => ?_⟩
  rw [htrig]
  exact triggered_whole hst hrecs halone hnone

theorem State.triggered_ready (hg : s.soleGroup k c m) (h : s.groupReady m = true) :
    (vec8 fun d => if m.mask.getLsbD d.val then s.triggered m d else (s.chans[d]'d.isLt)) = vec8 fun d =>
      if m.mask.getLsbD d.val then { s.chans[d]'d.isLt with play := { (s.chans[d]'d.isLt).play with group := some { m with latch := true } } }
      else (s.chans[d]'d.isLt) := by
  refine congrArg vec8 (funext fun d => ?_)
  split
  · next hd =>
    rw [State.triggered, if_pos h]
    exact latchedChannel_group (hg.armed d hd).2
  · rfl

theorem State.triggered_early (h : s.groupReady m = false) :
    (vec8 fun d => if m.mask.getLsbD d.val then s.triggered m d else (s.chans[d]'d.isLt)) = vec8 fun d =>
      if d ∈ s.unready m then { s.chans[d]'d.isLt with
        perRecord := (s.chans[d]'d.isLt).perRecord ||| 0x008
        accumulated := (s.chans[d]'d.isLt).accumulated ||| 0x008 }
      else (s.chans[d]'d.isLt) := by
  refine congrArg vec8 (funext fun d => ?_)
  simp only [State.mem_unready, State.triggered, h, State.earlied]
  cases m.mask.getLsbD d.val <;> cases s.memberReady d <;> rfl

end Armed

/-- Settles O48, from the closed form of the offers: without an ARMED group each channel takes its own, with one the leader's offer
is the group's. -/
theorem deliveredEventReachesTheAttending : Obligations.DeliveredEventReachesTheAttending := by
  refine ⟨Channel.attendsLine_iff, fun k i edge applied s l h hl => ⟨fun harmed => ?unarmed,
    fun c m hlead hcond hmember hsole hmembers => ?armed⟩⟩
  case unarmed =>
    subst hl
    obtain ⟨t, hexec, hchan, ⟨hidle, hedge, happlied, hignored, -, hothers, htime⟩, hreport, hwhole, hframe⟩ :=
      delivered_unarmed h harmed
    refine ⟨t, hexec, fun c => ⟨fun ctx hs hw hstep => ?_, fun hs ha => ?_, fun ha => ?_⟩, hidle, hedge, happlied, hignored, hothers,
      htime, fun record hr => hreport record (by rw [hr]; rfl), fun woken reads hport hwoken hreads => ?_, hframe⟩
    · exact (hchan c).trans (offeredChannel_woken hs hw hstep)
    · exact (hchan c).trans (offeredChannel_advanced hs ha)
    · exact (hchan c).trans (offeredChannel_unattending ha)
    · rw [hreads, hwoken]
      refine (hwhole hport).trans ?_
      rw [flatMap_filter]
      rfl
  case armed =>
    subst hl
    have hg : s.soleGroup k c m := ⟨hlead, hcond, hmember, hsole, hmembers⟩
    obtain ⟨t, hexec, hchan, ⟨hidle, hedge, happlied, hignored, -, hothers, htime⟩, hwhole⟩ := delivered_armed h hg
    refine ⟨t, hexec, hchan, hidle, hedge, happlied, hignored, hothers, htime, fun hready hnone => ?_,
      fun early hearly hnone heq => ?_⟩
    · refine (hwhole hnone).trans ?_
      rw [State.triggered_ready hg hready, State.triggeredRecords_ready hready, List.append_nil]
      rfl
    · refine (hwhole hnone).trans ?_
      rw [State.triggered_early hearly, State.triggeredRecords_early hearly, heq]
      rfl

end Sys2Proof.Machine

namespace Sys2Proof.Machine

/-! ## What a placed step and a released bank leave of a channel (R28, R29, R59) -/

/-- The fetch context of a reader that goes on after a placed step (R28). -/
def readOnFetch (f : Fetch) (ctx : StepContext) : Fetch :=
  if ctx.decision then { f with reader := .decisionPause }
  else match ctx.successor with
    | none => { f with reader := .listEnd }
    | some slot => { f with cursor := slot, reader := if f.window.length < 4 then .slotRead else .windowFull }

section Placement

variable {s : State} {c : Chan} {ctx : StepContext}

theorem State.raise_chans (s : State) (r : Request) : (s.raise r).chans = s.chans := by rw [State.raise_eq]

theorem State.readsOn_chan (s : State) (c : Chan) (ctx : StepContext) :
    (s.readsOn c ctx).chans[c.val]'c.isLt = { s.chans[c.val]'c.isLt with fetch := readOnFetch (s.chans[c.val]'c.isLt).fetch ctx } := by
  rw [State.readsOn_eq]
  unfold readOnFetch State.readerOn
  by_cases hd : ctx.decision = true
  · rw [if_pos hd, if_pos hd]
    exact State.modFetch_same ..
  · rw [if_neg hd, if_neg hd]
    cases ctx.successor with
    | none => exact State.modFetch_same ..
    | some slot =>
      dsimp only
      rw [State.readerTo_eq, Fin.getElem_fin]
      by_cases hroom : (s.chans[c.val]'c.isLt).fetch.window.length < 4
      · rw [if_pos hroom, if_pos hroom, State.raise_chans]
        exact State.modFetch_same ..
      · rw [if_neg hroom, if_neg hroom]
        exact State.modFetch_same ..

/-- The channel after a context has been placed; `data`, `owed` and `reserve` are the data feeder's. -/
theorem State.placeContext_chan (s : State) (c : Chan) (ctx : StepContext) : ∃ data owed reserve,
    (s.placeContext c ctx).chans[c.val]'c.isLt = { s.chans[c.val]'c.isLt with
      fetch := readOnFetch { (s.chans[c.val]'c.isLt).fetch.joined ctx with data := data, owed := owed } ctx
      pool := { (s.chans[c.val]'c.isLt).pool with reserve := reserve } } := by
  obtain ⟨data, owed, reserve, hfed⟩ := (s.modFetch c (·.joined ctx)).fed_eq c
  refine ⟨data, owed, reserve, ?_⟩
  rw [State.placeContext_eq, State.readsOn_chan]
  rw [State.fed] at hfed
  rw [hfed]
  simp only [State.modFetch_put, State.put_chan]

theorem State.placeResident_chan (s : State) (c : Chan) (ctx : StepContext) (id : BankId) : ∃ data owed reserve,
    (s.placeResident c ctx id).chans[c.val]'c.isLt = { s.chans[c.val]'c.isLt with
      fetch := readOnFetch { (s.chans[c.val]'c.isLt).fetch.joined { ctx with bank := some id } with data := data, owed := owed } ctx
      pool := { (s.chans[c.val]'c.isLt).pool.setBank id (.loading ctx.occ []) with reserve := reserve } } := by
  obtain ⟨data, owed, reserve, h⟩ :=
    (s.modPool c fun p => p.setBank id (.loading ctx.occ [])).placeContext_chan c { ctx with bank := some id }
  refine ⟨data, owed, reserve, h.trans ?_⟩
  simp only [State.modPool_put, State.put_chan]
  rfl

theorem State.released_chan (s : State) (c : Chan) (occ : Nat) : ∃ data owed reserve,
    (s.released c occ).chans[c.val]'c.isLt = { s.chans[c.val]'c.isLt with
      fetch := { (s.chans[c.val]'c.isLt).fetch with data := data, owed := owed }
      pool := { (s.chans[c.val]'c.isLt).pool with
        bankA := (s.chans[c.val]'c.isLt).pool.bankA.releasedFrom occ
        bankB := (s.chans[c.val]'c.isLt).pool.bankB.releasedFrom occ
        reserve := reserve } } := by
  obtain ⟨base, hbase, hfetch, hpool, hplay⟩ : ∃ base : State, s.released c occ = base.feed c
      ∧ (∃ data owed, (base.chans[c.val]'c.isLt).fetch = { (s.chans[c.val]'c.isLt).fetch with data := data, owed := owed })
      ∧ (base.chans[c.val]'c.isLt).pool = { (s.chans[c.val]'c.isLt).pool with
        bankA := (s.chans[c.val]'c.isLt).pool.bankA.releasedFrom occ, bankB := (s.chans[c.val]'c.isLt).pool.bankB.releasedFrom occ }
      ∧ (base.chans[c.val]'c.isLt) = { s.chans[c.val]'c.isLt with fetch := (base.chans[c.val]'c.isLt).fetch, pool := (base.chans[c.val]'c.isLt).pool } := by
    refine ⟨_, rfl, ?_, ?_, ?_⟩
    · simp only [Fin.getElem_fin, Vector.getElem_set_self]
      cases (s.chans[c.val]'c.isLt).fetch.data with
      | none => exact ⟨_, _, rfl⟩
      | some d =>
        cases d with
        | invalid => exact ⟨_, _, rfl⟩
        | step d _ _ =>
          dsimp only
          split <;> exact ⟨_, _, rfl⟩
    · simp only [Fin.getElem_fin, Vector.getElem_set_self, Bank.releasedFrom]
    · simp only [Fin.getElem_fin, Vector.getElem_set_self]
  obtain ⟨data', owed', hfetch⟩ := hfetch
  obtain ⟨data, owed, reserve, hfed⟩ := base.fed_eq c
  refine ⟨data, owed, reserve, ?_⟩
  rw [hbase]
  refine hfed.trans ?_
  rw [hplay, hfetch, hpool]

end Placement

/-! ## The retirement of a playing step (R29, R30, R41, R59, R70) -/

/-- The state right after a playing step's retirement, at any port. -/
def State.retiredBy (s : State) (c : Chan) (ctx : StepContext) : State :=
  let base := s.put c (retiredChannel (s.chans[c.val]'c.isLt) ctx (s.chans[c.val]'c.isLt).play.offset) (s.retiredPort c ctx)
  if ctx.resident then base.releaseBank c ctx.occ else base

section Retiring

variable {s : State} {c : Chan} {ctx : StepContext} {placed : Option (StepContext × BankId)}

theorem State.retiredBy_fetchMoved (s : State) (c : Chan) (ctx : StepContext) :
    (s.put c (retiredChannel (s.chans[c.val]'c.isLt) ctx (s.chans[c.val]'c.isLt).play.offset) (s.retiredPort c ctx)).fetchMoved
      (s.retiredBy c ctx) c := by
  unfold State.retiredBy
  dsimp only
  split
  · exact State.releaseBank_fetchMoved _ c _
  · exact State.fetchMoved_refl _ c

theorem State.retiredBy_eq_put (s : State) (c : Chan) (ctx : StepContext) :
    s.retiredBy c ctx = s.put c ((s.retiredBy c ctx).chans[c.val]'c.isLt) (s.retiredBy c ctx).port := by
  have h := (s.retiredBy_fetchMoved c ctx).eq_put
  rwa [State.put_put] at h

/-- A playing step retires: its requests, its STEP_END record, its bank (R70). -/
theorem Ev.retirePlaying_act (e : Ev) (c : Chan) (ctx : StepContext) :
    e.retirePlaying c ctx = e.act c ((e.st.retiredBy c ctx).chans[c.val]'c.isLt) (e.st.retiredBy c ctx).port
      ((e.st.chans[c.val]'c.isLt).endRecords c ctx) true := by
  let base := e.st.put c (retiredChannel (e.st.chans[c.val]'c.isLt) ctx (e.st.chans[c.val]'c.isLt).play.offset) (e.st.retiredPort c ctx)
  have hquiet : ∀ rs, (e.act c (retiredStep (e.st.chans[c.val]'c.isLt) ctx) (e.st.retiredPort c ctx) rs true).mod (·.quietMarkers c)
      = e.act c (base.chans[c.val]'c.isLt) base.port rs true := by
    intro rs
    simp only [Ev.quietMarkers_act, Ev.act_act, Ev.act_st, State.put_chan, State.put_port, List.append_nil, Bool.or_false, base]
    rfl
  have hthird : (if ctx.body.reportEnd = true then (e.retireStep c ctx).addChanRecord c .stepEnd ctx.slot
        (e.chan c).play.stepExpiries (e.chan c).level.stepClips else e.retireStep c ctx).mod (·.quietMarkers c)
      = e.act c (base.chans[c.val]'c.isLt) base.port ((e.st.chans[c.val]'c.isLt).endRecords c ctx) true := by
    rw [← hquiet, Channel.endRecords]
    refine congrArg (Ev.mod · (·.quietMarkers c)) ?_
    rw [Ev.retireStep_act]
    split
    · simp [retiredStep]
    · rfl
  unfold Ev.retirePlaying State.retiredBy
  dsimp only
  rw [hthird]
  split
  · refine (Ev.mod_fetchMoved _ c (State.releaseBank_fetchMoved _ c _)).trans ?_
    simp [base]
  · rfl

/-- A release without a context held in BANK_WAIT (R59). -/
theorem State.releaseBank_free {occ : Nat} (h : (s.chans[c.val]'c.isLt).fetch.reader ≠ .bankWait) :
    s.releaseBank c occ = s.released c occ := by
  obtain ⟨data, owed, reserve, hreleased⟩ := s.released_chan c occ
  rw [State.releaseBank_eq, Fin.getElem_fin, hreleased]
  cases hr : (s.chans[c.val]'c.isLt).fetch.reader
  case bankWait => exact absurd hr h
  all_goals rfl

/-- A release that lets a context held in BANK_WAIT take the bank (R29, R59). -/
theorem State.releaseBank_taken {occ : Nat} {held : StepContext} {id : BankId} (h : (s.chans[c.val]'c.isLt).fetch.reader = .bankWait)
    (hheld : (s.chans[c.val]'c.isLt).fetch.held = some held) (hid : ((s.chans[c.val]'c.isLt).pool.bank id).occ? = some occ)
    (hothers : ∀ other : BankId, other ≠ id → (s.chans[c.val]'c.isLt).pool.bank other ≠ .free
      ∧ ((s.chans[c.val]'c.isLt).pool.bank other).occ? ≠ some occ) :
    s.releaseBank c occ = (s.released c occ).placeResident c held id := by
  obtain ⟨data, owed, reserve, hreleased⟩ := s.released_chan c occ
  have hfree : ((s.released c occ).chans[c.val]'c.isLt).pool.freeBank = some id := by
    rw [hreleased]
    cases id with
    | a =>
      have hA : (s.chans[c.val]'c.isLt).pool.bankA.occ? = some occ := hid
      simp [Pool.freeBank, Bank.releasedFrom, hA]
    | b =>
      have hB : (s.chans[c.val]'c.isLt).pool.bankB.occ? = some occ := hid
      obtain ⟨hA, hAocc⟩ := hothers .a (by decide)
      change (s.chans[c.val]'c.isLt).pool.bankA ≠ .free at hA
      change (s.chans[c.val]'c.isLt).pool.bankA.occ? ≠ some occ at hAocc
      simp [Pool.freeBank, Bank.releasedFrom, hB, hA, hAocc]
  rw [State.releaseBank_eq, Fin.getElem_fin, hfree, hreleased, h, hheld]

/-- The retirement of a playing step with the context it lets in, at an IDLE or a BUSY port (R29, R70). -/
theorem State.retiredBy_eq (hport : s.port.idleEmpty) (h : (s.chans[c.val]'c.isLt).letsIn ctx placed) :
    s.retiredBy c ctx = s.retires c ctx (s.chans[c.val]'c.isLt).play.offset placed := by
  have hbase : s.put c (retiredChannel (s.chans[c.val]'c.isLt) ctx (s.chans[c.val]'c.isLt).play.offset) (s.retiredPort c ctx) = { s with
      chans := s.chans.set c (retiredChannel (s.chans[c]'c.isLt) ctx (s.chans[c.val]'c.isLt).play.offset)
      port := s.port.after (s.retireRequests c ctx) } := by
    rw [State.retiredPort_after hport]
    rfl
  unfold State.retiredBy State.retires
  dsimp only
  rw [hbase]
  rcases h with ⟨hfree, rfl⟩ | ⟨held, id, hres, hreader, hheld, hid, hothers, rfl⟩
  · dsimp only
    by_cases hres : ctx.resident = true
    · rw [if_pos hres, if_pos hres]
      refine State.releaseBank_free ?_
      rcases hfree with hno | hreader
      · rw [hres] at hno; cases hno
      · simp only [Vector.getElem_set_self, retiredChannel, Fin.getElem_fin]
        split
        · decide
        · exact hreader
    · rw [if_neg hres, if_neg hres]
  · dsimp only
    rw [if_pos hres, if_pos hres, State.placed_some]
    refine State.releaseBank_taken ?_ ?_ ?_ ?_
    · simp [retiredChannel, hreader]
    · simp [retiredChannel, hheld]
    · simpa [retiredChannel] using hid
    · simpa [retiredChannel] using hothers

end Retiring

end Sys2Proof.Machine

namespace Sys2Proof.Machine

/-! ## The channel right after a retirement (R29, R59, R70) -/

/-- The entry that a context let in adds to the window (R29). -/
def placedEntries (placed : Option (StepContext × BankId)) : List WindowEntry :=
  match placed with
  | some (held, id) => [.step { held with bank := some id }]
  | none => []

section Fields

variable {s : State} {c : Chan} {ctx : StepContext} {placed : Option (StepContext × BankId)}

theorem readOnFetch_window (f : Fetch) (ctx : StepContext) : (readOnFetch f ctx).window = f.window := by
  unfold readOnFetch
  split
  · rfl
  · cases ctx.successor <;> rfl

theorem readOnFetch_map (f : Fetch) (ctx : StepContext) : (readOnFetch f ctx).map = f.map := by
  unfold readOnFetch
  split
  · rfl
  · cases ctx.successor <;> rfl

theorem readOnFetch_held (f : Fetch) (ctx : StepContext) : (readOnFetch f ctx).held = f.held := by
  unfold readOnFetch
  split
  · rfl
  · cases ctx.successor <;> rfl

theorem readOnFetch_frontier (f : Fetch) (ctx : StepContext) : (readOnFetch f ctx).frontier = f.frontier := by
  unfold readOnFetch
  split
  · rfl
  · cases ctx.successor <;> rfl

theorem readOnFetch_readerAfter {f before : Fetch} {ctx : StepContext} (hc : f.cursor = before.cursor)
    (hw : f.window.length = before.window.length + 1) : readerAfter ctx before (readOnFetch f ctx) := by
  unfold readerAfter readOnFetch
  split
  · exact ⟨rfl, hc⟩
  · cases ctx.successor with
    | none => exact ⟨rfl, hc⟩
    | some slot => exact ⟨rfl, by rw [← hw]⟩

/-- A bank right after the retirement of `ctx` (R29, R59). -/
def Channel.bankLeft (ch : Channel) (ctx : StepContext) (placed : Option (StepContext × BankId)) (id : BankId) : Bank :=
  match placed with
  | some (held, taken) => if id = taken then .loading held.occ [] else ch.pool.bank id
  | none => if ctx.resident = true ∧ (ch.pool.bank id).occ? = some ctx.occ then .free else ch.pool.bank id

/-- What the channel's fetch context and banks are right after the retirement of `ctx`. -/
structure Channel.left (ch after : Channel) (ctx : StepContext) (placed : Option (StepContext × BankId)) : Prop where
  window : after.fetch.window = ch.fetch.window.tail ++ placedEntries placed
  frontier : after.fetch.frontier = ch.fetch.frontier
  bank : ∀ id : BankId, after.pool.bank id = ch.bankLeft ctx placed id
  map : placed = none → after.fetch.map = ch.fetch.map
  taken : ∀ (held : StepContext) (id : BankId), placed = some (held, id) →
    after.fetch.held = none ∧ after.fetch.map = mapAfter held.body held.slot ch.fetch.map
    ∧ readerAfter held { ch.fetch with window := ch.fetch.window.tail } after.fetch
  play : after.play = { ch.play with retired := (ch.play.retired + 1) % 4294967296, lastRetired := some ctx.slot }

/-- A streamed step's retirement frees no bank. -/
theorem State.retiredBy_streamed (hres : ctx.resident = false) :
    (s.chans[c.val]'c.isLt).left ((s.retiredBy c ctx).chans[c.val]'c.isLt) ctx none := by
  have hchan : (s.retiredBy c ctx).chans[c.val]'c.isLt = retiredChannel (s.chans[c.val]'c.isLt) ctx (s.chans[c.val]'c.isLt).play.offset := by
    unfold State.retiredBy
    dsimp only
    rw [if_neg (by rw [hres]; decide), State.put_chan]
  rw [hchan]
  exact ⟨(List.append_nil _).symm, rfl, fun id => (if_neg (by rw [hres]; rintro ⟨h, -⟩; cases h)).symm, fun _ => rfl,
    fun _ _ h => by (cases h), rfl⟩

/-- A resident step's retirement without a context that waits for its bank. -/
theorem State.retiredBy_resident (hres : ctx.resident = true) (hreader : (s.chans[c.val]'c.isLt).fetch.reader ≠ .bankWait) :
    (s.chans[c.val]'c.isLt).left ((s.retiredBy c ctx).chans[c.val]'c.isLt) ctx none := by
  let base := s.put c (retiredChannel (s.chans[c.val]'c.isLt) ctx (s.chans[c.val]'c.isLt).play.offset) (s.retiredPort c ctx)
  have hbase : base.chans[c.val]'c.isLt = retiredChannel (s.chans[c.val]'c.isLt) ctx (s.chans[c.val]'c.isLt).play.offset := State.put_chan ..
  have hreader' : (base.chans[c.val]'c.isLt).fetch.reader ≠ .bankWait := by
    rw [hbase]
    unfold retiredChannel
    dsimp only
    split
    · decide
    · exact hreader
  obtain ⟨data, owed, reserve, hreleased⟩ := base.released_chan c ctx.occ
  have hchan : (s.retiredBy c ctx).chans[c.val]'c.isLt = (base.released c ctx.occ).chans[c.val]'c.isLt := by
    unfold State.retiredBy
    dsimp only
    rw [if_pos hres]
    exact congrArg (·.chans[c.val]'c.isLt) (State.releaseBank_free hreader')
  rw [hchan, hreleased, hbase]
  refine ⟨(List.append_nil _).symm, rfl, fun id => ?_, fun _ => rfl, fun _ _ h => by (cases h), rfl⟩
  simp only [Channel.bankLeft, hres, true_and]
  cases id <;> rfl

/-- A resident step's retirement that lets a held context in (R29). -/
theorem State.retiredBy_taken {held : StepContext} {id : BankId} (hres : ctx.resident = true)
    (hreader : (s.chans[c.val]'c.isLt).fetch.reader = .bankWait) (hheld : (s.chans[c.val]'c.isLt).fetch.held = some held)
    (hid : ((s.chans[c.val]'c.isLt).pool.bank id).occ? = some ctx.occ)
    (hothers : ∀ other : BankId, other ≠ id → (s.chans[c.val]'c.isLt).pool.bank other ≠ .free
      ∧ ((s.chans[c.val]'c.isLt).pool.bank other).occ? ≠ some ctx.occ) :
    (s.chans[c.val]'c.isLt).left ((s.retiredBy c ctx).chans[c.val]'c.isLt) ctx (some (held, id)) := by
  let base := s.put c (retiredChannel (s.chans[c.val]'c.isLt) ctx (s.chans[c.val]'c.isLt).play.offset) (s.retiredPort c ctx)
  have hbase : base.chans[c.val]'c.isLt = retiredChannel (s.chans[c.val]'c.isLt) ctx (s.chans[c.val]'c.isLt).play.offset := State.put_chan ..
  have hpool : (base.chans[c.val]'c.isLt).pool = (s.chans[c.val]'c.isLt).pool := by rw [hbase]; rfl
  have hchan : (s.retiredBy c ctx).chans[c.val]'c.isLt = ((base.released c ctx.occ).placeResident c held id).chans[c.val]'c.isLt := by
    unfold State.retiredBy
    dsimp only
    rw [if_pos hres]
    refine congrArg (·.chans[c.val]'c.isLt) (State.releaseBank_taken ?_ ?_ ?_ ?_)
    · rw [State.put_chan]
      simp [retiredChannel, hreader]
    · rw [State.put_chan]
      exact hheld
    · rw [State.put_chan]
      exact hid
    · rw [State.put_chan]
      exact hothers
  obtain ⟨data, owed, reserve, hreleased⟩ := base.released_chan c ctx.occ
  obtain ⟨data', owed', reserve', hplaced⟩ := (base.released c ctx.occ).placeResident_chan c held id
  rw [hchan, hplaced, hreleased, hbase]
  refine ⟨?_, ?_, fun other => ?_, fun h => by (cases h), fun h i hi => ?_, rfl⟩
  · exact readOnFetch_window ..
  · exact readOnFetch_frontier ..
  · unfold Channel.bankLeft
    dsimp only
    by_cases ho : other = id
    · subst ho
      rw [if_pos rfl]
      cases other <;> rfl
    · rw [if_neg ho]
      obtain ⟨-, hocc⟩ := hothers other ho
      cases id <;> cases other
      · exact absurd rfl ho
      · exact if_neg hocc
      · exact if_neg hocc
      · exact absurd rfl ho
  · cases hi
    refine ⟨readOnFetch_held .., readOnFetch_map .., readOnFetch_readerAfter rfl ?_⟩
    simp [Fetch.joined, retiredChannel]

theorem State.retiredBy_left (h : (s.chans[c.val]'c.isLt).letsIn ctx placed) :
    (s.chans[c.val]'c.isLt).left ((s.retiredBy c ctx).chans[c.val]'c.isLt) ctx placed := by
  rcases h with ⟨hfree, rfl⟩ | ⟨held, id, hres, hreader, hheld, hid, hothers, rfl⟩
  · cases hres : ctx.resident with
    | false => exact State.retiredBy_streamed hres
    | true => exact State.retiredBy_resident hres (hfree.resolve_left (by rw [hres]; decide))
  · exact State.retiredBy_taken hres hreader hheld hid hothers

/-- Nothing but the fetch context and the pool share of a retired channel depends on what its retirement lets in. -/
theorem State.retiredBy_chan (s : State) (c : Chan) (ctx : StepContext) :
    (s.retiredBy c ctx).chans[c.val]'c.isLt = { retiredChannel (s.chans[c.val]'c.isLt) ctx (s.chans[c.val]'c.isLt).play.offset with
      fetch := ((s.retiredBy c ctx).chans[c.val]'c.isLt).fetch, pool := ((s.retiredBy c ctx).chans[c.val]'c.isLt).pool } := by
  have h := (s.retiredBy_fetchMoved c ctx).chan
  rwa [State.put_chan] at h

theorem State.retiredBy_holds (s : State) (c : Chan) (h : ctx.body.consume = true) :
    (s.retiredBy c ctx).port.holds (s.retireOf c ctx) := by
  have hbase := s.retiredPort_holds c h
  unfold State.retiredBy
  dsimp only
  split
  · exact (State.releaseBank_grows (K := fun t => t.chan? ≠ some c) (fun _ ht => ht) _ _).holds nofun hbase
  · exact hbase

theorem State.retiredBy_grows (s : State) (c : Chan) (ctx : StepContext) :
    s.port.grows (fun t => t.chan? ≠ some c) (s.retiredBy c ctx).port := by
  refine (s.retiredPort_grows c ctx).trans ?_
  unfold State.retiredBy
  dsimp only
  split
  · exact State.releaseBank_grows (fun _ ht => ht)
      (s.put c (retiredChannel (s.chans[c.val]'c.isLt) ctx (s.chans[c.val]'c.isLt).play.offset) (s.retiredPort c ctx)) ctx.occ
  · exact Port.grows_refl _ _

end Fields

/-! ## Where a channel goes from a boundary (R70, R71, R85, R86, R93) -/

/-- A channel that stops at a boundary, and its records (R88). -/
def Channel.stopping (ch : Channel) (c : Chan) (reason : StopReason) : Channel × List Record :=
  (stoppedAtBoundary (ch.closing c).1 reason, (ch.closing c).2 ++ [stopRecord c (ch.closing c).1 reason])

/-- A channel that faults at an invalid marker at the head of its window, and its records (R89). -/
def Channel.faulting (ch : Channel) (c : Chan) (slot : Nat) (sub : SubCode) : Channel × List Record :=
  (faultedChannel (ch.closing c).1 (.stepInvalid sub),
    (ch.closing c).2 ++ [chanRecord c .channelFault (ch.closing c).1.play.sampleCount slot 1 sub.code])

/-- A channel whose wait for a trigger or its leader begins, and its records (R71, R72). -/
def Channel.toWait (ch : Channel) (c : Chan) (w : WaitReason) : Channel × List Record :=
  ({ (ch.closing c).1 with play := { (ch.closing c).1.play with state := .waiting, wait := w, waitCount := 0 } }, (ch.closing c).2)

/-- A channel whose head becomes the playing step (R69, R71). -/
def startingChannel (ch : Channel) : Channel :=
  { ch with play := { ch.play with stepExpiries := 0 }, level := { ch.level with stepClips := 0 } }

/-- A channel that goes on from a boundary into a late DATA wait, and its records (R71, R76). -/
def Channel.toData (ch : Channel) (c : Chan) : Channel × List Record :=
  ({ (ch.closing c).1 with play := { (ch.closing c).1.play with state := .waiting, wait := .data true, episode := 0 } }, (ch.closing c).2)

/-- A channel that enters FRONTIER from a boundary, and its records (R77). -/
def Channel.toFrontier (ch : Channel) (c : Chan) : Channel × List Record :=
  ({ (ch.closing c).1 with
      play := { (ch.closing c).1.play with state := .frontier, wait := .none, episode := 0 }
      level := { (ch.closing c).1.level with idleDue := true }
      perRecord := (ch.closing c).1.perRecord ||| 0x004
      accumulated := (ch.closing c).1.accumulated ||| 0x004 },
    (ch.closing c).2 ++ [chanRecord c .frontier ch.play.sampleCount ch.fetch.cursor 0 0])

/-- Where a channel goes after a retirement that does not stop it, and the records it raises (R71, R86, R93). -/
def Channel.afterRetire (ch : Channel) (c : Chan) : Channel × List Record :=
  match ch.head with
  | some (.invalid _ slot sub) => ch.faulting c slot sub
  | some (.step next) =>
    match next.body.entry with
    | some (.trigger k) => ch.toWait c (.trigger k)
    | some .leader => if ch.noLeader c then ch.stopping c .leaderGone else ch.toWait c .leader
    | _ => (startingChannel ch, [])
  | none =>
    if ch.play.pendingStop = .drain then ch.stopping c .drain
    else if ch.fetch.frontier then ch.toFrontier c
    else ch.toData c

/-- Where a channel goes at a boundary after `ctx` has retired, and the records it raises (R70, R71). -/
def Channel.leaves (ch : Channel) (c : Chan) (ctx : StepContext) : Channel × List Record :=
  if ctx.body.nextKind = some .endStep then ch.stopping c .endStep
  else if ch.play.pendingStop = .stepEnd then ch.stopping c .stepEnd
  else ch.afterRetire c

theorem stopRecord_retired {c : Chan} {ch : Channel} {ctx : StepContext} (hl : ch.play.lastRetired = some ctx.slot)
    (reason : StopReason) : stopRecord c (ch.closing c).1 reason
      = chanRecord c .channelStopped (ch.closing c).1.play.sampleCount ctx.slot reason.code 0 := by
  obtain ⟨held, episode, hplay⟩ := ch.closing_play c
  simp [stopRecord, hplay, hl]

/-- The model's ways to leave a boundary are the spec's (R71). -/
theorem Channel.leavesBoundary.eq_leaves {ch went : Channel} {c : Chan} {ctx : StepContext} {records : List Record}
    (h : ch.leavesBoundary c ctx went records) (hl : ch.play.lastRetired = some ctx.slot) :
    ch.leaves c ctx = (went, records) := by
  unfold Channel.leaves
  rcases h with ⟨hend, hstep, hgoes⟩ | ⟨closed, starved, hclosed, hstops | ⟨occ, slot, sub, hend, hstep, hhead, rfl, rfl⟩⟩
  · rw [if_neg hend, if_neg hstep]
    unfold Channel.afterRetire
    rcases hgoes with ⟨next, hhead, hentry, rfl, rfl⟩ | ⟨next, wait, left, hhead, hwait, hclosed, rfl⟩
      | ⟨left, starved, hhead, hdrain, hclosed, ⟨hfrontier, rfl, rfl⟩ | ⟨hfrontier, rfl, rfl⟩⟩
    · rw [hhead]
      dsimp only
      rw [hentry]
      rfl
    · obtain ⟨rfl, rfl⟩ := Channel.closesEpisode_iff.1 hclosed
      rw [hhead]
      dsimp only
      rcases hwait with ⟨k, hentry, rfl⟩ | ⟨hentry, hlead, rfl⟩
      · rw [hentry]
        rfl
      · rw [hentry]
        dsimp only
        rw [hlead]
        rfl
    · obtain ⟨rfl, rfl⟩ := Channel.closesEpisode_iff.1 hclosed
      rw [hhead]
      dsimp only
      rw [if_neg hdrain, hfrontier]
      rfl
    · obtain ⟨rfl, rfl⟩ := Channel.closesEpisode_iff.1 hclosed
      rw [hhead]
      dsimp only
      rw [if_neg hdrain, hfrontier]
      rfl
  · obtain ⟨rfl, rfl⟩ := Channel.closesEpisode_iff.1 hclosed
    obtain ⟨reason, hreason, rfl, rfl⟩ := hstops
    have hstop : ch.stopping c reason = (stoppedAtBoundary (ch.closing c).1 reason,
        (ch.closing c).2 ++ [chanRecord c .channelStopped (ch.closing c).1.play.sampleCount ctx.slot reason.code 0]) := by
      rw [Channel.stopping, stopRecord_retired hl]
    rcases hreason with ⟨hend, rfl⟩ | ⟨hend, hstep, rfl⟩
      | ⟨hend, hstep, ⟨hhead, hdrain, rfl⟩ | ⟨⟨next, hhead, hentry⟩, hlead, rfl⟩⟩
    · rw [if_pos hend, hstop]
    · rw [if_neg hend, if_pos hstep, hstop]
    · rw [if_neg hend, if_neg hstep, Channel.afterRetire, hhead]
      dsimp only
      rw [if_pos hdrain, hstop]
    · rw [if_neg hend, if_neg hstep, Channel.afterRetire, hhead]
      dsimp only
      rw [hentry]
      dsimp only
      rw [hlead, if_pos rfl, hstop]
  · obtain ⟨rfl, rfl⟩ := Channel.closesEpisode_iff.1 hclosed
    rw [if_neg hend, if_neg hstep, Channel.afterRetire, hhead]
    rfl

end Sys2Proof.Machine

namespace Sys2Proof.Machine

section Leaving

variable {c : Chan} {ctx : StepContext}

/-- A boundary after the retirement (R70, R71, R85). -/
def Ev.leaveStep (e : Ev) (c : Chan) (ctx : StepContext) : Ev :=
  if ctx.body.nextKind = some .endStep then e.stopChannel c .endStep true
  else if (e.chan c).play.pendingStop = .stepEnd then e.stopChannel c .stepEnd true
  else e.afterRetire c

theorem Ev.boundary_eq (e : Ev) (c : Chan) (ctx : StepContext) : e.boundary c ctx = (e.retirePlaying c ctx).leaveStep c ctx := rfl

/-- The end of a stop or a fault, none for a channel that goes on (R88, R89). -/
def Ev.gone (e : Ev) (c : Chan) (went : Channel) : Ev := if went.play.state.counts then e else e.groupAfter c false

theorem Ev.gone_spares {e : Ev} {d : Chan} {went : Channel} (hf : (e.st.chans[d.val]'d.isLt).follows d c = false)
    (hd : (e.st.chans[d.val]'d.isLt).play.state ≠ .mirroring) : e.spares (e.gone c went) d := by
  unfold Ev.gone
  split
  · exact e.spares_refl d
  · exact Ev.groupAfter_spares e hf hd

/-- From `e` the event goes on to `e'` in which channel `c` has gone where `out` says, with its records; its mirrors turn with it, and a
channel that no longer counts is purged and lost to its followers. -/
def Ev.goesTo (e e' : Ev) (c : Chan) (out : Channel × List Record) : Prop :=
  ∃ g a, e' = Ev.gone ((e.moved c g).act c out.1 (if out.1.play.state.counts then e.st.port else e.st.port.purgedOf c) out.2 a) c out.1

theorem Channel.closing_state (ch : Channel) (c : Chan) : (ch.closing c).1.play.state = ch.play.state := by
  obtain ⟨held, episode, hplay⟩ := ch.closing_play c
  rw [hplay]

theorem Channel.closing_time (ch : Channel) (c : Chan) : (ch.closing c).1.play.sampleCount = ch.play.sampleCount := by
  obtain ⟨held, episode, hplay⟩ := ch.closing_play c
  rw [hplay]

theorem stoppedChannel_turned (closed : Channel) (reason : StopReason) :
    (stoppedChannel closed reason).turned true = stoppedAtBoundary closed reason := by
  unfold stoppedChannel stoppedAtBoundary Channel.turned
  by_cases h : reason = .drain ∨ reason = .endStep
  · have hlatch : ∀ m : OneShot, m.quiet.endOfPlay = { m with
        phase := .quiet, latch := m.latch || decide (m.mode = .endOfPlay) } := by
      intro m
      by_cases hm : m.mode = .endOfPlay <;> simp [OneShot.quiet, OneShot.endOfPlay, hm]
    simp [h, hlatch, bothMarkers]
  · simp [h, OneShot.quiet, bothMarkers]

/-- A RUNNING channel stops at a boundary (R88). -/
theorem Ev.stopChannel_goesTo (e : Ev) {reason : StopReason} (hs : (e.st.chans[c.val]'c.isLt).play.state = .running) (hr : reason ≠ .cut) :
    e.goesTo (e.stopChannel c reason true) c ((e.st.chans[c.val]'c.isLt).stopping c reason) := by
  have hclosed : ((e.st.chans[c.val]'c.isLt).closing c).1.play.state ≠ .mirroring := by
    rw [Channel.closing_state, hs]
    decide
  unfold Ev.goesTo
  rw [Ev.stopChannel_eq e c reason true (by rw [hs]; decide), Ev.stopCore_eq e c reason true (Or.inr (Or.inl hr)),
    Ev.closeEpisode_act, Ev.stopFrom_act]
  dsimp only
  rw [Ev.act_st, State.put_chan, stoppedChannel_turned, Ev.act_moved _ _ _ _ _ _ _ hclosed, Ev.act_act]
  exact ⟨_, _, rfl⟩

/-- A RUNNING channel faults at an invalid marker (R89). -/
theorem Ev.faultChannel_goesTo (e : Ev) {occ slot : Nat} {sub : SubCode} (hs : (e.st.chans[c.val]'c.isLt).play.state = .running)
    (hh : (e.st.chans[c.val]'c.isLt).head = some (.invalid occ slot sub)) :
    e.goesTo (e.faultChannel c (.stepInvalid sub)) c ((e.st.chans[c.val]'c.isLt).faulting c slot sub) := by
  unfold Ev.goesTo
  rw [Ev.faultChannel_act, hs, hh]
  exact ⟨_, _, rfl⟩

/-- A channel goes on where it counts, its mirrors standing. -/
theorem Ev.goesTo_act (e : Ev) {went : Channel} {rs : List Record} {a : Bool} (h : went.play.state.counts = true) :
    e.goesTo (e.act c went e.st.port rs a) c (went, rs) := by
  refine ⟨id, a, ?_⟩
  have hmoved : e.moved c id = e := by
    have : e.st.mirrorsMoved c id = e.st := by simp [State.mirrorsMoved, vec8_self]
    rw [Ev.moved, this]
  unfold Ev.gone
  rw [hmoved, if_pos h, if_pos h]

theorem Ev.beginWait_goesTo (e : Ev) (w : WaitReason) :
    e.goesTo ((e.closeEpisode c).beginWait c w) c ((e.st.chans[c.val]'c.isLt).toWait c w) := by
  have hact : ∃ a, (e.closeEpisode c).beginWait c w
      = e.act c ((e.st.chans[c.val]'c.isLt).toWait c w).1 e.st.port ((e.st.chans[c.val]'c.isLt).toWait c w).2 a := by
    simp [Ev.beginWait, Ev.closeEpisode_act, Channel.toWait]
  obtain ⟨a, ha⟩ := hact
  rw [ha]
  exact e.goesTo_act rfl

theorem Ev.beginData_goesTo (e : Ev) : e.goesTo ((e.closeEpisode c).beginData c true) c ((e.st.chans[c.val]'c.isLt).toData c) := by
  have hact : ∃ a, (e.closeEpisode c).beginData c true
      = e.act c ((e.st.chans[c.val]'c.isLt).toData c).1 e.st.port ((e.st.chans[c.val]'c.isLt).toData c).2 a := by
    simp [Ev.beginData, Ev.closeEpisode_act, Channel.toData]
  obtain ⟨a, ha⟩ := hact
  rw [ha]
  exact e.goesTo_act rfl

theorem Ev.becomePlaying_goesTo (e : Ev) (hs : (e.st.chans[c.val]'c.isLt).play.state = .running) :
    e.goesTo (e.becomePlaying c) c (startingChannel (e.st.chans[c.val]'c.isLt), []) := by
  have hact : e.becomePlaying c = e.act c (startingChannel (e.st.chans[c.val]'c.isLt)) e.st.port [] false := by
    simp [Ev.becomePlaying, startingChannel]
  rw [hact]
  exact e.goesTo_act (by rw [startingChannel, hs]; rfl)

/-- FRONTIER is entered, and the mirrors' lanes are to turn with the channel's (R77, R102, R105). -/
theorem Ev.enterFrontier_goesTo (e : Ev) :
    e.goesTo ((e.closeEpisode c).enterFrontier c) c ((e.st.chans[c.val]'c.isLt).toFrontier c) := by
  let shown : Channel := { ((e.st.chans[c.val]'c.isLt).closing c).1 with
    play := { ((e.st.chans[c.val]'c.isLt).closing c).1.play with state := .frontier, wait := .none, episode := 0 }
    perRecord := ((e.st.chans[c.val]'c.isLt).closing c).1.perRecord ||| 0x004
    accumulated := ((e.st.chans[c.val]'c.isLt).closing c).1.accumulated ||| 0x004 }
  obtain ⟨a, hact⟩ : ∃ a, (((((e.closeEpisode c).setState c .frontier .none).modPlay c fun p => { p with episode := 0 }).addChanRecord
        c .frontier ((e.closeEpisode c).chan c).fetch.cursor 0 0).raiseCond c .frontier)
      = e.act c shown e.st.port ((e.st.chans[c.val]'c.isLt).toFrontier c).2 a := by
    simp [Ev.closeEpisode_act, Channel.closing_fetch, Channel.closing_time, Channel.raised, Condition.bit, Channel.toFrontier, shown]
  have hturn : (e.closeEpisode c).enterFrontier c
      = Ev.mod (e.act c shown e.st.port ((e.st.chans[c.val]'c.isLt).toFrontier c).2 a) (·.toIdleLevel c true) :=
    congrArg (Ev.mod · (·.toIdleLevel c true)) hact
  have hshown : shown.play.state ≠ .mirroring := fun h => by cases h
  rw [hturn, Ev.toIdleLevel_act _ _ _ _ _ _ _ hshown]
  exact ⟨_, a, rfl⟩

/-- Where a RUNNING channel goes on after a retirement that does not stop it (R71). -/
theorem Ev.afterRetire_goesTo (e : Ev) (hs : (e.st.chans[c.val]'c.isLt).play.state = .running) :
    e.goesTo (e.afterRetire c) c ((e.st.chans[c.val]'c.isLt).afterRetire c) := by
  unfold Ev.afterRetire Channel.afterRetire
  rw [Ev.chan_eq]
  cases hhead : (e.st.chans[c.val]'c.isLt).head with
  | none =>
    dsimp only
    by_cases hdrain : (e.st.chans[c.val]'c.isLt).play.pendingStop = .drain
    · rw [if_pos hdrain, if_pos hdrain]
      exact e.stopChannel_goesTo hs (by decide)
    · rw [if_neg hdrain, if_neg hdrain]
      by_cases hfrontier : (e.st.chans[c.val]'c.isLt).fetch.frontier = true
      · rw [if_pos hfrontier, if_pos hfrontier]
        exact e.enterFrontier_goesTo
      · rw [if_neg hfrontier, if_neg hfrontier]
        exact e.beginData_goesTo
  | some entry =>
    cases entry with
    | invalid occ slot sub => exact e.faultChannel_goesTo hs hhead
    | step next =>
      dsimp only
      cases next.body.entry with
      | none => exact e.becomePlaying_goesTo hs
      | some entry =>
        cases entry with
        | immediate => exact e.becomePlaying_goesTo hs
        | trigger k => exact e.beginWait_goesTo _
        | leader =>
          dsimp only
          by_cases hlead : (e.st.chans[c.val]'c.isLt).noLeader c = true
          · rw [if_pos hlead, if_pos hlead]
            exact e.stopChannel_goesTo hs (by decide)
          · rw [if_neg hlead, if_neg hlead]
            exact e.beginWait_goesTo _

/-- Where a RUNNING channel goes from a boundary, at any port (R70, R71). -/
theorem Ev.leaveStep_goesTo (e : Ev) (ctx : StepContext) (hs : (e.st.chans[c.val]'c.isLt).play.state = .running) :
    e.goesTo (e.leaveStep c ctx) c ((e.st.chans[c.val]'c.isLt).leaves c ctx) := by
  unfold Ev.leaveStep Channel.leaves
  rw [Ev.chan_eq]
  by_cases hend : ctx.body.nextKind = some .endStep
  · rw [if_pos hend, if_pos hend]
    exact e.stopChannel_goesTo hs (by decide)
  rw [if_neg hend, if_neg hend]
  by_cases hstep : (e.st.chans[c.val]'c.isLt).play.pendingStop = .stepEnd
  · rw [if_pos hstep, if_pos hstep]
    exact e.stopChannel_goesTo hs (by decide)
  rw [if_neg hstep, if_neg hstep]
  exact e.afterRetire_goesTo hs

end Leaving

end Sys2Proof.Machine

namespace Sys2Proof.Machine

section Leaves

variable {ch : Channel} {c : Chan} {ctx : StepContext}

/-- A boundary ends in one of six ways (R70, R71). -/
theorem Channel.leaves_cases {P : Channel × List Record → Prop} (stop : ∀ reason, P (ch.stopping c reason))
    (fault : ∀ slot sub, P (ch.faulting c slot sub)) (wait : ∀ w, P (ch.toWait c w)) (start : P (startingChannel ch, []))
    (frontier : P (ch.toFrontier c)) (data : P (ch.toData c)) : P (ch.leaves c ctx) := by
  unfold Channel.leaves Channel.afterRetire
  split
  · exact stop _
  split
  · exact stop _
  split
  · exact fault _ _
  · split
    · exact wait _
    · split
      · exact stop _
      · exact wait _
    · exact start
  · split
    · exact stop _
    split
    · exact frontier
    · exact data

theorem Channel.leaves_state (hs : ch.play.state = .running) : (ch.leaves c ctx).1.play.state ≠ .mirroring := by
  have hstart : (startingChannel ch).play.state ≠ .mirroring := by
    rw [startingChannel, hs]
    decide
  exact Channel.leaves_cases (P := fun out => out.1.play.state ≠ .mirroring) (fun _ h => by cases h) (fun _ _ h => by cases h)
    (fun _ h => by cases h) hstart (fun h => by cases h) fun h => by cases h

/-- A boundary keeps the counts of steps and samples. -/
theorem Channel.leaves_play : (ch.leaves c ctx).1.play.retired = ch.play.retired
    ∧ (ch.leaves c ctx).1.play.lastRetired = ch.play.lastRetired ∧ (ch.leaves c ctx).1.play.sampleCount = ch.play.sampleCount := by
  obtain ⟨held, episode, hplay⟩ := ch.closing_play c
  have hkept : (ch.closing c).1.play.retired = ch.play.retired ∧ (ch.closing c).1.play.lastRetired = ch.play.lastRetired
      ∧ (ch.closing c).1.play.sampleCount = ch.play.sampleCount := by
    rw [hplay]
    exact ⟨rfl, rfl, rfl⟩
  exact Channel.leaves_cases (P := fun out => out.1.play.retired = ch.play.retired
    ∧ out.1.play.lastRetired = ch.play.lastRetired ∧ out.1.play.sampleCount = ch.play.sampleCount)
    (fun _ => hkept) (fun _ _ => hkept) (fun _ => hkept) ⟨rfl, rfl, rfl⟩ hkept hkept

/-- A channel that neither stops nor faults keeps its fetch context and its pool share at a boundary (R71). -/
theorem Channel.leaves_fetch : (ch.leaves c ctx).1.play.state.counts = true →
    (ch.leaves c ctx).1.fetch = ch.fetch ∧ (ch.leaves c ctx).1.pool = ch.pool := by
  have hkept : (ch.closing c).1.fetch = ch.fetch ∧ (ch.closing c).1.pool = ch.pool := ⟨ch.closing_fetch c, ch.closing_pool c⟩
  exact Channel.leaves_cases (P := fun out => out.1.play.state.counts = true → out.1.fetch = ch.fetch ∧ out.1.pool = ch.pool)
    (fun _ h => by cases h) (fun _ _ h => by cases h) (fun _ _ => hkept) (fun _ => ⟨rfl, rfl⟩) (fun _ => hkept) fun _ => hkept

/-- The records of a boundary are the channel's own. -/
theorem Channel.leaves_source : ∀ r ∈ (ch.leaves c ctx).2, r.source = .channel c := by
  have hclosing := ch.closing_source c
  have hlast : ∀ r : Record, r.source = .channel c → ∀ q ∈ (ch.closing c).2 ++ [r], q.source = .channel c := by
    intro r hr q hq
    rcases List.mem_append.1 hq with hq | hq
    · exact hclosing q hq
    · rw [List.mem_singleton.1 hq, hr]
  exact Channel.leaves_cases (P := fun out => ∀ r ∈ out.2, r.source = .channel c) (fun _ => hlast _ rfl) (fun _ _ => hlast _ rfl)
    (fun _ => hclosing) (fun _ h => by cases h) (hlast _ rfl) hclosing

theorem Channel.leaves_end (h : ctx.body.nextKind = some .endStep) : ch.leaves c ctx = ch.stopping c .endStep := if_pos h

theorem Channel.leaves_stepEnd (h : ctx.body.nextKind ≠ some .endStep) (hp : ch.play.pendingStop = .stepEnd) :
    ch.leaves c ctx = ch.stopping c .stepEnd := (if_neg h).trans (if_pos hp)

theorem Channel.leaves_on (h : ctx.body.nextKind ≠ some .endStep) (hp : ch.play.pendingStop ≠ .stepEnd) :
    ch.leaves c ctx = ch.afterRetire c := (if_neg h).trans (if_neg hp)

end Leaves

theorem Channel.endRecords_source (ch : Channel) (c : Chan) (ctx : StepContext) :
    ∀ r ∈ ch.endRecords c ctx, r.source = .channel c := by
  unfold Channel.endRecords
  split <;> simp [chanRecord_source]

section Boundary

variable {e : Ev} {s : State} {c : Chan} {ctx : StepContext} {placed : Option (StepContext × BankId)}

/-- A boundary of a RUNNING channel, at any port (R70, R71). -/
theorem Ev.boundary_act (e : Ev) (ctx : StepContext) (hs : (e.st.chans[c.val]'c.isLt).play.state = .running) :
    let r := e.st.retiredBy c ctx
    let out := (r.chans[c.val]'c.isLt).leaves c ctx
    ∃ g, e.boundary c ctx = Ev.gone ((e.moved c g).act c out.1 (if out.1.play.state.counts then r.port else r.port.purgedOf c)
      ((e.st.chans[c.val]'c.isLt).endRecords c ctx ++ out.2) true) c out.1 := by
  have hplay : ((e.st.retiredBy c ctx).chans[c.val]'c.isLt).play.state = .running := by
    rw [State.retiredBy_chan]
    exact hs
  obtain ⟨g, a, hleave⟩ := (e.retirePlaying c ctx).leaveStep_goesTo ctx (c := c) (by
    rw [Ev.retirePlaying_act, Ev.act_st, State.put_chan]
    exact hplay)
  refine ⟨g, ?_⟩
  rw [Ev.boundary_eq, hleave, Ev.retirePlaying_act]
  simp only [Ev.act_st, State.put_chan, State.put_port]
  rw [Ev.act_moved _ _ _ _ _ _ _ (by rw [hplay]; decide), Ev.act_act, Bool.true_or]

/-- The end of a channel that goes on, or that no channel follows (R93). -/
theorem Ev.gone_alone (e : Ev) {went : Channel} (h : went.play.state.counts = true ∨ ∀ d : Chan, (e.st.chans[d]'d.isLt).follows d c = false) :
    ∃ lost, e.gone c went = { e with lost := lost }
      ∧ (lost = e.lost ∨ went.play.state.counts = false ∧ lost = e.lost ||| maskOf c) := by
  unfold Ev.gone
  by_cases hcounts : went.play.state.counts = true
  · rw [if_pos hcounts]
    exact ⟨e.lost, rfl, Or.inl rfl⟩
  · rw [if_neg hcounts]
    obtain ⟨lost, hlost, hmask⟩ := e.groupAfter_alone (h.resolve_left hcounts)
    exact ⟨lost, hlost, hmask.imp id fun h => ⟨Bool.eq_false_iff.2 hcounts, h⟩⟩

/-- A boundary of a channel that no other mirrors, and none follows where it stops or faults. -/
theorem Ev.boundary_alone (hs : (e.st.chans[c.val]'c.isLt).play.state = .running) (hu : e.st.unmirrored c)
    {went : Channel} {records : List Record} (hw : ((e.st.retiredBy c ctx).chans[c.val]'c.isLt).leaves c ctx = (went, records))
    (hf : went.play.state.counts = true ∨ ∀ d : Chan, (e.st.chans[d]'d.isLt).follows d c = false) :
    ∃ lost, e.boundary c ctx = { e.act c went
      (if went.play.state.counts then (e.st.retiredBy c ctx).port else (e.st.retiredBy c ctx).port.purgedOf c)
      ((e.st.chans[c.val]'c.isLt).endRecords c ctx ++ records) true with lost := lost }
      ∧ (lost = e.lost ∨ went.play.state.counts = false ∧ lost = e.lost ||| maskOf c) := by
  obtain ⟨g, hact⟩ := e.boundary_act ctx hs
  rw [hw] at hact
  rw [hact, Ev.moved_none g hu]
  refine Ev.gone_alone _ (hf.imp id fun hf d => ?_)
  by_cases hd : c = d
  · subst hd
    exact Channel.follows_self _ _
  · rw [Fin.getElem_fin, Ev.act_st, State.put_other _ _ _ hd]
    exact hf d

/-- A boundary acts on its channel, whose end then spares it, and on the followers of a lost leader and the mirrors (R70, R93, R105). -/
theorem Ev.boundary_spares (e : Ev) (ctx : StepContext) (hs : (e.st.chans[c.val]'c.isLt).play.state = .running) :
    ∃ e' : Ev, e'.spares (e.boundary c ctx) c ∧ (e'.st.chans[c.val]'c.isLt) = (((e.st.retiredBy c ctx).chans[c.val]'c.isLt).leaves c ctx).1
      ∧ e.st.sameButChannels e'.st ∧ (e.st.retiredBy c ctx).port.grows (fun t => t.chan? ≠ some c) e'.st.port
      ∧ ∀ d : Chan, d ≠ c → (e.st.chans[d.val]'d.isLt).follows d c = false → (e.st.chans[d.val]'d.isLt).play.state ≠ .mirroring →
        e.spares (e.boundary c ctx) d := by
  have hrunning : ((e.st.retiredBy c ctx).chans[c.val]'c.isLt).play.state = .running := by
    rw [State.retiredBy_chan]
    exact hs
  obtain ⟨g, hact⟩ := e.boundary_act ctx hs
  have hport : (e.st.retiredBy c ctx).port.grows (fun t => t.chan? ≠ some c)
      (if (((e.st.retiredBy c ctx).chans[c.val]'c.isLt).leaves c ctx).1.play.state.counts then (e.st.retiredBy c ctx).port
        else (e.st.retiredBy c ctx).port.purgedOf c) := by
    split
    · exact Port.grows_refl _ _
    · exact Ev.purged_grows _ c
  refine ⟨_, hact ▸ Ev.gone_spares (Channel.follows_self _ c) ?_, State.put_chan ..,
    State.sameButChannels_trans (State.mirrorsMoved_sameButChannels ..) (State.put_sameButChannels ..), hport, fun d hd hf hmirror => ?_⟩
  · have hspares := (e.moved_spares c g hmirror).trans (Ev.act_spares (ch := (((e.st.retiredBy c ctx).chans[c.val]'c.isLt).leaves c ctx).1)
      (rs := (e.st.chans[c.val]'c.isLt).endRecords c ctx ++ (((e.st.retiredBy c ctx).chans[c.val]'c.isLt).leaves c ctx).2) (a := true) _ (Ne.symm hd)
      (fun r hr => (List.mem_append.1 hr).elim (Channel.endRecords_source _ c ctx r) (Channel.leaves_source r))
      ((e.st.retiredBy_grows c ctx).trans hport))
    rw [hact]
    refine hspares.trans (Ev.gone_spares ?_ ?_)
    · rwa [hspares.chan]
    · rwa [hspares.chan]
  · rw [Ev.act_st, State.put_chan]
    exact Channel.leaves_state hrunning

end Boundary

end Sys2Proof.Machine

namespace Sys2Proof.Machine

section BoundaryCommand

variable {i : Instr} {c : Chan} {s : State} {ctx : StepContext} {placed : Option (StepContext × BankId)}

/-- The state in which a boundary begins: a pass end has set the offset to 0 (R68). -/
def State.atBoundary (s : State) (c : Chan) (offset : Nat) : State :=
  s.put c { s.chans[c.val]'c.isLt with play := { (s.chans[c.val]'c.isLt).play with offset := offset } } s.port

theorem State.atBoundary_chan (s : State) (c : Chan) (offset : Nat) : (s.atBoundary c offset).chans[c.val]'c.isLt
    = { s.chans[c.val]'c.isLt with play := { (s.chans[c.val]'c.isLt).play with offset := offset } } := State.put_chan ..

/-- A pass end or step boundary that ends the step (R68, R70). -/
theorem exec_boundary (hi : i = .passEnd c ∨ i = .stepBoundary c) (hp : (s.chans[c]'c.isLt).plays ctx) (hx : 1 ≤ (s.chans[c]'c.isLt).play.stepExpiries)
    (ho : ctx.wEff ≤ (s.chans[c]'c.isLt).play.offset)
    (hover : ctx.body.rep ≠ 0 ∧ ctx.body.rep ≤ (s.chans[c]'c.isLt).play.pass ∨ ctx.body.rep = 0 ∧ (s.chans[c]'c.isLt).play.advanceSeen = true) :
    exec i s = .next ((Ev.of (s.atBoundary c (if i = .passEnd c then 0 else (s.chans[c]'c.isLt).play.offset)) false).boundary c ctx).finish := by
  obtain ⟨hs, hstep⟩ := hp
  have hpass : (s.chans[c]'c.isLt).play.passOver ctx = true := by
    have hpos : 0 < (s.chans[c]'c.isLt).play.stepExpiries := hx
    rw [Play.passOver, decide_eq_true hpos, decide_eq_true ho]
    rfl
  rcases hi with rfl | rfl
  · have hend : ((Ev.of s false).endPass c ctx)
        = (Ev.of (s.atBoundary c 0) false).boundary c ctx := by
      have hzero : (Ev.of s false).modPlay c (fun p => { p with offset := 0 }) = Ev.of (s.atBoundary c 0) false := rfl
      unfold Ev.endPass
      rw [hzero]
      rcases hover with ⟨hrep, hover⟩ | ⟨hrep, hadv⟩
      · exact (if_neg hrep).trans (if_neg (Nat.not_lt.2 hover))
      · exact (if_pos hrep).trans (if_pos hadv)
    rw [if_pos rfl, ← hend]
    show execPassEnd c s = _
    unfold execPassEnd
    rw [hs, hstep]
    dsimp only
    rw [if_pos hpass]
    rfl
  · have hsame : s.atBoundary c (s.chans[c]'c.isLt).play.offset = s := s.put_self c
    have hstepOver : (s.chans[c]'c.isLt).play.stepOver ctx = true := by
      unfold Play.stepOver
      rw [hpass, Bool.true_and]
      rcases hover with ⟨hrep, hover⟩ | ⟨hrep, hadv⟩
      · rw [if_neg hrep]
        exact decide_eq_true hover
      · rw [if_pos hrep]
        exact hadv
    rw [if_neg (by rintro ⟨⟩), hsame]
    show execStepBoundary c s = _
    unfold execStepBoundary
    rw [hs, hstep]
    dsimp only
    rw [if_pos hstepOver]
    rfl

/-- The retirement of a boundary in closed form, at an IDLE or a BUSY port. -/
theorem State.atBoundary_retiredBy (hport : s.port.idleEmpty) (offset : Nat) (h : (s.chans[c.val]'c.isLt).letsIn ctx placed) :
    (s.atBoundary c offset).retiredBy c ctx = s.retires c ctx offset placed := by
  have hlets : ((s.atBoundary c offset).chans[c.val]'c.isLt).letsIn ctx placed := by
    rw [State.atBoundary_chan]
    exact h
  have hret : (s.atBoundary c offset).retires c ctx offset placed = s.retires c ctx offset placed := by
    have hrequests : (s.atBoundary c offset).retireRequests c ctx = s.retireRequests c ctx := by
      unfold State.retireRequests
      simp only [Fin.getElem_fin, State.atBoundary_chan]
      rfl
    unfold State.retires
    rw [hrequests, Fin.getElem_fin, State.atBoundary_chan]
    simp [State.atBoundary, State.put, retiredChannel, Fin.getElem_fin]
  rw [State.retiredBy_eq (s := s.atBoundary c offset) hport hlets, State.atBoundary_chan]
  exact hret

theorem State.put_unmirrored {ch : Channel} {p : Port} (h : s.unmirrored c) (hm : ch.play.state ≠ .mirroring) :
    (s.put c ch p).unmirrored c := by
  refine List.eq_nil_iff_forall_not_mem.2 fun d hd => ?_
  rw [State.mirrorsOf_put _ _ _ _ hm, h] at hd
  cases hd.1

/-- The first entry of the window at the end of a boundary (R71). -/
theorem Channel.left_head {ch after : Channel} (h : ch.left after ctx placed) {rest : List WindowEntry}
    (hrest : rest = ch.fetch.window.tail ++ placedEntries placed) : after.head = rest.head? := by
  rw [Channel.head, h.window, hrest]

section Outcome

variable {ch : Channel}

/-- A channel that goes on into a step with Entry IMMEDIATE (R71). -/
theorem Channel.afterRetire_immediate {next : StepContext} (hh : ch.head = some (.step next))
    (he : next.body.entry = some .immediate) : ch.afterRetire c = (startingChannel ch, []) := by
  rw [Channel.afterRetire, hh]
  dsimp only
  rw [he]

theorem Channel.afterRetire_trigger {next : StepContext} {k : LineIx} (hh : ch.head = some (.step next))
    (he : next.body.entry = some (.trigger k)) : ch.afterRetire c = ch.toWait c (.trigger k) := by
  rw [Channel.afterRetire, hh]
  dsimp only
  rw [he]

theorem Channel.afterRetire_leader {next : StepContext} (hh : ch.head = some (.step next))
    (he : next.body.entry = some .leader) :
    ch.afterRetire c = if ch.noLeader c then ch.stopping c .leaderGone else ch.toWait c .leader := by
  rw [Channel.afterRetire, hh]
  dsimp only
  rw [he]

theorem Channel.afterRetire_invalid {occ slot : Nat} {sub : SubCode} (hh : ch.head = some (.invalid occ slot sub)) :
    ch.afterRetire c = ch.faulting c slot sub := by
  rw [Channel.afterRetire, hh]

theorem Channel.afterRetire_empty (hh : ch.head = none) : ch.afterRetire c =
    if ch.play.pendingStop = .drain then ch.stopping c .drain
    else if ch.fetch.frontier then ch.toFrontier c else ch.toData c := by
  rw [Channel.afterRetire, hh]

/-- A channel that LEADER_GONE stops at a boundary has the condition (R88, R93). -/
theorem Channel.stopping_leaderGone (ch : Channel) (c : Chan) :
    (ch.stopping c .leaderGone).1.accumulated.getLsbD 7 = true := by
  show ((ch.closing c).1.accumulated ||| (0x080 : BitVec 9)).getLsbD 7 = true
  rw [BitVec.getLsbD_or]
  exact Bool.or_eq_true_iff.2 (Or.inr rfl)

theorem Channel.toFrontier_condition (ch : Channel) (c : Chan) : (ch.toFrontier c).1.accumulated.getLsbD 2 = true := by
  show ((ch.closing c).1.accumulated ||| (0x004 : BitVec 9)).getLsbD 2 = true
  rw [BitVec.getLsbD_or]
  exact Bool.or_eq_true_iff.2 (Or.inr rfl)

end Outcome

end BoundaryCommand

/-- Settles O43: the boundary is one event, whose channel has retired its step and left by one of six ways. -/
theorem stepBoundaryRetiresAndGoesOn : Obligations.StepBoundaryRetiresAndGoesOn := by
  rintro i c s ctx p placed rest hi hplays rfl hx ho hover hlets hrest
  have hs : (s.chans[c]'c.isLt).play.state = .running := hplays.1
  obtain ⟨s', hs'⟩ : ∃ s', s' = s.atBoundary c (if i = .passEnd c then 0 else (s.chans[c]'c.isLt).play.offset) := ⟨_, rfl⟩
  obtain ⟨off, hoff⟩ : ∃ off, off = if i = .passEnd c then 0 else (s.chans[c]'c.isLt).play.offset := ⟨_, rfl⟩
  rw [← hoff] at hs'
  have hchan : s'.chans[c.val]'c.isLt = { s.chans[c.val]'c.isLt with play := { (s.chans[c.val]'c.isLt).play with offset := off } } := by
    rw [hs', State.atBoundary_chan]
  have hrun : ((Ev.of s' false).st.chans[c.val]'c.isLt).play.state = .running := by
    rw [Ev.of_st, hchan]
    exact hs
  have hleft : (s'.chans[c.val]'c.isLt).left ((s'.retiredBy c ctx).chans[c.val]'c.isLt) ctx placed := by
    refine State.retiredBy_left ?_
    rw [hchan]
    exact hlets
  obtain ⟨e', hspares, hwent, hsame, hport, hothers⟩ := (Ev.of s' false).boundary_spares ctx hrun
  obtain ⟨t, ht⟩ : ∃ t, t = ((Ev.of s' false).boundary c ctx).finish := ⟨_, rfl⟩
  have hexec : exec i s = .next t := by
    rw [ht, hs', hoff]
    exact exec_boundary hi hplays hx ho hover
  obtain ⟨ch, hch⟩ : ∃ ch, ch = (s'.retiredBy c ctx).chans[c.val]'c.isLt := ⟨_, rfl⟩
  rw [← hch, hchan] at hleft
  obtain ⟨per, hper⟩ : ∃ per, t.chans[c.val]'c.isLt = { (ch.leaves c ctx).1 with perRecord := per } := by
    rw [ht, Ev.finish_chan, hspares.chan, hwent, hch]
    exact ⟨_, rfl⟩
  have hpending : ch.play.pendingStop = (s.chans[c.val]'c.isLt).play.pendingStop := by rw [hleft.play]
  have hretired : ch.play.lastRetired = some ctx.slot := by rw [hleft.play]
  have hlead : ch.noLeader c = (s.chans[c.val]'c.isLt).noLeader c := by rw [Channel.noLeader, hleft.play]; rfl
  have hhead : ch.head = rest.head? := Channel.left_head hleft hrest
  obtain ⟨hcount, hlast, htime⟩ := ch.leaves_play (c := c) (ctx := ctx)
  refine ⟨t, hexec, ?_⟩
  simp only [Fin.getElem_fin, hper]
  refine ⟨?_, ?_, ?_, fun h => ?consume, fun h => ?_, fun h hp => ?_, fun h => ⟨?_, fun h' => ?_, fun held id h' => ?_⟩,
    fun h hp => ⟨fun occ slot sub r hr => ?_, fun next r hr => ⟨fun hentry => ?_, fun k hentry => ?_, fun hentry hno => ?_,
      fun hentry hno => ?_⟩, fun hr hd => ?_, fun hr hd hf => ?_, fun hr hd hf => ?_⟩,
    fun went records r hidle hu hr hw hf => ?whole, fun d hd hf hm => ?others, ?rest⟩
  · rw [hcount, hleft.play]
  · rw [hlast, hretired]
  · rw [htime, hleft.play]
  case consume =>
    have hholds := hspares.finish_holds (Or.inl rfl) (hport.holds (fun h => by cases h) (s'.retiredBy_holds c h))
    rw [← ht] at hholds
    have hretire : s'.retireOf c ctx = s.retireOf c ctx := by rw [hs']; rfl
    exact hretire ▸ hholds.2
  · rw [Channel.leaves_end h]
    exact ⟨rfl, rfl, rfl⟩
  · rw [Channel.leaves_stepEnd h (hpending.trans hp)]
    exact ⟨rfl, rfl, rfl⟩
  · intro id
    rw [(Channel.leaves_fetch h).2]
    exact hleft.bank id
  · rw [(Channel.leaves_fetch h).1]
    exact hleft.map h'
  · rw [(Channel.leaves_fetch h).1]
    exact hleft.taken held id h'
  · have hhead' : ch.head = some (.invalid occ slot sub) := by rw [hhead, hr]; rfl
    rw [Channel.leaves_on h (hpending ▸ hp), Channel.afterRetire_invalid hhead']
    exact ⟨rfl, rfl⟩
  · rw [Channel.leaves_on h (hpending ▸ hp), Channel.afterRetire_immediate (hhead.trans (by rw [hr]; rfl)) hentry]
    exact ⟨by rw [← hs, startingChannel, hleft.play]; rfl, rfl, rfl, hleft.window.trans hrest.symm⟩
  · rw [Channel.leaves_on h (hpending ▸ hp), Channel.afterRetire_trigger (hhead.trans (by rw [hr]; rfl)) hentry]
    refine ⟨rfl, rfl, rfl, ?_⟩
    show (ch.closing c).1.fetch.window = rest
    rw [ch.closing_fetch, hleft.window]
    exact hrest.symm
  · rw [Channel.leaves_on h (hpending ▸ hp), Channel.afterRetire_leader (hhead.trans (by rw [hr]; rfl)) hentry, hlead, hno,
      if_neg (by decide)]
    refine ⟨rfl, rfl, rfl, ?_⟩
    show (ch.closing c).1.fetch.window = rest
    rw [ch.closing_fetch, hleft.window]
    exact hrest.symm
  · rw [Channel.leaves_on h (hpending ▸ hp), Channel.afterRetire_leader (hhead.trans (by rw [hr]; rfl)) hentry, hlead, hno, if_pos rfl]
    exact ⟨rfl, rfl, ch.stopping_leaderGone c⟩
  · rw [Channel.leaves_on h (hpending ▸ hp), Channel.afterRetire_empty (hhead.trans (by rw [hr]; rfl)), if_pos (hpending.trans hd)]
    exact ⟨rfl, rfl, rfl⟩
  · rw [Channel.leaves_on h (hpending ▸ hp), Channel.afterRetire_empty (hhead.trans (by rw [hr]; rfl)), if_neg (hpending ▸ hd),
      if_pos (hleft.frontier.trans hf)]
    exact ⟨rfl, rfl, rfl, ch.toFrontier_condition c⟩
  · rw [Channel.leaves_on h (hpending ▸ hp), Channel.afterRetire_empty (hhead.trans (by rw [hr]; rfl)), if_neg (hpending ▸ hd),
      if_neg (by rw [hleft.frontier]; exact ne_true_of_eq_false hf)]
    exact ⟨rfl, rfl, rfl⟩
  case whole =>
    have hrs : r = s'.retiredBy c ctx := by
      rw [hr, hs', State.atBoundary_retiredBy hidle off hlets, hoff]
      rfl
    have hmirrors : s'.unmirrored c := by
      rw [hs']
      exact State.put_unmirrored hu (by rw [← Fin.getElem_fin, hs]; decide)
    rw [hrs, ← hch] at hw
    have hfollows : ∀ d : Chan, (∀ d : Chan, (s.chans[d.val]'d.isLt).follows d c = false) → ((Ev.of s' false).st.chans[d]'d.isLt).follows d c = false := by
      intro d hf
      by_cases hd : c = d
      · subst hd
        exact Channel.follows_self _ _
      · rw [Fin.getElem_fin, Ev.of_st, hs', State.atBoundary, State.put_other _ _ _ hd]
        exact hf d
    obtain ⟨lost, hfinal, -⟩ := Ev.boundary_alone (e := Ev.of s' false) (ctx := ctx) hrun hmirrors
      (by rw [Ev.of_st, ← hch]; exact hw.eq_leaves hretired) (hf.imp id fun hf d => hfollows d hf)
    have hfinish : t = ((Ev.of s' false).act c went (if went.play.state.counts then r.port else r.port.purgedOf c)
        ((s'.chans[c.val]'c.isLt).endRecords c ctx ++ records) true).finish := by
      rw [ht, hfinal, hrs]
      rfl
    have hput : ∀ p, s'.put c went p = r.put c went p := fun p => by
      rw [hrs, State.retiredBy_eq_put, State.put_put]
    have hend : (s'.chans[c.val]'c.isLt).endRecords c ctx = (s.chans[c.val]'c.isLt).endRecords c ctx := by
      rw [hchan]
      rfl
    rw [hfinish, Ev.finish_act _ _ _ _ _ _ rfl rfl, if_pos rfl, Ev.of_st, hput, hend]
    rfl
  case others =>
    have hother : s'.chans[d.val]'d.isLt = s.chans[d.val]'d.isLt := by
      rw [hs']
      exact State.put_other _ _ _ (Ne.symm hd)
    have hd' := hothers d hd (by rw [Ev.of_st, hother]; exact hf) (by rw [Ev.of_st, hother]; exact hm)
    rw [ht, hd'.finish_same (by simp)]
    exact hother
  case rest =>
    rw [ht]
    have h1 : s.sameRest s' := by rw [hs']; exact (State.put_sameButChannels ..).sameRest
    exact (h1.trans hsame.sameRest).trans hspares.finish_sameRest

end Sys2Proof.Machine

namespace Sys2Proof.Machine

/-! ## The expiry of a generator with one channel (R38, R66, R115) -/

/-- A channel that has counted an expiry (R66). -/
def countedChannel (ch : Channel) : Channel :=
  { ch with play := { ch.play with sampleCount := (ch.play.sampleCount + 1) % 281474976710656 } }

/-- The state in which a channel has counted an expiry (R66). -/
def State.counted (s : State) (c : Chan) : State := s.put c (countedChannel (s.chans[c.val]'c.isLt)) s.port

section Count

variable {s u : State} {c : Chan} {g : GenIx}

theorem frontierPollValue_pos (n : Nat) : 0 < frontierPollValue n ↔ n ≠ 0 := by
  unfold frontierPollValue
  split
  · simp [*]
  · simp [*]

/-- The poll that an expiry adds reaches the poll value (R38). -/
def State.pollReaches (s : State) (c : Chan) : Prop :=
  ¬(s.chans[c.val]'c.isLt).fetch.poll + 1 < if (s.settings c).frontierPoll < 64 then 64 else (s.settings c).frontierPoll

/-- The fetch context of a reader AT_FRONTIER after an expiry that polls (R38). -/
def polledFetch (f : Fetch) (reader : ReaderState) : Fetch := { f with poll := f.poll + 1, reader := reader }

theorem State.polled_off (h : ¬((s.chans[c.val]'c.isLt).fetch.reader = .atFrontier ∧ (s.settings c).frontierPoll ≠ 0)) : s.polled c = s :=
  if_neg h

theorem State.polled_counts (h : (s.chans[c.val]'c.isLt).fetch.reader = .atFrontier ∧ (s.settings c).frontierPoll ≠ 0)
    (hr : ¬s.pollReaches c) :
    s.polled c = s.put c { s.chans[c.val]'c.isLt with fetch := polledFetch (s.chans[c.val]'c.isLt).fetch .atFrontier } s.port := by
  refine (if_pos h).trans ((if_pos (not_not.1 hr)).trans ?_)
  rw [← h.1]
  rfl

theorem State.polled_reads (h : (s.chans[c.val]'c.isLt).fetch.reader = .atFrontier ∧ (s.settings c).frontierPoll ≠ 0)
    (hr : s.pollReaches c) :
    s.polled c = s.put c { s.chans[c.val]'c.isLt with fetch := polledFetch (s.chans[c.val]'c.isLt).fetch .slotRead }
      (s.port.after [s.slotRequest c true]) :=
  (if_pos h).trans (if_neg hr)

/-- The frontier poll of an expiry changes its channel's reader and poll count, and the port (R38). -/
theorem State.polled_put (s : State) (c : Chan) : ∃ poll reader p, s.polled c
    = s.put c { s.chans[c.val]'c.isLt with fetch := { (s.chans[c.val]'c.isLt).fetch with poll := poll, reader := reader } } p := by
  by_cases h : (s.chans[c.val]'c.isLt).fetch.reader = .atFrontier ∧ (s.settings c).frontierPoll ≠ 0
  · by_cases hr : s.pollReaches c
    · exact ⟨_, _, _, State.polled_reads h hr⟩
    · exact ⟨_, _, _, State.polled_counts h hr⟩
  · exact ⟨_, _, s.port, (State.polled_off h).trans (s.put_self c).symm⟩

/-- An expiry that a channel counts: its sample count and its frontier poll, at any port (R38, R66; log 22). -/
theorem State.countExpiry_put (hcounts : (s.chans[c.val]'c.isLt).play.state.counts = true) :
    ∃ p, ((s.chans[c.val]'c.isLt).fetch.reader ≠ .atFrontier ∨ s.port.idleEmpty → p = (s.polled c).port)
      ∧ s.countExpiry c = s.put c (countedChannel ((s.polled c).chans[c.val]'c.isLt)) p := by
  have hfirst : s.countExpiry c = (s.counted c).pollExpiry c := if_pos hcounts
  have hchan : (s.counted c).chans[c.val]'c.isLt = countedChannel (s.chans[c.val]'c.isLt) := State.put_chan ..
  rw [hfirst]
  unfold State.pollExpiry
  by_cases h : (s.chans[c.val]'c.isLt).fetch.reader = .atFrontier ∧ (s.settings c).frontierPoll ≠ 0
  · let base := (s.counted c).modFetch c fun f => { f with poll := f.poll + 1 }
    have hbase : base.chans[c.val]'c.isLt = { countedChannel (s.chans[c.val]'c.isLt) with fetch := polledFetch (s.chans[c.val]'c.isLt).fetch .atFrontier } := by
      simp only [base, State.modFetch_put, State.put_chan, hchan, polledFetch, ← h.1]
      rfl
    have hsettings : base.settings c = s.settings c := rfl
    have hdue : base.pollDue c = true ↔ s.pollReaches c := by
      rw [State.pollDue_iff, hsettings, frontierPollValue_eq, if_neg h.2, Fin.getElem_fin, hbase]
      refine ⟨fun hd => Nat.not_lt.2 hd.2.2.2, fun hd => ⟨rfl, hcounts, ?_, Nat.not_lt.1 hd⟩⟩
      split <;> omega
    have hput : base = s.put c (base.chans[c.val]'c.isLt) s.port := by simp [base, State.counted]
    have hlook : (if ((s.counted c).chans[c]'c.isLt).fetch.reader = .atFrontier ∧ 0 < frontierPollValue ((s.counted c).settings c).frontierPoll
        then if base.pollDue c = true then base.reread c else base else s.counted c)
        = if base.pollDue c = true then base.reread c else base :=
      if_pos ⟨by rw [Fin.getElem_fin, hchan]; exact h.1, (frontierPollValue_pos _).2 h.2⟩
    suffices hreread : ∃ p, ((s.chans[c.val]'c.isLt).fetch.reader ≠ .atFrontier ∨ s.port.idleEmpty → p = (s.polled c).port)
        ∧ (if base.pollDue c = true then base.reread c else base) = s.put c (countedChannel ((s.polled c).chans[c.val]'c.isLt)) p by
      obtain ⟨p, hp, hput⟩ := hreread
      exact ⟨p, hp, hlook.trans hput⟩
    by_cases hr : s.pollReaches c
    · rw [if_pos (hdue.2 hr), State.polled_reads h hr, State.put_chan, State.put_port]
      have hrequest : base.slotRequest c true = s.slotRequest c true := by
        rw [State.slotRequest, hbase]
        rfl
      have hread : base.reread c = base.put c (base.chans[c.val]'c.isLt).reading
          ((base.put c (base.chans[c.val]'c.isLt).reading base.port).raisedPort (base.slotRequest c true)) := State.readSlot_put base c true
      refine ⟨(base.put c (base.chans[c.val]'c.isLt).reading base.port).raisedPort (base.slotRequest c true), fun hport => ?_, hread.trans ?_⟩
      · rw [hrequest]
        exact State.raisedPort_after (s := base.put c (base.chans[c.val]'c.isLt).reading base.port) (hport.resolve_left fun h' => h' h.1) rfl
      · generalize (base.put c (base.chans[c.val]'c.isLt).reading base.port).raisedPort (base.slotRequest c true) = p
        rw [hbase, hput, State.put_put]
        rfl
    · refine ⟨s.port, fun _ => ?_, ?_⟩
      · rw [State.polled_counts h hr, State.put_port]
      · rw [if_neg fun hd => hr (hdue.1 hd), State.polled_counts h hr, State.put_chan, hput, hbase]
        rfl
  · refine ⟨s.port, fun _ => by rw [State.polled_off h], ?_⟩
    rw [State.polled_off h]
    exact if_neg fun h' => h ⟨by rw [Fin.getElem_fin, hchan] at h'; exact h'.1, (frontierPollValue_pos _).1 h'.2⟩

/-- Counting an expiry and polling commute (R38, R66; log 22). -/
theorem State.countExpiry_eq (hcounts : (s.chans[c.val]'c.isLt).play.state.counts = true)
    (hport : (s.chans[c.val]'c.isLt).fetch.reader ≠ .atFrontier ∨ s.port.idleEmpty) : s.countExpiry c = (s.polled c).counted c := by
  obtain ⟨p, hp, hput⟩ := State.countExpiry_put hcounts
  obtain ⟨poll, reader, q, hpolled⟩ := s.polled_put c
  rw [hput, hp hport, State.counted]
  generalize countedChannel ((s.polled c).chans[c.val]'c.isLt) = ch
  rw [hpolled, State.put_put, State.put_port]

theorem State.polled_gens (s : State) (c : Chan) (gens : Vector Gen 4) :
    State.polled { s with gens := gens } c = { s.polled c with gens := gens } := by
  by_cases h : (s.chans[c.val]'c.isLt).fetch.reader = .atFrontier ∧ (s.settings c).frontierPoll ≠ 0
  · by_cases hr : s.pollReaches c
    · rw [State.polled_reads h hr]
      exact State.polled_reads (s := { s with gens := gens }) h hr
    · rw [State.polled_counts h hr]
      exact State.polled_counts (s := { s with gens := gens }) h hr
  · rw [State.polled_off h]
    exact State.polled_off (s := { s with gens := gens }) h

theorem State.attached_sole (h : ∀ d : Chan, (s.chans[d]'d.isLt).play.generator = g ↔ d = c) : s.attached g = [c] := by
  unfold State.attached
  simp only [h]
  exact (by decide : ∀ c : Chan, allChans.filter (fun d => decide (d = c)) = [c]) c

/-- The end of an expiry of one channel: leader step starts are offered and lost leaders told (R73, R78, R93; log 8). -/
def Ev.expiryEnd (e : Ev) : State :=
  (members e.lost).foldl (fun s d => s.event fun e' => e'.loseLeader d true e.counted)
    ((members e.starts).foldl (fun s d => s.event fun e' => e'.offerLeaderStart d e.counted) e.finish)

/-- An expiry of a generator with one channel, whose group does not launch: the channel counts it, and acts by its state (R66, R115). -/
theorem exec_expiry_sole (h : s.soleOn g c) (hcounts : (s.chans[c]'c.isLt).play.state.counts = true)
    (hport : (s.chans[c]'c.isLt).fetch.reader ≠ .atFrontier ∨ s.port.idleEmpty)
    (hu : u = { s.polled c with gens := s.gens.set g (reloaded s.gens[g]) }) (hl : (u.counted c).launchDue c = false) :
    exec (.expiry g) s = .next ((Ev.of (u.counted c) true).channelExpiry c).expiryEnd := by
  obtain ⟨hrun, hsole⟩ := h
  obtain ⟨s', hs'⟩ : ∃ s', s' = s.modGen g Gen.reload := ⟨_, rfl⟩
  have hgens : s' = { s with gens := s.gens.set g (reloaded s.gens[g]) } := by
    rw [hs']
    simp [State.modGen, Gen.reload, reloaded]
  have hcount : s'.countExpiry c = u.counted c := by
    rw [State.countExpiry_eq (s := s') (by rw [hgens]; exact hcounts) (by rw [hgens]; exact hport), hu, hgens, State.polled_gens]
  have hatt : s'.attached g = [c] := State.attached_sole (by rw [hgens]; exact hsole)
  have hlaunch : (u.counted c).launching [c] = [] := by
    simp [State.launching, hl]
  show Host.Outcome.next (s.expire g) = _
  unfold State.expire State.expireChannels
  rw [if_pos hrun, ← hs', hatt]
  simp only [List.foldl_cons, List.foldl_nil, hcount, hlaunch]
  simp [State.launches, ExpiryRun.event, Ev.expiryEnd]

theorem Ev.finish_none {e : Ev} (hr : e.recs = []) (ha : e.asked = 0) : e.finish = e.st :=
  Ev.finish_eq (l := []) rfl hr (by rw [ha]; decide)

theorem Ev.offerLeaderStart_alone {e : Ev} {leader : Chan} (h : ∀ d : Chan, (e.st.chans[d]'d.isLt).follows d leader = false)
    (counted : BitVec 8) : e.offerLeaderStart leader counted = e := by
  refine Ev.forEach_stands fun d _ => ?_
  exact if_neg (by rw [Ev.chan, h d]; decide)

/-- An expiry whose leaders, that made a step start or were lost, no channel follows. -/
theorem Ev.expiryEnd_alone {e : Ev} (hs : ∀ d ∈ members e.starts, ∀ f : Chan, (e.finish.chans[f]'f.isLt).follows f d = false)
    (hl : ∀ d ∈ members e.lost, ∀ f : Chan, (e.finish.chans[f]'f.isLt).follows f d = false) : e.expiryEnd = e.finish := by
  have hoffers : (members e.starts).foldl (fun s d => s.event fun e' => e'.offerLeaderStart d e.counted) e.finish = e.finish :=
    List.foldlRecOn (motive := fun t : State => t = e.finish) _ _ rfl fun t ht d hd => by
      rw [ht, State.event, Ev.offerLeaderStart_alone (hs d hd)]
      exact Ev.finish_none rfl rfl
  unfold Ev.expiryEnd
  rw [hoffers]
  exact List.foldlRecOn (motive := fun t : State => t = e.finish) _ _ rfl fun t ht d hd => by
    rw [ht, State.event, Ev.loseLeader_alone (hl d hd)]
    exact Ev.finish_none rfl rfl

end Count

end Sys2Proof.Machine

namespace Sys2Proof.Machine

/-! ## The level computation of a sample (R98, R99, R105) -/

/-- A channel with another code of its last expiry (R103). -/
def Channel.withCode (ch : Channel) (code : Int) : Channel := { ch with level := { ch.level with expiryCode := code } }

section Show

variable {s : State} {c : Chan}

theorem OneShot.count_line (m : OneShot) : m.count.line = m.line := by
  unfold OneShot.count
  split
  · rfl
  · dsimp only
    split <;> rfl
  · dsimp only
    split <;> rfl

theorem levelCode_eq (raw gain offset : Int) : levelCode raw gain offset =
    if (raw * gain + 8192) / 16384 + offset < -32768 then -32768
    else if 32767 < (raw * gain + 8192) / 16384 + offset then 32767 else (raw * gain + 8192) / 16384 + offset := by
  unfold levelCode saturate levelSum scaleSample
  split
  · omega
  · split <;> omega

theorem levelClips_eq (raw gain offset : Int) : levelClips raw gain offset
    = decide ((raw * gain + 8192) / 16384 + offset < -32768 ∨ 32767 < (raw * gain + 8192) / 16384 + offset) := by
  rw [levelClips, levelSum, scaleSample, Bool.decide_or]

/-- A channel whose lane and marker lines show a sample, its one-shots not yet counted (R98, R108). -/
def drivenChannel (ch : Channel) (raw : Int) : Channel :=
  let clips := levelClips raw ch.level.gain ch.level.offset
  { ch with
    level := { ch.level with
      lane := levelCode raw ch.level.gain ch.level.offset
      stepClips := countStepClip clips ch.level.stepClips
      clipped := countClip clips ch.level.clipped
      idleDue := false
      markers := bothMarkers (·.present true) ch.level.markers }
    perRecord := if clips then ch.perRecord ||| 0x002 else ch.perRecord
    accumulated := if clips then ch.accumulated ||| 0x002 else ch.accumulated }

theorem drivenChannel_shown (ch : Channel) (raw : Int) :
    { drivenChannel ch raw with level := { (drivenChannel ch raw).level with
        markers := bothMarkers (·.count) (drivenChannel ch raw).level.markers
        expiryCode := (drivenChannel ch raw).level.lane } } = shownChannel ch raw := by
  simp only [drivenChannel, shownChannel, levelClips_eq, levelCode_eq, countStepClip, countClip, decide_eq_true_eq, bothMarkers, wrap32]
  rfl

theorem State.driveSample_put (s : State) (c : Chan) (raw : Int) :
    (s.driveSample c raw).presentMarkers c true = s.put c (drivenChannel (s.chans[c.val]'c.isLt) raw) s.port := by
  unfold State.driveSample State.presentMarkers drivenChannel
  dsimp only
  rw [Fin.getElem_fin]
  split
  · simp [Channel.raised, Condition.bit]
  · simp

theorem State.driveMirror_put {t : State} {m : Chan} (h : m ≠ c) (raw : Int) :
    (t.driveMirror raw m).mirrorMarkers c m = t.put m (mirrorShowing (t.chans[m.val]'m.isLt) (t.chans[c.val]'c.isLt) raw) t.port := by
  unfold State.driveMirror State.mirrorMarkers mirrorShowing mirrorLines
  dsimp only
  rw [Fin.getElem_fin]
  split
  · next hc => simp [State.put_other _ _ _ h, Channel.raised, Condition.bit, countClip, wrap32, hc]
  · next hc => simp [State.put_other _ _ _ h, countClip, hc]

theorem mirrorShowing_lines {source source' : Channel} (h0 : source.level.markers[0].line = source'.level.markers[0].line)
    (h1 : source.level.markers[1].line = source'.level.markers[1].line) (m : Channel) (raw : Int) :
    mirrorShowing m source raw = mirrorShowing m source' raw := by
  simp only [mirrorShowing, mirrorLines, h0, h1]

/-- A channel shows a sample, and its mirrors theirs with it; its expiry code stands as yet (R98, R105, R109). -/
theorem State.showSample_put (raw : Int) (h : (s.chans[c.val]'c.isLt).play.state ≠ .mirroring) :
    s.showSample c raw = (s.mirrorsMoved c fun m => mirrorShowing m (shownChannel (s.chans[c.val]'c.isLt) raw) raw).put c
      ((shownChannel (s.chans[c.val]'c.isLt) raw).withCode (s.chans[c.val]'c.isLt).level.expiryCode) s.port := by
  have hstate : (drivenChannel (s.chans[c.val]'c.isLt) raw).play.state ≠ .mirroring := h
  have hmirrors : (fun m => mirrorShowing m (drivenChannel (s.chans[c.val]'c.isLt) raw) raw)
      = fun m => mirrorShowing m (shownChannel (s.chans[c.val]'c.isLt) raw) raw := funext fun m => by
    refine mirrorShowing_lines ?_ ?_ m raw
    · rw [← drivenChannel_shown]
      exact (OneShot.count_line _).symm
    · rw [← drivenChannel_shown]
      exact (OneShot.count_line _).symm
  unfold State.showSample
  dsimp only
  rw [State.driveSample_put, State.foldl_mirrors (k := fun m src => mirrorShowing m src raw) _ c
    (fun t m hm => State.driveMirror_put hm raw) (by rw [State.put_chan]; exact hstate), State.put_chan, hmirrors,
    State.put_mirrorsMoved _ _ _ _ _ hstate, ← drivenChannel_shown]
  simp only [State.modLevel_put, State.put_chan, State.put_put, State.put_port]
  rfl

end Show

end Sys2Proof.Machine

namespace Sys2Proof.Machine

/-! ## A RUNNING expiry (R67, R68, R69, R81) -/

/-- Playout at the beginning of an expiry: a step start, or a later pass's (R69, R109). -/
def Ev.starting (e : Ev) (c : Chan) (ctx : StepContext) : Ev :=
  let p := (e.chan c).play
  if p.stepExpiries = 0 then e.startStep c ctx
  else if p.offset = 0 ∧ p.holdCount = 0 then e.mod (·.passStartMarkers c)
  else e

/-- The STEP_START record of a reported step at its start (R69). -/
def Channel.startRecords (b : Channel) (c : Chan) (ctx : StepContext) : List Record :=
  if b.play.stepExpiries = 0 ∧ ctx.body.reportStart = true then
    [chanRecord c .stepStart b.play.sampleCount ctx.slot ctx.body.segment 0]
  else []

/-- The leader's bit at its step start, none for a channel that leads no launched group or goes on in its step (R69, log 8). -/
def Channel.startMask (q : Channel) (c : Chan) : BitVec 8 :=
  if q.play.stepExpiries = 0 ∧ q.leadsLaunched c = true then maskOf c else 0

section Start

variable {e : Ev} {c : Chan} {ctx : StepContext} {q b : Channel}

theorem startedChannel_stepExpiries (q : Channel) (ctx : StepContext) :
    (startedChannel q ctx).play.stepExpiries = q.play.stepExpiries := by
  unfold startedChannel
  dsimp only
  split
  · rfl
  · split <;> rfl

theorem Ev.starting_first (hq : e.st.chans[c.val]'c.isLt = countedChannel q) (h : q.play.stepExpiries = 0) :
    ∃ starts, e.starting c ctx = { e.act c (startedChannel q ctx) e.st.port ((startedChannel q ctx).startRecords c ctx) false with
        starts := starts } ∧ starts = e.starts ||| q.startMask c := by
  have hz : (e.st.chans[c.val]'c.isLt).play.stepExpiries = 0 := by rw [hq]; exact h
  let opened : Channel := { countedChannel q with play := { (countedChannel q).play with
    offset := 0, holdCount := 0, stepExpiries := 0, pass := 1, advanceSeen := false, takeMissed := false } }
  have htake : (e.act c opened e.st.port [] false).mod (·.takeLevels c ctx.body)
      = e.act c (startedChannel q ctx) e.st.port [] false := by
    refine Eq.trans (Ev.mod_act _ c _ _ rfl) ?_
    simp only [Ev.act_act, Ev.act_st, State.put_port, List.append_nil, Bool.or_false]
    refine congrArg (fun ch => e.act c ch e.st.port [] false) ?_
    simp [startedChannel, h, opened, countedChannel]
  have hopen : e.modPlay c (fun p => { p with
      offset := 0, holdCount := 0, stepExpiries := 0, pass := 1, advanceSeen := false, takeMissed := false })
      = e.act c opened e.st.port [] false := by
    rw [Ev.modPlay_act, hq]
  have hrecord : (if ctx.body.reportStart = true then (e.act c (startedChannel q ctx) e.st.port [] false).addChanRecord c .stepStart
        ctx.slot ctx.body.segment 0 else e.act c (startedChannel q ctx) e.st.port [] false)
      = e.act c (startedChannel q ctx) e.st.port ((startedChannel q ctx).startRecords c ctx) false := by
    unfold Channel.startRecords
    rw [startedChannel_stepExpiries, h]
    by_cases hr : ctx.body.reportStart = true
    · simp [hr]
    · simp [hr]
  unfold Ev.starting Ev.startStep
  rw [Ev.chan_eq, if_pos hz]
  dsimp only
  have hlead : ∀ rs, ((e.act c (startedChannel q ctx) e.st.port rs false).chan c).leadsLaunched c = q.leadsLaunched c := fun rs => by
    have hgroup : (startedChannel q ctx).play.group = q.play.group := by
      unfold startedChannel
      dsimp only
      rw [if_pos h]
    unfold Channel.leadsLaunched
    rw [Ev.chan_eq, Ev.act_st, State.put_chan, hgroup]
  rw [hopen, htake, hrecord, hlead]
  refine ⟨_, ?_, rfl⟩
  unfold Channel.startMask
  by_cases hl : q.leadsLaunched c = true
  · rw [if_pos hl, if_pos ⟨h, hl⟩]
    rfl
  · rw [if_neg hl, if_neg fun h => hl h.2, show e.starts ||| 0 = e.starts from BitVec.or_zero]
    rfl

theorem Ev.starting_later (hq : e.st.chans[c.val]'c.isLt = countedChannel q) (h : q.play.stepExpiries ≠ 0) :
    e.starting c ctx = e.act c (startedChannel q ctx) e.st.port ((startedChannel q ctx).startRecords c ctx) false := by
  have hz : (e.st.chans[c.val]'c.isLt).play.stepExpiries ≠ 0 := by rw [hq]; exact h
  have hrecs : (startedChannel q ctx).startRecords c ctx = [] := by
    rw [Channel.startRecords, startedChannel_stepExpiries, if_neg fun h' => h h'.1]
  rw [hrecs]
  unfold Ev.starting startedChannel
  rw [Ev.chan_eq, if_neg hz]
  dsimp only
  rw [if_neg h]
  by_cases hpass : q.play.offset = 0 ∧ q.play.holdCount = 0
  · rw [if_pos hpass, if_pos (by rw [hq]; exact hpass)]
    refine Eq.trans (Ev.mod_act _ c _ _ rfl) ?_
    simp only [Fin.getElem_fin, hq]
    rfl
  · rw [if_neg hpass, if_neg (by rw [hq]; exact hpass)]
    refine Eq.trans (e.act_self c).symm ?_
    rw [hq]
    rfl

/-- The beginning of a RUNNING expiry (R69); where it is a leader's step start, the expiry remembers it. -/
theorem Ev.starting_act (hq : e.st.chans[c.val]'c.isLt = countedChannel q) :
    ∃ starts, e.starting c ctx = { e.act c (startedChannel q ctx) e.st.port ((startedChannel q ctx).startRecords c ctx) false with
        starts := starts }
      ∧ starts = e.starts ||| q.startMask c := by
  by_cases h : q.play.stepExpiries = 0
  · exact Ev.starting_first hq h
  · refine ⟨_, ?_, rfl⟩
    rw [Channel.startMask, if_neg fun h' => h h'.1, show e.starts ||| 0 = e.starts from BitVec.or_zero]
    exact Ev.starting_later hq h

theorem Channel.startMask_cases (q : Channel) (c : Chan) :
    0 ||| q.startMask c = 0 ∨ q.play.stepExpiries = 0 ∧ 0 ||| q.startMask c = 0 ||| maskOf c := by
  unfold Channel.startMask
  split
  · next h => exact Or.inr ⟨h.1, rfl⟩
  · exact Or.inl rfl

end Start

section Obtain

variable {e : Ev} {c : Chan} {ctx : StepContext} {b : Channel} {raw : Int} {pool : Pool} {obtained missed fed : Bool}

/-- A playing channel right after it has obtained its raw sample, or found that it repeats the held one (R54, R67). -/
def obtainedChannel (b : Channel) (raw : Int) (pool : Pool) (missed : Bool) : Channel :=
  { b with pool := pool, play := { b.play with heldRaw := raw, takeMissed := missed } }

/-- The state in which a channel has obtained its raw sample, the data feeder asked if it is to be (R52, R67). -/
def State.withSample (s : State) (c : Chan) (b : Channel) (raw : Int) (pool : Pool) (missed fed : Bool) : State :=
  let v := s.put c (obtainedChannel b raw pool missed) s.port
  if fed then v.feed c else v

theorem State.withSample_fetchMoved (s : State) (c : Chan) (b : Channel) (raw : Int) (pool : Pool) (missed fed : Bool) :
    (s.put c (obtainedChannel b raw pool missed) s.port).fetchMoved (s.withSample c b raw pool missed fed) c := by
  unfold State.withSample
  dsimp only
  split
  · exact State.feed_fetchMoved _ c
  · exact State.fetchMoved_refl _ c

theorem Ev.obtain_eq (hb : e.st.chans[c.val]'c.isLt = b) (h : b.obtains ctx raw pool obtained missed fed) :
    e.obtain c ctx = (e.act c ((e.st.withSample c b raw pool missed fed).chans[c.val]'c.isLt)
      (e.st.withSample c b raw pool missed fed).port [] false, obtained) := by
  have hself : e = e.act c b e.st.port [] false := by
    rw [← hb]
    exact (e.act_self c).symm
  have hsame : ∀ {raw' : Int} {missed' : Bool}, raw' = b.play.heldRaw → missed' = b.play.takeMissed →
      e.act c ((e.st.withSample c b raw' b.pool missed' false).chans[c.val]'c.isLt) (e.st.withSample c b raw' b.pool missed' false).port [] false
        = e := by
    rintro _ _ rfl rfl
    simp only [State.withSample, Bool.false_eq_true, if_false, State.put_chan, State.put_port]
    exact hself.symm
  unfold Ev.obtain
  rw [Ev.chan_eq, hb]
  dsimp only
  rcases h with ⟨hres, hhold, ⟨rest, hqueue, rfl⟩, rfl, rfl, rfl⟩ | ⟨hres, hhold, hqueue, rfl, rfl, rfl, rfl, rfl⟩
    | ⟨hres, hhold, rfl, rfl, rfl, rfl, rfl⟩ | ⟨hres, hread, rfl, rfl, rfl, rfl⟩ | ⟨hres, hread, rfl, rfl, rfl, rfl, rfl⟩
  · have htake : e.takeStream c = e.act c ((e.st.withSample c b raw { b.pool with queue := rest } false true).chans[c.val]'c.isLt)
        (e.st.withSample c b raw { b.pool with queue := rest } false true).port [] false := by
      unfold Ev.takeStream
      rw [Ev.chan_eq, hb, hqueue]
      dsimp only
      have hact : (e.modPool c fun p => { p with queue := rest }).modPlay c (fun p => { p with heldRaw := raw, takeMissed := false })
          = e.act c (obtainedChannel b raw { b.pool with queue := rest } false) e.st.port [] false := by
        simp [hb, obtainedChannel]
      rw [hact]
      refine (Ev.mod_fetchMoved _ c (State.feed_fetchMoved _ c)).trans ?_
      simp only [Ev.act_act, List.append_nil, Bool.or_false]
      rfl
    rw [if_neg (by rw [hres]; decide), if_pos hhold, htake, Ev.chan_eq, Ev.act_st, State.put_chan,
      (State.withSample_fetchMoved e.st c b raw _ false true).chan, State.put_chan]
    rfl
  · have htake : e.takeStream c = e.act c (obtainedChannel b b.play.heldRaw { b.pool with deficit := b.pool.deficit + 1 } true)
        e.st.port [] false := by
      unfold Ev.takeStream
      rw [Ev.chan_eq, hb, hqueue]
      simp [hb, obtainedChannel]
    rw [if_neg (by rw [hres]; decide), if_pos hhold, htake]
    simp [State.withSample, obtainedChannel]
  · rw [if_neg (by rw [hres]; decide), if_neg hhold, hsame rfl rfl]
  · rw [if_pos hres, hread]
    dsimp only
    rw [Ev.modPlay_act, hb]
    simp [State.withSample, obtainedChannel]
  · rw [if_pos hres, hread]
    dsimp only
    rw [hsame rfl rfl]

end Obtain

section Sample

variable {e : Ev} {c : Chan} {ctx : StepContext} {b : Channel} {raw : Int} {pool : Pool} {obtained missed fed : Bool}

/-- The position after one more expiry, up to the end of the pass (R68). -/
def advancedPosition (p : Play) (ctx : StepContext) : Nat × Nat × Nat :=
  if p.holdCount + 1 < ctx.hold then (p.pass, p.offset, p.holdCount + 1) else (p.pass, p.offset + 1, 0)

/-- The STARVED record of an episode that an obtained sample ends (R81). -/
def Channel.episodeRecords (b : Channel) (c : Chan) (obtained : Bool) : List Record :=
  if obtained = true ∧ 0 < b.play.episode then
    [chanRecord c .starved b.play.sampleCount b.play.episodeSlot b.play.episode 0]
  else []

theorem playingRecords_eq (c : Chan) (b : Channel) (ctx : StepContext) (obtained : Bool) :
    playingRecords c b ctx obtained = b.startRecords c ctx ++ b.episodeRecords c obtained := rfl

/-- A played channel with the fetch context and the pool share as the data feeder left them. -/
def Channel.withShares (ch : Channel) (t : State) (c : Chan) : Channel :=
  { ch with fetch := (t.chans[c.val]'c.isLt).fetch, pool := (t.chans[c.val]'c.isLt).pool }

theorem Ev.showSample_act (e : Ev) {ch : Channel} {p : Port} {rs : List Record} {a : Bool} (raw : Int)
    (h : ch.play.state ≠ .mirroring) : (e.act c ch p rs a).mod (fun s => s.showSample c raw) =
      (e.moved c fun m => mirrorShowing m (shownChannel ch raw) raw).act c ((shownChannel ch raw).withCode ch.level.expiryCode) p rs a := by
  have hst := State.showSample_put (s := e.st.put c ch p) (c := c) raw (by rwa [State.put_chan])
  rw [State.put_chan, State.put_mirrorsMoved _ _ _ _ _ h, State.put_put, State.put_port] at hst
  simp only [Ev.mod, Ev.act_st, hst]
  rfl

/-- A playing channel with its starvation episode opened, extended or ended (R81). -/
def starvationCounted (x : Channel) (ctx : StepContext) (obtained : Bool) : Channel :=
  if obtained then if 0 < x.play.episode then starvedChannel x x.play.episode else x
  else { x with play := { x.play with episode := x.play.episode + 1, episodeSlot := ctx.slot } }

theorem Ev.countStarvation_act (e : Ev) (ctx : StepContext) (obtained : Bool) : e.countStarvation c ctx obtained
    = e.act c (starvationCounted (e.st.chans[c.val]'c.isLt) ctx obtained) e.st.port ((e.st.chans[c.val]'c.isLt).episodeRecords c obtained) false := by
  unfold Ev.countStarvation starvationCounted Channel.episodeRecords
  rw [Ev.chan_eq]
  cases obtained with
  | false => simp
  | true =>
    by_cases hp : 0 < (e.st.chans[c.val]'c.isLt).play.episode
    · simp [hp, Ev.starved_act]
    · simp [hp]

theorem State.withSample_chan (s : State) : (s.withSample c b raw pool missed fed).chans[c.val]'c.isLt
    = (obtainedChannel b raw pool missed).withShares (s.withSample c b raw pool missed fed) c := by
  have h := (State.withSample_fetchMoved s c b raw pool missed fed).chan
  rwa [State.put_chan] at h

/-- The channel after the sample is the spec's played channel (R67, R68, R81). -/
theorem playedChannel_shown (x : Channel) (b : Channel) (ctx : StepContext) (raw : Int) (pool : Pool) (obtained missed : Bool)
    (hx : x = { obtainedChannel b raw pool missed with fetch := x.fetch, pool := x.pool }) :
    { shownChannel (starvationCounted x ctx obtained) raw with
      play := Play.advance { (starvationCounted x ctx obtained).play with stepExpiries := (starvationCounted x ctx obtained).play.stepExpiries + 1 } ctx }
    = { playedChannel b ctx raw pool obtained missed (advancedPosition b.play ctx) with fetch := x.fetch, pool := x.pool } := by
  rw [hx]
  have hadvance : ∀ p : Play, p.advance ctx = { p with
      pass := (advancedPosition p ctx).1, offset := (advancedPosition p ctx).2.1, holdCount := (advancedPosition p ctx).2.2 } := by
    intro p
    unfold Play.advance advancedPosition
    split <;> rfl
  rw [hadvance]
  cases obtained with
  | false => rfl
  | true =>
    by_cases hp : 0 < b.play.episode
    · simp only [starvationCounted, obtainedChannel, playedChannel, hp, if_true, and_self]
      rfl
    · have hzero : b.play.episode = 0 := Nat.eq_zero_of_not_pos hp
      simp only [starvationCounted, obtainedChannel, playedChannel, hp, if_true, if_false, and_false]
      rw [← hzero]
      rfl

/-- One sample is output and the position moves on (R67, R68, R81); the channel's mirrors show the sample with it (R105). -/
theorem Ev.outputSample_act (hb : e.st.chans[c.val]'c.isLt = b) (hs : b.play.state = .running)
    (h : b.obtains ctx raw pool obtained missed fed) :
    (e.outputSample c ctx).modPlay c (·.advance ctx) =
      let w := e.st.withSample c b raw pool missed fed
      let played := (playedChannel b ctx raw pool obtained missed (advancedPosition b.play ctx)).withShares w c
      (e.moved c fun m => mirrorShowing m played raw).act c (played.withCode b.level.expiryCode) w.port
        (b.episodeRecords c obtained) false := by
  let x := (e.st.withSample c b raw pool missed fed).chans[c.val]'c.isLt
  have hx : x = { obtainedChannel b raw pool missed with fetch := x.fetch, pool := x.pool } := State.withSample_chan _
  have hplay : x.play = (obtainedChannel b raw pool missed).play := by rw [hx]
  have hcounted : (starvationCounted x ctx obtained).play.state = .running ∧ (starvationCounted x ctx obtained).play.heldRaw = raw
      ∧ (starvationCounted x ctx obtained).level.expiryCode = b.level.expiryCode := by
    have hxs : x.play.state = .running ∧ x.play.heldRaw = raw ∧ x.level.expiryCode = b.level.expiryCode := by
      rw [hx]
      exact ⟨hs, rfl, rfl⟩
    unfold starvationCounted
    split
    · split <;> exact hxs
    · exact hxs
  obtain ⟨hstate, hraw, hcode⟩ := hcounted
  have hrecs : x.episodeRecords c obtained = b.episodeRecords c obtained := by
    unfold Channel.episodeRecords
    rw [hplay]
    rfl
  have hshow : ∀ p rs, (e.act c (starvationCounted x ctx obtained) p rs false).mod (fun s => s.showSample c (s.chans[c]'c.isLt).play.heldRaw)
      = (e.moved c fun m => mirrorShowing m (shownChannel (starvationCounted x ctx obtained) raw) raw).act c
        ((shownChannel (starvationCounted x ctx obtained) raw).withCode b.level.expiryCode) p rs false := by
    intro p rs
    rw [← hcode, ← Ev.showSample_act e raw (by rw [hstate]; decide)]
    simp only [Ev.mod, Ev.act_st, Fin.getElem_fin, State.put_chan, hraw]
  have hplayed := playedChannel_shown x b ctx raw pool obtained missed hx
  have hmirrors : (fun m => mirrorShowing m (shownChannel (starvationCounted x ctx obtained) raw) raw)
      = fun m => mirrorShowing m ((playedChannel b ctx raw pool obtained missed (advancedPosition b.play ctx)).withShares
        (e.st.withSample c b raw pool missed fed) c) raw := by
    funext m
    rw [Channel.withShares, ← hplayed]
    rfl
  unfold Ev.outputSample
  rw [Ev.obtain_eq hb h]
  dsimp only
  rw [Ev.countStarvation_act, Ev.act_act, Ev.act_st, State.put_chan, State.put_port, hrecs, Bool.or_false, List.nil_append, hshow,
    hmirrors]
  simp only [Ev.modPlay_act, Ev.act_act, Ev.act_st, State.put_chan, State.put_port, List.append_nil, Bool.or_false]
  rw [Channel.withShares, ← hplayed]
  rfl

end Sample

end Sys2Proof.Machine

namespace Sys2Proof.Machine

section RunExpiry

variable {e : Ev} {c : Chan} {ctx : StepContext} {q b : Channel} {raw : Int} {pool : Pool} {obtained missed fed : Bool}

/-- A playing channel after its sample at a position, with its shares as the data feeder left them; its expiry code stands as yet. -/
def State.playedAt (s : State) (c : Chan) (b : Channel) (ctx : StepContext) (raw : Int) (pool : Pool) (obtained missed fed : Bool)
    (position : Nat × Nat × Nat) : Channel :=
  (playedChannel b ctx raw pool obtained missed position).withShares (s.withSample c b raw pool missed fed) c

/-- The event after a sample: the channel and its mirrors show it, and the position is `position` (R67, R68, R105). -/
def Ev.played (e : Ev) (c : Chan) (b : Channel) (ctx : StepContext) (raw : Int) (pool : Pool) (obtained missed fed : Bool)
    (position : Nat × Nat × Nat) : Ev :=
  let ch := e.st.playedAt c b ctx raw pool obtained missed fed position
  (e.moved c fun m => mirrorShowing m ch raw).act c (ch.withCode b.level.expiryCode) (e.st.withSample c b raw pool missed fed).port
    (playingRecords c b ctx obtained) false

theorem Ev.played_chan (e : Ev) (position : Nat × Nat × Nat) :
    (e.played c b ctx raw pool obtained missed fed position).st.chans[c.val]'c.isLt
      = (e.st.playedAt c b ctx raw pool obtained missed fed position).withCode b.level.expiryCode := State.put_chan ..

theorem Ev.played_play (e : Ev) (position : Nat × Nat × Nat) :
    ((e.played c b ctx raw pool obtained missed fed position).st.chans[c.val]'c.isLt).play
      = (playedChannel b ctx raw pool obtained missed position).play := by
  rw [Ev.played_chan]
  rfl

/-- The position can be set anew after the sample. -/
theorem Ev.played_moves (e : Ev) (starts : BitVec 8) (f : Play → Play) (position position' : Nat × Nat × Nat)
    (hf : f (playedChannel b ctx raw pool obtained missed position).play
      = (playedChannel b ctx raw pool obtained missed position').play) :
    Ev.modPlay { e.played c b ctx raw pool obtained missed fed position with starts := starts } c f
      = { e.played c b ctx raw pool obtained missed fed position' with starts := starts } := by
  have hmirrors : (fun m => mirrorShowing m (e.st.playedAt c b ctx raw pool obtained missed fed position) raw)
      = fun m => mirrorShowing m (e.st.playedAt c b ctx raw pool obtained missed fed position') raw := rfl
  have hact : (e.played c b ctx raw pool obtained missed fed position).modPlay c f
      = e.played c b ctx raw pool obtained missed fed position' := by
    rw [Ev.modPlay_act, Ev.played_chan]
    unfold Ev.played
    dsimp only
    rw [Ev.act_act, hmirrors, List.append_nil, Bool.or_false]
    have hch : ∀ ch : Channel, ch = (e.st.playedAt c b ctx raw pool obtained missed fed position).withCode b.level.expiryCode →
        { ch with play := f ch.play } = (e.st.playedAt c b ctx raw pool obtained missed fed position').withCode b.level.expiryCode := by
      rintro _ rfl
      have hplay : f ((e.st.playedAt c b ctx raw pool obtained missed fed position).withCode b.level.expiryCode).play
          = ((e.st.playedAt c b ctx raw pool obtained missed fed position').withCode b.level.expiryCode).play := hf
      rw [hplay]
      rfl
    rw [hch _ rfl]
    rfl
  exact congrArg (fun t : Ev => { t with starts := starts }) hact

theorem playedChannel_play (b : Channel) (ctx : StepContext) (raw : Int) (pool : Pool) (obtained missed : Bool)
    (position : Nat × Nat × Nat) :
    (playedChannel b ctx raw pool obtained missed position).play.pass = position.1
      ∧ (playedChannel b ctx raw pool obtained missed position).play.offset = position.2.1
      ∧ (playedChannel b ctx raw pool obtained missed position).play.holdCount = position.2.2
      ∧ (playedChannel b ctx raw pool obtained missed position).play.advanceSeen = b.play.advanceSeen
      ∧ (playedChannel b ctx raw pool obtained missed position).play.state = b.play.state := by
  refine ⟨rfl, rfl, rfl, ?_, ?_⟩
  · unfold playedChannel shownChannel
    dsimp only
    split <;> rfl
  · unfold playedChannel shownChannel
    dsimp only
    split <;> rfl

/-- A RUNNING expiry up to its position: the sample is output, and the position is the advanced one (R67, R68, R69). -/
theorem Ev.running_played (hq : e.st.chans[c.val]'c.isLt = countedChannel q) (hb : b = startedChannel q ctx)
    (hs : b.play.state = .running) (ho : b.obtains ctx raw pool obtained missed fed) :
    ∃ starts, (((e.starting c ctx).outputSample c ctx).modPlay c (·.advance ctx)
        = { e.played c b ctx raw pool obtained missed fed (advancedPosition b.play ctx) with starts := starts })
      ∧ (e.starting c ctx).chan c = b
      ∧ starts = e.starts ||| q.startMask c := by
  obtain ⟨starts, hact, hstarts⟩ := Ev.starting_act (ctx := ctx) hq
  rw [← hb] at hact
  have hchan : (e.starting c ctx).st.chans[c.val]'c.isLt = b := by
    rw [hact]
    exact State.put_chan ..
  refine ⟨starts, ?_, hchan, hstarts⟩
  have hsame : (e.starting c ctx).st.withSample c b raw pool missed fed = e.st.withSample c b raw pool missed fed := by
    rw [hact]
    simp [State.withSample]
  rw [Ev.outputSample_act hchan hs ho]
  dsimp only
  rw [hsame, hact]
  have hmoved : ∀ g, Ev.moved { e.act c b e.st.port (b.startRecords c ctx) false with starts := starts } c g
      = { (e.moved c g).act c b e.st.port (b.startRecords c ctx) false with starts := starts } := fun g =>
    congrArg (fun t : Ev => { t with starts := starts }) (Ev.act_moved e c g b e.st.port (b.startRecords c ctx) false (by rw [hs]; decide))
  rw [hmoved]
  refine congrArg (fun t : Ev => { t with starts := starts }) (Eq.trans (Ev.act_act ..) ?_)
  rw [Bool.or_false]
  rfl

theorem Ev.runExpiry_eq (e : Ev) (c : Chan) (ctx : StepContext) :
    e.runExpiry c ctx =
      let e2 := ((e.starting c ctx).outputSample c ctx).modPlay c (·.advance ctx)
      if ctx.wEff ≤ (e2.chan c).play.offset then e2.endPass c ctx
      else if ((e.starting c ctx).chan c).play.cutDue ctx then e2.boundary c ctx
      else e2 := by
  unfold Ev.runExpiry Ev.starting
  rfl

/-- A pass end right after a sample (R68, R79). -/
theorem Ev.endPass_played (e : Ev) (starts : BitVec 8) (pass offset hold : Nat) (hp : pass = b.play.pass) :
    Ev.endPass { e.played c b ctx raw pool obtained missed fed (pass, offset, hold) with starts := starts } c ctx =
      let next := fun pass => { e.played c b ctx raw pool obtained missed fed (pass, 0, hold) with starts := starts }
      if ctx.body.rep = 0 then if b.play.advanceSeen then (next pass).boundary c ctx else next pass
      else if b.play.pass < ctx.body.rep then next (pass + 1)
      else (next pass).boundary c ctx := by
  obtain ⟨-, -, -, hadv, -⟩ := playedChannel_play b ctx raw pool obtained missed (pass, offset, hold)
  have hplay : (Ev.chan { e.played c b ctx raw pool obtained missed fed (pass, offset, hold) with starts := starts } c).play
      = (playedChannel b ctx raw pool obtained missed (pass, offset, hold)).play := e.played_play _
  have hzero := e.played_moves (c := c) (b := b) (ctx := ctx) (raw := raw) (pool := pool) (obtained := obtained) (missed := missed)
    (fed := fed) starts (fun p => { p with offset := 0 }) (pass, offset, hold) (pass, 0, hold) rfl
  have hnext := e.played_moves (c := c) (b := b) (ctx := ctx) (raw := raw) (pool := pool) (obtained := obtained) (missed := missed)
    (fed := fed) starts (fun p => { p with pass := p.pass + 1 }) (pass, 0, hold) (pass + 1, 0, hold) rfl
  unfold Ev.endPass
  dsimp only
  rw [hzero, hnext, hplay, hadv, ← hp]
  rfl

/-- What a RUNNING expiry does once its sample is output: the step goes on at a position, or is over (R68, R79, R80). -/
theorem Ev.runExpiry_cases (hq : e.st.chans[c.val]'c.isLt = countedChannel q) (hb : b = startedChannel q ctx)
    (hs : b.play.state = .running) (hw : b.play.offset < ctx.wEff) (ho : b.obtains ctx raw pool obtained missed fed) :
    ∃ starts, starts = e.starts ||| q.startMask c
      ∧ (∀ position, nextPosition b.play ctx = some position →
          e.runExpiry c ctx = { e.played c b ctx raw pool obtained missed fed position with starts := starts })
      ∧ (nextPosition b.play ctx = none → e.runExpiry c ctx = Ev.boundary
          { e.played c b ctx raw pool obtained missed fed (b.play.pass, lastPosition b.play ctx) with starts := starts } c ctx) := by
  obtain ⟨starts, hplayed, hchan, hstarts⟩ := Ev.running_played hq hb hs ho
  refine ⟨starts, hstarts, ?_⟩
  have hrun : e.runExpiry c ctx = _ := e.runExpiry_eq c ctx
  rw [hplayed, hchan] at hrun
  have hoffset : (Ev.chan { e.played c b ctx raw pool obtained missed fed (advancedPosition b.play ctx) with starts := starts } c).play.offset
      = (advancedPosition b.play ctx).2.1 :=
    congrArg Play.offset (e.played_play (advancedPosition b.play ctx))
  dsimp only at hrun
  rw [hoffset] at hrun
  rw [hrun]
  unfold nextPosition lastPosition
  have hcut : b.play.cutDue ctx = true ↔ ctx.body.rep = 0 ∧ ctx.body.exitCut = true ∧ b.play.advanceSeen = true := by
    simp [Play.cutDue, and_assoc]
  by_cases hhold : b.play.holdCount + 1 < ctx.hold
  · have hpos : advancedPosition b.play ctx = (b.play.pass, b.play.offset, b.play.holdCount + 1) := if_pos hhold
    rw [hpos, if_neg (Nat.not_le.2 hw)]
    by_cases hc : ctx.body.rep = 0 ∧ ctx.body.exitCut = true ∧ b.play.advanceSeen = true
    · rw [if_pos (hcut.2 hc)]
      simp [hc, hhold]
    · rw [if_neg (fun h => hc (hcut.1 h))]
      simp [hc, hhold]
  · have hpos : advancedPosition b.play ctx = (b.play.pass, b.play.offset + 1, 0) := if_neg hhold
    rw [hpos]
    by_cases hoff : b.play.offset + 1 < ctx.wEff
    · rw [if_neg (Nat.not_le.2 hoff)]
      by_cases hc : ctx.body.rep = 0 ∧ ctx.body.exitCut = true ∧ b.play.advanceSeen = true
      · rw [if_pos (hcut.2 hc)]
        simp [hc, hhold, hoff]
      · rw [if_neg (fun h => hc (hcut.1 h))]
        simp [hc, hhold, hoff]
    · rw [if_pos (Nat.not_lt.1 hoff), Ev.endPass_played _ _ _ _ _ rfl]
      by_cases hrep : ctx.body.rep = 0
      · by_cases hadv : b.play.advanceSeen = true
        · simp [hrep, hadv, hhold, hoff]
        · simp [hrep, hadv, hhold, hoff]
      · by_cases hpass : b.play.pass < ctx.body.rep
        · simp [hrep, hpass, hhold, hoff]
        · simp [hrep, hpass, hhold, hoff]

end RunExpiry

end Sys2Proof.Machine

namespace Sys2Proof.Machine

/-! ## The expiry code alone (R103, log 12) -/

/-- The state with another expiry code of one channel. -/
def State.withCode (s : State) (c : Chan) (code : Int) : State := s.put c ((s.chans[c.val]'c.isLt).withCode code) s.port

section Code

variable {s : State} {c : Chan} {ctx : StepContext} (code : Int)

theorem Channel.withCode_alike (ch : Channel) : (ch.withCode code).alike ch := ⟨rfl, rfl, rfl⟩

theorem State.withCode_alike (s : State) (c : Chan) : (s.withCode c code).alike s :=
  State.put_alike (Channel.withCode_alike code _) _

theorem State.withCode_chan (s : State) (c : Chan) : (s.withCode c code).chans[c.val]'c.isLt = (s.chans[c.val]'c.isLt).withCode code := State.put_chan ..

theorem State.raise_withCode (s : State) (r : Request) : (s.withCode c code).raise r = (s.raise r).withCode c code := by
  have hport : (s.withCode c code).raisedPort r = s.raisedPort r := State.raisedPort_congr (s := s.withCode c code) (t := s) rfl
    (State.withCode_alike code s c) r
  rw [State.raise_eq, State.raise_eq, hport]
  rfl

theorem State.modFetch_withCode (s : State) (f : Fetch → Fetch) :
    (s.withCode c code).modFetch c f = (s.modFetch c f).withCode c code := by
  simp [State.withCode, Channel.withCode]

theorem State.modPool_withCode (s : State) (f : Pool → Pool) :
    (s.withCode c code).modPool c f = (s.modPool c f).withCode c code := by
  simp [State.withCode, Channel.withCode]

theorem State.feed_withCode (s : State) : (s.withCode c code).feed c = (s.feed c).withCode c code := by
  obtain ⟨data, owed, reserve, hfed⟩ := s.fed_eq c
  have h := State.feed_alike (s := s) (c := c) (Channel.withCode_alike code (s.chans[c.val]'c.isLt))
  refine Eq.trans h ?_
  unfold State.withCode
  rw [State.feed_put, State.put_put, State.put_chan, State.put_port, hfed]
  rfl

theorem State.readSlot_withCode (s : State) (reread : Bool) :
    (s.withCode c code).readSlot c reread = (s.readSlot c reread).withCode c code := by
  unfold State.readSlot State.raiseRead
  rw [State.modFetch_withCode, State.raise_withCode, Fin.getElem_fin, State.withCode_chan]
  rfl

theorem State.readerTo_withCode (s : State) (slot : Nat) :
    (s.withCode c code).readerTo c slot = (s.readerTo c slot).withCode c code := by
  unfold State.readerTo
  dsimp only
  rw [State.modFetch_withCode, Fin.getElem_fin, State.withCode_chan, State.readSlot_withCode, State.modFetch_withCode]
  exact (apply_ite (State.withCode · c code) _ _ _).symm

theorem State.readerOn_withCode (s : State) (successor : Option Nat) :
    (s.withCode c code).readerOn c successor = (s.readerOn c successor).withCode c code := by
  cases successor with
  | some slot => exact s.readerTo_withCode code slot
  | none => exact s.modFetch_withCode (c := c) code fun f => { f with reader := .listEnd }

theorem State.placeContext_withCode (s : State) (ctx : StepContext) :
    (s.withCode c code).placeContext c ctx = (s.placeContext c ctx).withCode c code := by
  rw [State.placeContext_eq, State.placeContext_eq, State.modFetch_withCode, State.feed_withCode, State.readsOn_eq, State.readsOn_eq,
    State.modFetch_withCode, State.readerOn_withCode]
  exact (apply_ite (State.withCode · c code) _ _ _).symm

theorem State.placeResident_withCode (s : State) (ctx : StepContext) (id : BankId) :
    (s.withCode c code).placeResident c ctx id = (s.placeResident c ctx id).withCode c code := by
  unfold State.placeResident
  rw [State.modPool_withCode, State.placeContext_withCode]

theorem State.released_withCode (s : State) (occ : Nat) : (s.withCode c code).released c occ = (s.released c occ).withCode c code := by
  unfold State.released
  rw [← State.feed_withCode]
  refine congrArg (State.feed · c) ?_
  simp [State.withCode, State.put, Channel.withCode]

theorem State.releaseBank_withCode (s : State) (occ : Nat) :
    (s.withCode c code).releaseBank c occ = (s.releaseBank c occ).withCode c code := by
  have hreader : (((s.released c occ).withCode c code).chans[c.val]'c.isLt).fetch = ((s.released c occ).chans[c.val]'c.isLt).fetch := by
    rw [State.withCode_chan]
    rfl
  have hpool : (((s.released c occ).withCode c code).chans[c.val]'c.isLt).pool = ((s.released c occ).chans[c.val]'c.isLt).pool := by
    rw [State.withCode_chan]
    rfl
  rw [State.releaseBank_eq, State.releaseBank_eq, State.released_withCode, Fin.getElem_fin, hreader, hpool]
  cases ((s.released c occ).chans[c.val]'c.isLt).fetch.reader
  case bankWait =>
    cases ((s.released c occ).chans[c.val]'c.isLt).fetch.held with
    | none => rfl
    | some held =>
      cases ((s.released c occ).chans[c.val]'c.isLt).pool.freeBank with
      | none => rfl
      | some id => exact State.placeResident_withCode code _ held id
  all_goals rfl

theorem State.retireWrite_withCode (s : State) (ctx : StepContext) :
    (s.withCode c code).retireWrite c ctx = (s.retireWrite c ctx).withCode c code := by
  unfold State.retireWrite
  split
  · exact State.raise_withCode code s _
  · rfl

theorem State.dropHead_withCode (s : State) (ctx : StepContext) :
    (s.withCode c code).dropHead c ctx = (s.dropHead c ctx).withCode c code := by
  unfold State.dropHead
  dsimp only
  rw [State.modFetch_withCode, Fin.getElem_fin, State.withCode_chan, State.readSlot_withCode]
  exact (apply_ite (State.withCode · c code) _ _ _).symm

theorem State.retiredPort_withCode (s : State) (ctx : StepContext) : (s.withCode c code).retiredPort c ctx = s.retiredPort c ctx := by
  unfold State.retiredPort
  rw [State.retireWrite_withCode, State.dropHead_withCode]
  rfl

/-- A retirement does not look at the expiry code. -/
theorem State.retiredBy_withCode (s : State) (ctx : StepContext) :
    (s.withCode c code).retiredBy c ctx = (s.retiredBy c ctx).withCode c code := by
  have hbase : ∀ offset p, (s.withCode c code).put c (retiredChannel ((s.chans[c.val]'c.isLt).withCode code) ctx offset) p
      = (s.put c (retiredChannel (s.chans[c.val]'c.isLt) ctx offset) p).withCode c code := by
    intro offset p
    simp only [State.withCode, State.put_put, State.put_chan, State.put_port]
    rfl
  have hoffset : ((s.chans[c.val]'c.isLt).withCode code).play.offset = (s.chans[c.val]'c.isLt).play.offset := rfl
  unfold State.retiredBy
  dsimp only
  rw [State.retiredPort_withCode, State.withCode_chan, hoffset, hbase, State.releaseBank_withCode]
  exact (apply_ite (State.withCode · c code) _ _ _).symm

theorem Channel.closing_withCode (ch : Channel) : (ch.withCode code).closing c = ((ch.closing c).1.withCode code, (ch.closing c).2) := by
  have hplay : (ch.withCode code).play = ch.play := rfl
  unfold Channel.closing
  rw [hplay]
  by_cases hr : ch.play.state = .running
  · rw [if_pos hr, if_pos hr]
    by_cases hp : 0 < ch.play.episode
    · rw [if_pos hp, if_pos hp]
      rfl
    · rw [if_neg hp, if_neg hp]
  · rw [if_neg hr, if_neg hr]
    by_cases hw : ch.play.state = .waiting ∧ ch.play.wait = .data true
    · rw [if_pos hw, if_pos hw]
      rfl
    · rw [if_neg hw, if_neg hw]

/-- A channel with another expiry code, and the same records. -/
def outcomeWithCode (out : Channel × List Record) : Channel × List Record := (out.1.withCode code, out.2)

theorem Channel.stopping_withCode (ch : Channel) (reason : StopReason) :
    (ch.withCode code).stopping c reason = outcomeWithCode code (ch.stopping c reason) := by
  rw [Channel.stopping, Channel.closing_withCode]
  rfl

theorem Channel.faulting_withCode (ch : Channel) (slot : Nat) (sub : SubCode) :
    (ch.withCode code).faulting c slot sub = outcomeWithCode code (ch.faulting c slot sub) := by
  rw [Channel.faulting, Channel.closing_withCode]
  rfl

theorem Channel.toWait_withCode (ch : Channel) (w : WaitReason) :
    (ch.withCode code).toWait c w = outcomeWithCode code (ch.toWait c w) := by
  rw [Channel.toWait, Channel.closing_withCode]
  rfl

theorem Channel.toFrontier_withCode (ch : Channel) : (ch.withCode code).toFrontier c = outcomeWithCode code (ch.toFrontier c) := by
  rw [Channel.toFrontier, Channel.closing_withCode]
  rfl

theorem Channel.toData_withCode (ch : Channel) : (ch.withCode code).toData c = outcomeWithCode code (ch.toData c) := by
  rw [Channel.toData, Channel.closing_withCode]
  rfl

theorem Channel.afterRetire_withCode (ch : Channel) :
    (ch.withCode code).afterRetire c = outcomeWithCode code (ch.afterRetire c) := by
  have hhead : (ch.withCode code).head = ch.head := rfl
  cases h : ch.head with
  | none =>
    rw [Channel.afterRetire_empty (hhead.trans h), Channel.afterRetire_empty h, Channel.stopping_withCode, Channel.toFrontier_withCode,
      Channel.toData_withCode]
    refine Eq.trans ?_ (apply_ite (outcomeWithCode code) _ _ _).symm
    exact congrArg (ite _ _) (apply_ite (outcomeWithCode code) _ _ _).symm
  | some entry =>
    cases entry with
    | invalid occ slot sub =>
      rw [Channel.afterRetire_invalid (hhead.trans h), Channel.afterRetire_invalid h, Channel.faulting_withCode]
    | step next =>
      unfold Channel.afterRetire
      rw [hhead, h]
      dsimp only
      cases next.body.entry with
      | none => rfl
      | some entry =>
        cases entry with
        | immediate => rfl
        | trigger k => exact Channel.toWait_withCode code ch _
        | leader =>
          dsimp only
          rw [Channel.stopping_withCode, Channel.toWait_withCode]
          exact (apply_ite (outcomeWithCode code) _ _ _).symm

/-- Where a channel goes from a boundary does not depend on its expiry code. -/
theorem Channel.leaves_withCode (ch : Channel) (ctx : StepContext) :
    (ch.withCode code).leaves c ctx = outcomeWithCode code (ch.leaves c ctx) := by
  have hpending : (ch.withCode code).play.pendingStop = ch.play.pendingStop := rfl
  by_cases hend : ctx.body.nextKind = some .endStep
  · rw [Channel.leaves_end hend, Channel.leaves_end hend, Channel.stopping_withCode]
  · by_cases hp : ch.play.pendingStop = .stepEnd
    · rw [Channel.leaves_stepEnd hend hp, Channel.leaves_stepEnd hend (hpending.trans hp), Channel.stopping_withCode]
    · rw [Channel.leaves_on hend hp, Channel.leaves_on hend (hpending ▸ hp), Channel.afterRetire_withCode]

end Code

/-! ## The data feeder's part of an expiry (R52) -/

section Feeder

variable {s : State} {c : Chan} {ctx : StepContext} {b : Channel} {raw : Int} {pool : Pool} {obtained missed fed : Bool}

/-- To the data feeder and the arbiter a played channel is one that has obtained its sample. -/
theorem playedChannel_alike (b : Channel) (ctx : StepContext) (raw : Int) (pool : Pool) (obtained missed : Bool)
    (position : Nat × Nat × Nat) :
    (playedChannel b ctx raw pool obtained missed position).alike (obtainedChannel b raw pool missed) := by
  unfold playedChannel shownChannel
  dsimp only
  split <;> exact ⟨rfl, rfl, rfl⟩

/-- The played channel in place, the data feeder asked if it is to be (R52, R67). -/
theorem State.playedAt_put (s : State) (position : Nat × Nat × Nat) :
    s.put c (s.playedAt c b ctx raw pool obtained missed fed position) (s.withSample c b raw pool missed fed).port
      = if fed then (s.put c (playedChannel b ctx raw pool obtained missed position) s.port).feed c
        else s.put c (playedChannel b ctx raw pool obtained missed position) s.port := by
  obtain ⟨hfetch, hpool, hstate⟩ := playedChannel_alike b ctx raw pool obtained missed position
  cases fed with
  | false =>
    have hsame : s.playedAt c b ctx raw pool obtained missed false position = playedChannel b ctx raw pool obtained missed position := by
      unfold State.playedAt Channel.withShares State.withSample
      simp only [Bool.false_eq_true, if_false, State.put_chan, ← hfetch, ← hpool]
    rw [hsame]
    rfl
  | true =>
    have h := State.feed_alike (s := s.put c (obtainedChannel b raw pool missed) s.port) (c := c)
      (ch := playedChannel b ctx raw pool obtained missed position) (by rw [State.put_chan]; exact ⟨hfetch, hpool, hstate⟩)
    rw [State.put_put, State.put_put, State.put_port] at h
    exact h.symm

theorem State.feed_idleEmpty (h : s.port.idleEmpty) : (s.feed c).port.idleEmpty := by
  have hraised : ∀ (t : State) (r : Request), (t.raise r).port.idleEmpty := fun t r hb => by
    rw [(t.raise_holds r).1] at hb
    cases hb
  unfold State.feed
  dsimp only
  split
  · split
    · exact h
    · split
      · exact hraised _ _
      · split
        · exact hraised _ _
        · exact h
  · exact h

end Feeder

end Sys2Proof.Machine

namespace Sys2Proof.Machine

/-! ## What a channel does at an expiry, by its state (R66, R75) -/

section ByState

variable {e : Ev} {c : Chan} {ctx : StepContext}

/-- The code of the lane is the channel's expiry code once it has acted (R103, log 12). -/
def Ev.coded (e : Ev) (c : Chan) : Ev := e.modLevel c fun l => { l with expiryCode := l.lane }

theorem Ev.coded_act (e : Ev) {ch : Channel} {p : Port} {rs : List Record} {a : Bool} :
    (e.act c ch p rs a).coded c = e.act c (ch.withCode ch.level.lane) p rs a := by
  simp [Ev.coded, Channel.withCode]

theorem Ev.channelExpiry_running (hs : (e.chan c).play.state = .running) (hstep : (e.chan c).headStep = some ctx) :
    e.channelExpiry c = (e.runExpiry c ctx).coded c := by
  unfold Ev.channelExpiry
  dsimp only
  rw [hs, hstep]
  rfl

theorem Ev.channelExpiry_data {late : Bool} (hs : (e.chan c).play.state = .waiting) (hw : (e.chan c).play.wait = .data late) :
    e.channelExpiry c = (e.lookExpiry c).coded c := by
  unfold Ev.channelExpiry
  dsimp only
  rw [hs, hw]
  rfl

theorem Ev.channelExpiry_frontier (hs : (e.chan c).play.state = .frontier) : e.channelExpiry c = (e.lookExpiry c).coded c := by
  unfold Ev.channelExpiry
  dsimp only
  rw [hs]
  rfl

theorem Ev.channelExpiry_armed (hs : (e.chan c).play.state = .armed) : e.channelExpiry c = (e.mod (·.showIdle c)).coded c := by
  unfold Ev.channelExpiry
  dsimp only
  rw [hs]
  rfl

theorem Ev.channelExpiry_waiting (hw : (e.chan c).play.inEntryWait = true) (hstep : (e.chan c).headStep = some ctx) :
    e.channelExpiry c = (e.waitExpiry c ctx).coded c := by
  unfold Play.inEntryWait at hw
  unfold Ev.channelExpiry
  dsimp only
  split at hw
  · rename_i hs hw'
    rw [hs, hw', hstep]
    rfl
  · rename_i hs hw'
    rw [hs, hw', hstep]
    rfl
  · cases hw

theorem Channel.head_of_headStep {ch : Channel} (h : ch.headStep = some ctx) : ch.head = some (.step ctx) := by
  unfold Channel.headStep at h
  split at h
  · rename_i hh
    cases h
    exact hh
  · cases h

theorem Ev.lookExpiry_stays (h : (e.chan c).head = none ∨ ∃ ctx, (e.chan c).headStep = some ctx ∧ (e.chan c).dataPresent ctx = false) :
    e.lookExpiry c = e.stay c := by
  unfold Ev.lookExpiry
  rcases h with h | ⟨ctx, hstep, hdata⟩
  · rw [h]
  · rw [Channel.head_of_headStep hstep]
    exact if_neg (by rw [hdata]; decide)

theorem Ev.lookExpiry_leaves (hstep : (e.chan c).headStep = some ctx) (hdata : (e.chan c).dataPresent ctx = true) :
    e.lookExpiry c = e.leaveStay c ctx := by
  unfold Ev.lookExpiry
  rw [Channel.head_of_headStep hstep]
  exact if_pos hdata

theorem Ev.lookExpiry_invalid {occ slot : Nat} {sub : SubCode} (h : (e.chan c).head = some (.invalid occ slot sub)) :
    e.lookExpiry c = e.faultChannel c (.stepInvalid sub) := by
  unfold Ev.lookExpiry
  rw [h]

theorem Ev.leaveStay_immediate (h : ctx.body.entry = some .immediate) :
    e.leaveStay c ctx = (((e.endStay c ctx).setState c .running .none).becomePlaying c).runExpiry c ctx := by
  unfold Ev.leaveStay
  rw [h]

end ByState

/-! ## The expiry of one playing channel (R67, R68, R75) -/

section Playing

variable {s u : State} {g : GenIx} {c : Chan} {ctx : StepContext} {q b : Channel} {raw : Int} {pool : Pool}
  {obtained missed fed entered : Bool} {before : List Record}

/-- The expiry event of a channel that enters or goes on in RUNNING, its expiry counted and the records `before` raised. -/
def State.entering (u : State) (c : Chan) (q : Channel) (before : List Record) (entered : Bool) : Ev :=
  (Ev.of u true).act c (countedChannel q) u.port before entered

theorem State.counted_act (u : State) (c : Chan) (ch : Channel) (p : Port) (rs : List Record) (a : Bool) :
    (Ev.of (u.counted c) true).act c ch p rs a = (Ev.of u true).act c ch p rs a := by
  simp [Ev.act, Ev.of, State.counted]

theorem State.counted_chan (u : State) (c : Chan) : (Ev.of (u.counted c) true).chan c = countedChannel (u.chans[c.val]'c.isLt) :=
  State.put_chan ..

/-- An expiry of a channel that plays (R66). -/
theorem channelExpiry_plays (h : (u.chans[c.val]'c.isLt).plays ctx) :
    (Ev.of (u.counted c) true).channelExpiry c = ((u.entering c (u.chans[c.val]'c.isLt) [] false).runExpiry c ctx).coded c := by
  obtain ⟨hs, hstep⟩ := h
  have hsame : u.entering c (u.chans[c.val]'c.isLt) [] false = Ev.of (u.counted c) true := by
    rw [State.entering, ← State.counted_act, ← State.counted_chan]
    exact Ev.act_self ..
  rw [hsame]
  refine Ev.channelExpiry_running ?_ ?_
  · rw [State.counted_chan]
    exact hs
  · rw [State.counted_chan]
    exact hstep

theorem Ev.endStay_frontier {e : Ev} (hs : (e.chan c).play.state = .frontier) :
    e.endStay c ctx = (e.addChanRecord c .frontierLeft ctx.slot (e.chan c).play.episode 0).modPlay c fun p => { p with episode := 0 } := by
  unfold Ev.endStay
  dsimp only
  rw [hs]

theorem Ev.endStay_late {e : Ev} (hs : (e.chan c).play.state = .waiting) (hw : (e.chan c).play.wait = .data true) :
    e.endStay c ctx = ((e.starved c ctx.slot 1).modPlay c fun p => { p with wait := .data false }).modPlay c fun p =>
      { p with episode := 0 } := by
  unfold Ev.endStay
  dsimp only
  rw [hs, hw]

theorem Ev.endStay_early {e : Ev} (hs : (e.chan c).play.state = .waiting) (hw : (e.chan c).play.wait = .data false) :
    e.endStay c ctx = e.modPlay c fun p => { p with episode := 0 } := by
  unfold Ev.endStay
  dsimp only
  rw [hs, hw]

/-- The record that ends a stay, and the channel with the stay's count spent (R75 to R77). -/
theorem Ev.endStay_act {e : Ev} {ch ended : Channel} (he : e.st.chans[c.val]'c.isLt = countedChannel ch)
    (h : ch.endsStay c ctx ended before) :
    ∃ w, (ended.play.state = .waiting → w = .data false)
      ∧ e.endStay c ctx = e.act c { countedChannel ended with play := { (countedChannel ended).play with wait := w } } e.st.port
        before false := by
  obtain ⟨-, -, hends⟩ := h
  have hchan : e.chan c = countedChannel ch := he
  rcases hends with ⟨hs, rfl, rfl⟩ | ⟨hs, hw, rfl, rfl⟩ | ⟨hs, hw, rfl, rfl⟩
  · refine ⟨ch.play.wait, fun hw => by (cases hs.symm.trans hw), ?_⟩
    rw [Ev.endStay_frontier (by rw [hchan]; exact hs), hchan]
    simp [he, countedChannel]
  · refine ⟨.data false, fun _ => rfl, ?_⟩
    rw [Ev.endStay_late (by rw [hchan]; exact hs) (by rw [hchan]; exact hw)]
    simp [he, countedChannel, Ev.starved_act, starvedChannel]
  · refine ⟨ch.play.wait, fun _ => hw, ?_⟩
    rw [Ev.endStay_early (by rw [hchan]; exact hs) (by rw [hchan]; exact hw)]
    simp [he, countedChannel]

/-- An expiry that ends a stay for a step with Entry IMMEDIATE (R75). -/
theorem channelExpiry_enters {ended : Channel} (h : (u.chans[c.val]'c.isLt).endsStay c ctx ended before)
    (hentry : ctx.body.entry = some .immediate) :
    (Ev.of (u.counted c) true).channelExpiry c = ((u.entering c (enteredChannel ended) before true).runExpiry c ctx).coded c := by
  obtain ⟨w, -, hend⟩ := Ev.endStay_act (e := Ev.of (u.counted c) true) (State.counted_chan u c) h
  have hstate : ended.play.state ≠ .running := by
    obtain ⟨-, -, ⟨hs, rfl, -⟩ | ⟨hs, -, rfl, -⟩ | ⟨hs, -, rfl, -⟩⟩ := h
    · show (u.chans[c.val]'c.isLt).play.state ≠ .running
      rw [hs]
      decide
    · show (u.chans[c.val]'c.isLt).play.state ≠ .running
      rw [hs]
      decide
    · show (u.chans[c.val]'c.isLt).play.state ≠ .running
      rw [hs]
      decide
  have henter : (((Ev.of (u.counted c) true).endStay c ctx).setState c .running .none).becomePlaying c
      = u.entering c (enteredChannel ended) before true := by
    have hport : (u.counted c).port = u.port := rfl
    rw [hend, State.entering]
    simp [Ev.becomePlaying, enteredChannel, countedChannel, hstate, hport, State.counted_act]
  obtain ⟨hstep, hdata, hends⟩ := h
  have hlook : (Ev.of (u.counted c) true).lookExpiry c = (u.entering c (enteredChannel ended) before true).runExpiry c ctx := by
    rw [Ev.lookExpiry_leaves (ctx := ctx) (by rw [State.counted_chan]; exact hstep) (by rw [State.counted_chan]; exact hdata),
      Ev.leaveStay_immediate hentry, henter]
  rw [← hlook]
  rcases hends with ⟨hs, -⟩ | ⟨hs, hw, -⟩ | ⟨hs, hw, -⟩
  · exact Ev.channelExpiry_frontier (by rw [State.counted_chan]; exact hs)
  · exact Ev.channelExpiry_data (by rw [State.counted_chan]; exact hs) (by rw [State.counted_chan]; exact hw)
  · exact Ev.channelExpiry_data (by rw [State.counted_chan]; exact hs) (by rw [State.counted_chan]; exact hw)

end Playing

end Sys2Proof.Machine

namespace Sys2Proof.Machine

section Running

variable {s u : State} {g : GenIx} {c : Chan} {ctx : StepContext} {q b : Channel} {raw : Int} {pool : Pool}
  {obtained missed fed entered : Bool} {before : List Record}

theorem startedChannel_state (q : Channel) (ctx : StepContext) : (startedChannel q ctx).play.state = q.play.state := by
  unfold startedChannel
  dsimp only
  split
  · rfl
  · split <;> rfl

theorem State.entering_chan (u : State) (c : Chan) (q : Channel) (before : List Record) (entered : Bool) :
    (u.entering c q before entered).st.chans[c.val]'c.isLt = countedChannel q := State.put_chan ..

theorem State.entering_withSample (u : State) (c : Chan) (q b : Channel) (before : List Record) (entered : Bool) :
    (u.entering c q before entered).st.withSample c b raw pool missed fed = u.withSample c b raw pool missed fed := by
  simp [State.entering, State.withSample]

theorem State.entering_playedAt (u : State) (c : Chan) (q b : Channel) (before : List Record) (entered : Bool)
    (position : Nat × Nat × Nat) : (u.entering c q before entered).st.playedAt c b ctx raw pool obtained missed fed position
      = u.playedAt c b ctx raw pool obtained missed fed position := by
  rw [State.playedAt, State.entering_withSample]
  rfl

/-- The sample of an expiry of a channel that no other mirrors. -/
theorem State.entering_played (hu : u.unmirrored c) (hq : q.play.state = .running) (position : Nat × Nat × Nat) :
    (u.entering c q before entered).played c b ctx raw pool obtained missed fed position
      = (Ev.of u true).act c ((u.playedAt c b ctx raw pool obtained missed fed position).withCode b.level.expiryCode)
        (u.withSample c b raw pool missed fed).port (before ++ playingRecords c b ctx obtained) entered := by
  have hmirrors : (u.entering c q before entered).st.unmirrored c := by
    refine State.put_unmirrored hu ?_
    show q.play.state ≠ .mirroring
    rw [hq]
    decide
  unfold Ev.played
  dsimp only
  rw [Ev.moved_none _ hmirrors, State.entering_withSample, State.entering_playedAt, State.entering, Ev.act_act, Bool.or_false]

theorem mem_maskOf {c d : Chan} (h : d ∈ members (0 ||| maskOf c)) : d = c := by
  revert h
  exact (by decide : ∀ c d : Chan, d ∈ members (0 ||| maskOf c) → d = c) c d

/-- Where no channel follows `c` before an expiry that acts on it alone, none does at its end. -/
theorem Ev.follows_alone {e : Ev} {ch : Channel} {p : Port} (hst : e.st = u.put c ch p)
    (h : ∀ d : Chan, (u.chans[d]'d.isLt).follows d c = false) : ∀ f : Chan, (e.finish.chans[f]'f.isLt).follows f c = false := by
  intro f
  by_cases hf : c = f
  · subst hf
    exact Channel.follows_self _ _
  · have hchan : (e.finish.chans[f]'f.isLt).play = (u.chans[f]'f.isLt).play := by
      rw [Fin.getElem_fin, Ev.finish_chan, hst, State.put_other _ _ _ hf]
      rfl
    unfold Channel.follows
    rw [hchan]
    exact h f

/-- The last bits of an expiry of a channel that no other follows where it makes a step start or is lost. -/
theorem Ev.expiryEnd_sole {e : Ev} {ch : Channel} {p : Port} (hst : e.st = u.put c ch p)
    (hs : e.starts = 0 ∨ e.starts = 0 ||| maskOf c ∧ ∀ d : Chan, (u.chans[d]'d.isLt).follows d c = false)
    (hl : e.lost = 0 ∨ e.lost = 0 ||| maskOf c ∧ ∀ d : Chan, (u.chans[d]'d.isLt).follows d c = false) : e.expiryEnd = e.finish := by
  have hmask : ∀ m : BitVec 8, (m = 0 ∨ m = 0 ||| maskOf c ∧ ∀ d : Chan, (u.chans[d]'d.isLt).follows d c = false) →
      ∀ d ∈ members m, ∀ f : Chan, (e.finish.chans[f]'f.isLt).follows f d = false := by
    rintro m (rfl | ⟨rfl, hf⟩) d hd
    · exact absurd hd ((by decide : ∀ d : Chan, d ∉ members 0) d)
    · rw [mem_maskOf hd]
      exact Ev.follows_alone hst hf
  exact Ev.expiryEnd_alone (hmask _ hs) (hmask _ hl)

/-- An expiry that outputs a sample of a step with more to play (R67, R68). -/
theorem running_next (hu : u.unmirrored c) (hq : q.play.state = .running) (hb : b = startedChannel q ctx)
    (hf : q.play.stepExpiries = 0 → ∀ d : Chan, (u.chans[d]'d.isLt).follows d c = false) (hw : b.play.offset < ctx.wEff)
    (ho : b.obtains ctx raw pool obtained missed fed) {position : Nat × Nat × Nat} (hn : nextPosition b.play ctx = some position)
    {t : State} (ht : t = u.afterAction c (playedChannel b ctx raw pool obtained missed position) fed
      (before ++ playingRecords c b ctx obtained)) :
    (((u.entering c q before entered).runExpiry c ctx).coded c).expiryEnd = if entered then t.writeStatusBlock c else t := by
  obtain ⟨starts, hmask, hnext, -⟩ := Ev.runExpiry_cases (e := u.entering c q before entered) (State.entering_chan ..) hb
    (by rw [hb, startedChannel_state]; exact hq) hw ho
  have hstarts : starts = 0 ∨ q.play.stepExpiries = 0 ∧ starts = 0 ||| maskOf c := hmask ▸ q.startMask_cases c
  have hplayed : (u.playedAt c b ctx raw pool obtained missed fed position).withCode
      (u.playedAt c b ctx raw pool obtained missed fed position).level.lane
      = u.playedAt c b ctx raw pool obtained missed fed position := by
    rw [Channel.withCode]
    rfl
  have hact : ((u.entering c q before entered).runExpiry c ctx).coded c = { (Ev.of u true).act c
      (u.playedAt c b ctx raw pool obtained missed fed position) (u.withSample c b raw pool missed fed).port
      (before ++ playingRecords c b ctx obtained) entered with starts := starts } := by
    rw [hnext position hn, State.entering_played hu hq]
    refine congrArg (fun e : Ev => { e with starts := starts }) (Eq.trans (Ev.coded_act _) ?_)
    refine congrArg (fun ch => Ev.act _ c ch _ _ _) ?_
    exact hplayed
  rw [hact, Ev.expiryEnd_sole (u := u) (c := c) rfl (hstarts.imp id fun h => ⟨h.2, hf h.1⟩) (Or.inl rfl)]
  refine Eq.trans (Ev.finish_act (Ev.of u true) c _ _ _ _ rfl rfl) ?_
  have hput : (Ev.of u true).st.put c (u.playedAt c b ctx raw pool obtained missed fed position)
      (u.withSample c b raw pool missed fed).port = _ := State.playedAt_put u position
  rw [hput, ht]
  rfl

/-- The state in which the last sample is out is the played channel in place, its shares as the data feeder left them. -/
theorem State.lastSample_put (u : State) : u.lastSample c ctx b raw pool obtained missed fed
    = u.put c (u.playedAt c b ctx raw pool obtained missed fed (b.play.pass, lastPosition b.play ctx))
      (u.withSample c b raw pool missed fed).port := (State.playedAt_put u _).symm

theorem State.withSample_idleEmpty (h : u.port.idleEmpty) : (u.withSample c b raw pool missed fed).port.idleEmpty := by
  unfold State.withSample
  dsimp only
  split
  · exact State.feed_idleEmpty (s := u.put c _ _) h
  · exact h

/-- An expiry that outputs the last sample of a step ends at its boundary (R68, R70). -/
theorem running_last (hu : u.unmirrored c) (hq : q.play.state = .running) (hb : b = startedChannel q ctx)
    (hf : q.play.stepExpiries = 0 → ∀ d : Chan, (u.chans[d]'d.isLt).follows d c = false) (hw : b.play.offset < ctx.wEff)
    (ho : b.obtains ctx raw pool obtained missed fed) (hn : nextPosition b.play ctx = none) (hport : u.port.idleEmpty)
    {last r : State} {placed : Option (StepContext × BankId)} {went : Channel} {records : List Record}
    (hlast : last = u.lastSample c ctx b raw pool obtained missed fed) (hlets : (last.chans[c.val]'c.isLt).letsIn ctx placed)
    (hr : r = last.retires c ctx (lastPosition b.play ctx).1 placed) (hwent : (r.chans[c.val]'c.isLt).leavesBoundary c ctx went records)
    (hg : went.play.state.counts = true ∨ ∀ d : Chan, (u.chans[d]'d.isLt).follows d c = false) :
    (((u.entering c q before entered).runExpiry c ctx).coded c).expiryEnd = r.leftBoundary c (went.withCode went.level.lane)
      (before ++ playingRecords c b ctx obtained ++ (last.chans[c.val]'c.isLt).endRecords c ctx ++ records) := by
  have hs : b.play.state = .running := by rw [hb, startedChannel_state]; exact hq
  obtain ⟨starts, hmask, -, hover⟩ := Ev.runExpiry_cases (e := u.entering c q before entered) (State.entering_chan ..) hb hs hw ho
  have hstarts : starts = 0 ∨ q.play.stepExpiries = 0 ∧ starts = 0 ||| maskOf c := hmask ▸ q.startMask_cases c
  rw [State.lastSample_put] at hlast
  obtain ⟨P, hP⟩ : ∃ P, P = u.playedAt c b ctx raw pool obtained missed fed (b.play.pass, lastPosition b.play ctx) := ⟨_, rfl⟩
  obtain ⟨w, hw'⟩ : ∃ w, w = (u.withSample c b raw pool missed fed).port := ⟨_, rfl⟩
  rw [← hP, ← hw'] at hlast
  have hlastchan : last.chans[c.val]'c.isLt = P := by rw [hlast, State.put_chan]
  have hidle : last.port.idleEmpty := by
    rw [hlast, hw']
    exact State.withSample_idleEmpty hport
  have hoffset : (last.chans[c.val]'c.isLt).play.offset = (lastPosition b.play ctx).1 := by
    rw [hlastchan, hP]
    rfl
  have hretired : last.retiredBy c ctx = r := by rw [hr, ← hoffset, State.retiredBy_eq hidle hlets]
  have hPstate : P.play.state = .running := by
    rw [hP]
    obtain ⟨-, -, -, -, hstate⟩ := playedChannel_play b ctx raw pool obtained missed (b.play.pass, lastPosition b.play ctx)
    exact hstate.trans hs
  -- the event in which the sample is out
  obtain ⟨e2, he2⟩ : ∃ e2, e2 = { (Ev.of u true).act c (P.withCode b.level.expiryCode) w (before ++ playingRecords c b ctx obtained)
      entered with starts := starts } := ⟨_, rfl⟩
  have hst : e2.st = last.withCode c b.level.expiryCode := by
    rw [he2, hlast]
    simp [State.withCode]
  have hrun : (u.entering c q before entered).runExpiry c ctx = e2.boundary c ctx := by
    rw [hover hn, State.entering_played hu hq, he2, hP, hw']
  have hmirrors : e2.st.unmirrored c := by
    rw [he2]
    refine State.put_unmirrored hu ?_
    show P.play.state ≠ .mirroring
    rw [hPstate]
    decide
  have hboundary : ((e2.st.retiredBy c ctx).chans[c.val]'c.isLt).leaves c ctx = (went.withCode b.level.expiryCode, records) := by
    have hslot : (r.chans[c.val]'c.isLt).play.lastRetired = some ctx.slot := by
      rw [← hretired, State.retiredBy_chan]
      rfl
    rw [hst, State.retiredBy_withCode, hretired, State.withCode_chan, Channel.leaves_withCode, hwent.eq_leaves hslot]
    rfl
  have hother : ∀ d : Chan, (∀ d : Chan, (u.chans[d]'d.isLt).follows d c = false) → (e2.st.chans[d]'d.isLt).follows d c = false := by
    intro d hf
    by_cases hd : c = d
    · subst hd
      exact Channel.follows_self _ _
    · rw [he2, Fin.getElem_fin]
      refine Eq.trans (congrArg (fun ch : Channel => ch.follows d c) (State.put_other _ _ _ hd)) (hf d)
  obtain ⟨lost, hfinal, hlost⟩ := Ev.boundary_alone (e := e2) (by rw [hst, State.withCode_chan, hlastchan]; exact hPstate) hmirrors
    hboundary (hg.imp id fun hg d => hother d hg)
  have hports : (e2.st.retiredBy c ctx).port = r.port := by
    rw [hst, State.retiredBy_withCode, hretired]
    rfl
  have hend : (e2.st.chans[c.val]'c.isLt).endRecords c ctx = (last.chans[c.val]'c.isLt).endRecords c ctx := by
    rw [hst, State.withCode_chan]
    rfl
  obtain ⟨p, hp⟩ : ∃ p, p = if went.play.state.counts then r.port else r.port.purgedOf c := ⟨_, rfl⟩
  have hcounts : (went.withCode b.level.expiryCode).play.state.counts = went.play.state.counts := rfl
  rw [hports, hend, hcounts, ← hp] at hfinal
  have hact : ((u.entering c q before entered).runExpiry c ctx).coded c = { (Ev.of u true).act c (went.withCode went.level.lane) p
      (before ++ playingRecords c b ctx obtained ++ ((last.chans[c.val]'c.isLt).endRecords c ctx ++ records)) true
      with starts := starts, lost := lost } := by
    rw [hrun, hfinal, he2]
    refine congrArg (fun e : Ev => { e with starts := starts, lost := lost }) (Eq.trans (congrArg (Ev.coded · c) (Ev.act_act ..)) ?_)
    rw [Ev.coded_act, Bool.or_true]
    rfl
  have hlost0 : lost = 0 ∨ lost = 0 ||| maskOf c ∧ ∀ d : Chan, (u.chans[d]'d.isLt).follows d c = false := by
    rw [he2] at hlost
    exact hlost.imp id fun h => ⟨h.2, hg.resolve_left (by rw [← hcounts, h.1]; decide)⟩
  rw [hact, Ev.expiryEnd_sole (u := u) (c := c) rfl (hstarts.imp id fun h => ⟨h.2, hf h.1⟩) hlost0]
  refine Eq.trans (Ev.finish_act (Ev.of u true) c _ _ _ _ rfl rfl) ?_
  have hput : (Ev.of u true).st.put c (went.withCode went.level.lane) p = r.put c (went.withCode went.level.lane) p := by
    rw [← hretired, State.retiredBy_eq_put, State.put_put, hlast, State.put_put]
    rfl
  rw [if_pos rfl, hput, hp, List.append_assoc _ _ records]
  rfl

theorem State.polled_idleEmpty (h : s.port.idleEmpty) : (s.polled c).port.idleEmpty := by
  by_cases hp : (s.chans[c.val]'c.isLt).fetch.reader = .atFrontier ∧ (s.settings c).frontierPoll ≠ 0
  · by_cases hr : s.pollReaches c
    · rw [State.polled_reads hp hr]
      exact Port.after_idleEmpty _ _ h
    · rw [State.polled_counts hp hr]
      exact h
  · rwa [State.polled_off hp]

/-- What the count and the poll of an expiry leave as it was (R38, R115). -/
theorem State.polled_spares (hu : u = { s.polled c with gens := s.gens.set g (reloaded s.gens[g]) }) :
    (u.chans[c.val]'c.isLt).play = (s.chans[c.val]'c.isLt).play ∧ (u.chans[c.val]'c.isLt).headStep = (s.chans[c.val]'c.isLt).headStep
      ∧ (s.port.idleEmpty → u.port.idleEmpty) ∧ (s.unmirrored c → (s.chans[c.val]'c.isLt).play.state ≠ .mirroring → u.unmirrored c)
      ∧ ((∀ d : Chan, (s.chans[d]'d.isLt).follows d c = false) → ∀ d : Chan, (u.chans[d]'d.isLt).follows d c = false) := by
  obtain ⟨poll, reader, p, hpolled⟩ := s.polled_put c
  have hchans : u.chans = (s.polled c).chans := by rw [hu]
  refine ⟨?_, ?_, fun h => ?_, fun h hm => ?_, fun h d => ?_⟩
  · rw [hchans, hpolled, State.put_chan]
  · rw [hchans, hpolled, State.put_chan]
    rfl
  · rw [hu]
    exact State.polled_idleEmpty h
  · have := State.put_unmirrored (ch := { s.chans[c.val]'c.isLt with fetch := { (s.chans[c.val]'c.isLt).fetch with poll := poll, reader := reader } })
      (p := p) h hm
    rw [← hpolled] at this
    rw [hu]
    exact this
  · by_cases hd : c = d
    · subst hd
      exact Channel.follows_self _ _
    · rw [Fin.getElem_fin, hchans, hpolled, State.put_other _ _ _ hd]
      exact h d

theorem State.launchDue_unarmed (h : (s.chans[c.val]'c.isLt).play.state ≠ .armed) : s.launchDue c = false := by
  have hnone : (s.chans[c]'c.isLt).armedLeader c = none := by
    refine Option.eq_none_iff_forall_ne_some.2 fun m hm => h ?_
    exact ((Channel.armedLeader_iff _ _ _).1 hm).1
  unfold State.launchDue
  rw [hnone]

theorem Channel.endsStay_state {ch ended : Channel} (h : ch.endsStay c ctx ended before) :
    ch.play.state.counts = true ∧ ch.play.state ≠ .armed ∧ ch.play.state ≠ .mirroring := by
  obtain ⟨-, -, ⟨hs, -⟩ | ⟨hs, -⟩ | ⟨hs, -⟩⟩ := h <;> rw [hs] <;> decide

/-- The channel counts the expiry and goes on with the event of its entry into RUNNING (R66, R75). -/
theorem exec_expiry_entering (hsole : s.soleOn g c) (hport : (s.chans[c]'c.isLt).fetch.reader ≠ .atFrontier ∨ s.port.idleEmpty)
    (hu : u = { s.polled c with gens := s.gens.set g (reloaded s.gens[g]) })
    (h : (s.chans[c]'c.isLt).plays ctx ∧ q = u.chans[c]'c.isLt ∧ before = [] ∧ entered = false
      ∨ (∃ ended : Channel, (u.chans[c]'c.isLt).endsStay c ctx ended before ∧ q = enteredChannel ended)
          ∧ ctx.body.entry = some .immediate ∧ entered = true) :
    exec (.expiry g) s = .next (((u.entering c q before entered).runExpiry c ctx).coded c).expiryEnd
      ∧ q.play.state = .running ∧ (s.chans[c.val]'c.isLt).play.state ≠ .mirroring := by
  obtain ⟨hplay, hhead, -⟩ := State.polled_spares hu
  have hcounted : ((u.counted c).chans[c.val]'c.isLt).play.state = (s.chans[c.val]'c.isLt).play.state := by
    rw [State.counted, State.put_chan, ← hplay]
    rfl
  rcases h with ⟨⟨hs, hstep⟩, rfl, rfl, rfl⟩ | ⟨⟨ended, hends, rfl⟩, hentry, rfl⟩
  · rw [Fin.getElem_fin] at hs hstep
    have hplays : (u.chans[c.val]'c.isLt).plays ctx := ⟨by rw [hplay]; exact hs, by rw [hhead]; exact hstep⟩
    refine ⟨?_, hplays.1, by rw [hs]; decide⟩
    rw [exec_expiry_sole hsole (by rw [Fin.getElem_fin, hs]; rfl) hport hu
      (State.launchDue_unarmed (by rw [hcounted, hs]; decide)), channelExpiry_plays hplays]
    rfl
  · obtain ⟨hcounts, harmed, hmirror⟩ := Channel.endsStay_state hends
    rw [Fin.getElem_fin, hplay] at hcounts harmed hmirror
    refine ⟨?_, rfl, hmirror⟩
    rw [exec_expiry_sole hsole hcounts hport hu (State.launchDue_unarmed (by rw [hcounted]; exact harmed)),
      channelExpiry_enters hends hentry]

end Running

/-- Settles O39: the expiry is one event, which enters or goes on in RUNNING, outputs its sample, and goes on or ends at the boundary. -/
theorem runningExpiryOutputsTheNextSample : Obligations.RunningExpiryOutputsTheNextSample := by
  intro g c s u ctx q b raw pool obtained missed fed entered before hsole hmirrors hreader hu hcase hfollow hb hw ho
  obtain ⟨-, -, hidle, hmirror, hfollows⟩ := State.polled_spares hu
  obtain ⟨hexec, hq, hstate⟩ := exec_expiry_entering hsole hreader hu hcase
  have hunmirrored := hmirror hmirrors hstate
  have hfirst : q.play.stepExpiries = 0 → ∀ d : Chan, (u.chans[d]'d.isLt).follows d c = false := fun h => hfollows (hfollow h)
  refine ⟨fun position t hn ht => ?_, fun last r placed went records hn hport hlast hlets hr hwent hg => ?_⟩
  · rw [hexec, running_next hunmirrored hq hb hfirst hw ho hn ht]
  · rw [hexec, running_last hunmirrored hq hb hfirst hw ho hn (hidle hport) hlast hlets hr hwent (hg.imp id hfollows)]
    rfl

end Sys2Proof.Machine

namespace Sys2Proof.Machine

/-! ## The expiry of one channel that waits or rests (R72, R75, R102) -/

section Rest

variable {s u : State} {g : GenIx} {c : Chan} {ctx : StepContext} {before : List Record}

/-- A channel whose lane shows the wait level, its expiry code standing as yet (R103). -/
def waitShown (ch : Channel) (waitIdle : Bool) : Channel :=
  { ch with level := { ch.level with
      lane := if waitIdle then ch.level.idle else ch.level.expiryCode
      idleDue := false
      markers := bothMarkers (·.present false) ch.level.markers } }

theorem waitShown_coded (ch : Channel) (waitIdle : Bool) : (waitShown ch waitIdle).withCode (waitShown ch waitIdle).level.lane
    = restingChannel ch (if waitIdle then ch.level.idle else ch.level.expiryCode) := rfl

theorem Channel.atIdle_coded (ch : Channel) : ch.atIdle.withCode ch.atIdle.level.lane = restingChannel ch ch.level.idle := rfl

/-- A channel shows its wait level, its mirrors following (R103, R105). -/
theorem State.showWait_put (waitIdle : Bool) (h : (s.chans[c.val]'c.isLt).play.state ≠ .mirroring) : ∃ g, s.showWait c waitIdle
    = (s.mirrorsMoved c g).put c (waitShown (s.chans[c.val]'c.isLt) waitIdle) s.port := by
  have hstate : (waitShown (s.chans[c.val]'c.isLt) waitIdle).play.state ≠ .mirroring := h
  have hfirst : State.presentMarkers (s.modLevel c fun l =>
      { l with lane := if waitIdle then l.idle else l.expiryCode, idleDue := false }) c false
      = s.put c (waitShown (s.chans[c.val]'c.isLt) waitIdle) s.port := by
    simp [State.presentMarkers, waitShown]
  have hlines : ∀ (t : State) (m : Chan), m ≠ c → t.mirrorMarkers c m = t.put m (mirrorLines (t.chans[m.val]'m.isLt) (t.chans[c.val]'c.isLt)) t.port := by
    intro t m hm
    simp [State.mirrorMarkers, mirrorLines]
  unfold State.showWait
  dsimp only
  rw [hfirst]
  cases waitIdle with
  | true =>
    rw [State.foldl_mirrors (k := mirrorAtIdle) _ c (fun t m hm => (if_pos rfl).trans (State.mirrorIdle_put hm))
      (by rw [State.put_chan]; exact hstate), State.put_mirrorsMoved _ _ _ _ _ hstate]
    exact ⟨_, by rw [State.put_chan]⟩
  | false =>
    rw [State.foldl_mirrors (k := mirrorLines) _ c (fun t m hm => (if_neg (by decide)).trans (hlines t m hm))
      (by rw [State.put_chan]; exact hstate), State.put_mirrorsMoved _ _ _ _ _ hstate]
    exact ⟨_, by rw [State.put_chan]⟩

theorem Ev.showWait_act (e : Ev) {ch : Channel} {p : Port} {rs : List Record} {a : Bool} (waitIdle : Bool)
    (h : ch.play.state ≠ .mirroring) :
    ∃ g, (e.act c ch p rs a).mod (·.showWait c waitIdle) = (e.moved c g).act c (waitShown ch waitIdle) p rs a := by
  obtain ⟨g, hst⟩ := State.showWait_put (s := e.st.put c ch p) (c := c) waitIdle (by rwa [State.put_chan])
  refine ⟨g, ?_⟩
  rw [State.put_chan, State.put_mirrorsMoved _ _ _ _ _ h, State.put_put, State.put_port] at hst
  simp only [Ev.mod, Ev.act_st, hst]
  rfl

/-- A waiting channel whose expiry is counted in its wait and has shown the wait level (R72, R103). -/
def waitedChannel (ch : Channel) (ctx : StepContext) : Channel :=
  waitShown { ch with play := { ch.play with waitCount := wrap32 (ch.play.waitCount + 1) } } ctx.body.waitIdle

/-- An expiry of a trigger or leader wait: the wait level is shown and the expiry counted in the wait, which then times out or goes
on (R72). -/
theorem Ev.waitExpiry_eq (e : Ev) (ctx : StepContext) (hm : (e.st.chans[c.val]'c.isLt).play.state ≠ .mirroring) :
    ∃ g e', e' = (e.moved c g).act c (waitedChannel (e.st.chans[c.val]'c.isLt) ctx) e.st.port [] false
      ∧ e.waitExpiry c ctx = if (waitedChannel (e.st.chans[c.val]'c.isLt) ctx).play.timeoutDue ctx then e'.timeOut c ctx
        else { e' with counted := if (e.st.chans[c.val]'c.isLt).play.wait = .leader then e.counted ||| maskOf c else e.counted } := by
  obtain ⟨g, hg⟩ := Ev.showWait_act (c := c) (p := e.st.port) (rs := []) (a := false) e ctx.body.waitIdle hm
  rw [Ev.act_self] at hg
  refine ⟨g, _, rfl, ?_⟩
  have hshown : (e.mod (·.showWait c ctx.body.waitIdle)).modPlay c (fun p => { p with waitCount := wrap32 (p.waitCount + 1) })
      = (e.moved c g).act c (waitedChannel (e.st.chans[c.val]'c.isLt) ctx) e.st.port [] false := by
    rw [hg, Ev.modPlay_act, Ev.act_act, Ev.act_st, State.put_chan]
    rfl
  have hplay : (((e.moved c g).act c (waitedChannel (e.st.chans[c.val]'c.isLt) ctx) e.st.port [] false).chan c).play
      = (waitedChannel (e.st.chans[c.val]'c.isLt) ctx).play := congrArg Channel.play (State.put_chan ..)
  unfold Ev.waitExpiry
  rw [hshown]
  dsimp only
  rw [hplay]
  refine if_congr Iff.rfl rfl ?_
  have hwait : (waitedChannel (e.st.chans[c.val]'c.isLt) ctx).play.wait = (e.st.chans[c.val]'c.isLt).play.wait := rfl
  rw [hwait]
  by_cases h : (e.st.chans[c.val]'c.isLt).play.wait = .leader
  · rw [if_pos h, if_pos h]
    rfl
  · rw [if_neg h, if_neg h]
    rfl

end Rest

end Sys2Proof.Machine

namespace Sys2Proof.Machine

/-! ## The timeout within an expiry (R72, R74) -/

section Timeouts

variable {s u : State} {c : Chan} {ctx : StepContext}

/-- A waiting channel whose step has timed out: it stops under a pending DRAIN, and else waits for the branch's data (R74, R86). -/
def timedOutChannel (ch : Channel) (ctx : StepContext) : Channel :=
  if ch.play.pendingStop = .drain then (stoppedChannel (timedOut ch ctx) .drain).turned true else branchedChannel ch ctx

/-- The port after a timeout (R35, R74, R160). -/
def State.timeoutPort (s : State) (c : Chan) (ctx : StepContext) : Port :=
  let read := (s.branching c ctx).raisedPort (s.branchRead c ctx)
  if (s.chans[c.val]'c.isLt).play.pendingStop = .drain then read.purgedOf c else read

/-- The records of a timeout (R74, R88). -/
def timeoutRecords (c : Chan) (ch : Channel) (ctx : StepContext) : List Record :=
  chanRecord c .waitTimeout ch.play.sampleCount ctx.slot ctx.body.branchTarget 0
    :: if ch.play.pendingStop = .drain then [stopRecord c (timedOut ch ctx) .drain] else []

/-- The timeout of a channel that no other mirrors, nor follows where it stops (R74). -/
theorem Ev.timeOut_alone (e : Ev) (hwait : (e.st.chans[c.val]'c.isLt).play.inEntryWait = true) (hm : e.st.unmirrored c)
    (hf : (e.st.chans[c.val]'c.isLt).play.pendingStop = .drain → ∀ d : Chan, (e.st.chans[d]'d.isLt).follows d c = false) :
    ∃ lost, e.timeOut c ctx = { e.act c (timedOutChannel (e.st.chans[c.val]'c.isLt) ctx) (e.st.timeoutPort c ctx)
        (timeoutRecords c (e.st.chans[c.val]'c.isLt) ctx) true with lost := lost }
      ∧ (lost = e.lost ∨ (e.st.chans[c.val]'c.isLt).play.pendingStop = .drain ∧ lost = e.lost ||| maskOf c) := by
  unfold timedOutChannel State.timeoutPort timeoutRecords
  by_cases hpending : (e.st.chans[c.val]'c.isLt).play.pendingStop = .drain
  · simp only [if_pos hpending]
    rw [Ev.timeOut_drains e hwait hpending]
    dsimp only
    rw [Ev.moved_none _ hm]
    refine Exists.imp (fun lost h => ⟨h.1, h.2.imp id fun h => ⟨hpending, h⟩⟩) (Ev.groupAfter_alone _ fun d => ?_)
    by_cases hd : c = d
    · subst hd
      exact Channel.follows_self _ _
    · exact Eq.trans (congrArg (fun ch : Channel => ch.follows d c) (State.put_other _ _ _ hd)) (hf hpending d)
  · simp only [if_neg hpending]
    exact ⟨e.lost, Ev.timeOut_branches e hpending, Or.inl rfl⟩

variable (code : Int)

theorem State.branching_withCode (s : State) : (s.withCode c code).branching c ctx = (s.branching c ctx).withCode c code := by
  unfold State.branching
  rw [State.retiredPort_withCode, State.withCode_chan]
  simp only [State.withCode, State.put_put, State.put_chan, State.put_port]
  rfl

theorem State.timeoutPort_withCode (s : State) : (s.withCode c code).timeoutPort c ctx = s.timeoutPort c ctx := by
  have hread : ((s.withCode c code).branching c ctx).raisedPort ((s.withCode c code).branchRead c ctx)
      = (s.branching c ctx).raisedPort (s.branchRead c ctx) := by
    have hsame : (s.withCode c code).branchRead c ctx = s.branchRead c ctx := by
      unfold State.branchRead
      rw [State.withCode_chan]
      rfl
    rw [hsame, State.branching_withCode]
    exact State.raisedPort_congr (s := (s.branching c ctx).withCode c code) (t := s.branching c ctx) rfl (State.withCode_alike _ _ _) _
  unfold State.timeoutPort
  rw [hread, State.withCode_chan]
  rfl

theorem timedOutChannel_withCode (ch : Channel) :
    timedOutChannel (ch.withCode code) ctx = (timedOutChannel ch ctx).withCode code := by
  have hpending : (ch.withCode code).play.pendingStop = ch.play.pendingStop := rfl
  unfold timedOutChannel
  rw [hpending]
  by_cases h : ch.play.pendingStop = .drain
  · rw [if_pos h, if_pos h]
    rfl
  · rw [if_neg h, if_neg h]
    rfl

theorem timedOutChannel_lane (ch : Channel) (ctx : StepContext) : (timedOutChannel ch ctx).level.lane = ch.level.lane := by
  unfold timedOutChannel
  split <;> rfl

/-- A timeout within an expiry that has shown the wait level, as it is taken from the state in which the expiry has counted: `w` is
that state (R72, R74). -/
theorem timeOut_end {ch : Channel} {before : List Record} {a : Bool} (hwait : ch.play.inEntryWait = true) (hm : u.unmirrored c)
    (hf : ch.play.pendingStop = .drain → ∀ d : Chan, (u.chans[d]'d.isLt).follows d c = false) {w : State}
    (hw : w = u.put c (ch.withCode ch.level.lane) u.port) :
    ((((Ev.of u true).act c ch u.port before a).timeOut c ctx).coded c).expiryEnd
      = State.writeStatusBlock (State.handOverAll (before ++ timeoutRecords c (w.chans[c.val]'c.isLt) ctx)
          (w.put c (timedOutChannel (w.chans[c.val]'c.isLt) ctx) (w.timeoutPort c ctx))) c := by
  obtain ⟨e, he⟩ : ∃ e, e = (Ev.of u true).act c ch u.port before a := ⟨_, rfl⟩
  have hst : e.st = u.put c ch u.port := by rw [he]; rfl
  have hchan : e.st.chans[c.val]'c.isLt = ch := by rw [hst, State.put_chan]
  have hwst : w = e.st.withCode c ch.level.lane := by
    rw [hw, State.withCode, hchan, hst, State.put_put, State.put_port]
  have hwchan : w.chans[c.val]'c.isLt = ch.withCode ch.level.lane := by rw [hw, State.put_chan]
  have hmirrors : e.st.unmirrored c := by
    rw [hst]
    refine State.put_unmirrored hm ?_
    rw [Play.inEntryWait_state hwait]
    decide
  obtain ⟨lost, hout, hlost⟩ := Ev.timeOut_alone (ctx := ctx) e (by rw [hchan]; exact hwait) hmirrors (by
    rw [hchan]
    intro hpending d
    by_cases hd : c = d
    · subst hd
      exact Channel.follows_self _ _
    · rw [hst, Fin.getElem_fin, State.put_other _ _ _ hd]
      exact hf hpending d)
  rw [hchan] at hout hlost
  have hcoded : (e.timeOut c ctx).coded c = { (Ev.of u true).act c (timedOutChannel (w.chans[c.val]'c.isLt) ctx) (w.timeoutPort c ctx)
      (before ++ timeoutRecords c (w.chans[c.val]'c.isLt) ctx) true with lost := lost } := by
    rw [hout]
    refine congrArg (fun e : Ev => { e with lost := lost }) (Eq.trans (Ev.coded_act _) ?_)
    rw [he, Ev.act_act, Bool.or_true, timedOutChannel_lane, hwchan, timedOutChannel_withCode, hwst, State.timeoutPort_withCode, he]
    rfl
  rw [← he, hcoded, Ev.expiryEnd_sole (u := u) (c := c) rfl (Or.inl rfl) ?lost]
  case lost =>
    rw [he] at hlost
    exact hlost.imp id fun h => ⟨h.2, hf h.1⟩
  refine Eq.trans (Ev.finish_act (Ev.of u true) c _ _ _ _ rfl rfl) ?_
  have hput : w.put c (timedOutChannel (w.chans[c.val]'c.isLt) ctx) (w.timeoutPort c ctx)
      = (Ev.of u true).st.put c (timedOutChannel (w.chans[c.val]'c.isLt) ctx) (w.timeoutPort c ctx) := by
    generalize timedOutChannel (w.chans[c.val]'c.isLt) ctx = x
    generalize w.timeoutPort c ctx = p
    rw [hw, State.put_put]
    rfl
  rw [if_pos rfl, hput]

/-- The same timeout, taken as a command of its own (R74). -/
theorem timeOut_alone_finish {w : State} {x a : Bool} {before : List Record} (hwait : (w.chans[c.val]'c.isLt).play.inEntryWait = true)
    (hm : w.unmirrored c) (hf : (w.chans[c.val]'c.isLt).play.pendingStop = .drain → ∀ d : Chan, (w.chans[d]'d.isLt).follows d c = false) :
    (((Ev.of w x).act c (w.chans[c.val]'c.isLt) w.port before a).timeOut c ctx).finish
      = State.writeStatusBlock (State.handOverAll (before ++ timeoutRecords c (w.chans[c.val]'c.isLt) ctx)
          (w.put c (timedOutChannel (w.chans[c.val]'c.isLt) ctx) (w.timeoutPort c ctx))) c := by
  have hst : ((Ev.of w x).act c (w.chans[c.val]'c.isLt) w.port before a).st = w := w.put_self c
  obtain ⟨lost, hout, -⟩ := Ev.timeOut_alone (ctx := ctx) ((Ev.of w x).act c (w.chans[c.val]'c.isLt) w.port before a)
    (by rw [hst]; exact hwait) (by rw [hst]; exact hm) (by rw [hst]; exact hf)
  rw [hout, hst, Ev.act_act, Bool.or_true]
  refine Eq.trans (Ev.finish_act (Ev.of w x) c _ _ _ _ rfl rfl) ?_
  rw [if_pos rfl]
  rfl

end Timeouts

end Sys2Proof.Machine

namespace Sys2Proof.Machine

/-! ## Waits, stays and rests of one channel (R72, R75, R102) -/

section Rests

variable {s u w : State} {g : GenIx} {c : Chan} {ctx : StepContext} {before : List Record} {a : Bool} {ch : Channel}

/-- A waiting channel whose expiry has been counted in its wait, showing its wait level (R72, R103). -/
def waitingOn (ch : Channel) (ctx : StepContext) : Channel :=
  restingChannel { ch with play := { ch.play with waitCount := wrap32 (ch.play.waitCount + 1) } }
    (if ctx.body.waitIdle then ch.level.idle else ch.level.expiryCode)

theorem Play.timeoutDue_iff (p : Play) (ctx : StepContext) :
    p.timeoutDue ctx = true ↔ ctx.decision = true ∧ p.waitCount = ctx.body.waitTimeout := by
  simp [Play.timeoutDue]

theorem Play.inEntryWait_ne_mirroring {p : Play} (h : p.inEntryWait = true) : p.state ≠ .mirroring := by
  rw [Play.inEntryWait_state h]
  decide

/-- The event that an expiry of a wait makes of a channel that no other mirrors. -/
theorem waitExpiry_sole (hm : u.unmirrored c) (hwait : ch.play.inEntryWait = true) :
    ∃ counted, ((Ev.of u true).act c ch u.port before a).waitExpiry c ctx =
      if (waitedChannel ch ctx).play.timeoutDue ctx
        then ((Ev.of u true).act c (waitedChannel ch ctx) u.port before a).timeOut c ctx
        else { (Ev.of u true).act c (waitedChannel ch ctx) u.port before a with counted := counted } := by
  have hchan : ((Ev.of u true).act c ch u.port before a).st.chans[c.val]'c.isLt = ch := State.put_chan ..
  obtain ⟨g, e', he', hwaits⟩ := Ev.waitExpiry_eq ((Ev.of u true).act c ch u.port before a) ctx
    (by rw [hchan]; exact Play.inEntryWait_ne_mirroring hwait)
  rw [Ev.moved_none g (State.put_unmirrored hm (Play.inEntryWait_ne_mirroring hwait)), hchan, Ev.act_act, List.append_nil,
    Bool.or_false] at he'
  rw [hchan, he'] at hwaits
  exact ⟨_, hwaits⟩

/-- An expiry of a wait that goes on (R72). -/
theorem waitExpiry_on (hm : u.unmirrored c) (hwait : ch.play.inEntryWait = true)
    (hn : ctx.decision = true → wrap32 (ch.play.waitCount + 1) ≠ ctx.body.waitTimeout) (hw : w = u.put c (waitingOn ch ctx) u.port) :
    ((((Ev.of u true).act c ch u.port before a).waitExpiry c ctx).coded c).expiryEnd
      = if a then (State.handOverAll before w).writeStatusBlock c else State.handOverAll before w := by
  obtain ⟨counted, hwaits⟩ := waitExpiry_sole (ctx := ctx) (before := before) (a := a) hm hwait
  rw [hwaits, if_neg fun h => hn ((Play.timeoutDue_iff _ _).1 h).1 ((Play.timeoutDue_iff _ _).1 h).2]
  have hcoded : Ev.coded { (Ev.of u true).act c (waitedChannel ch ctx) u.port before a with counted := counted } c
      = { (Ev.of u true).act c (waitingOn ch ctx) u.port before a with counted := counted } :=
    congrArg (fun e : Ev => { e with counted := counted }) (Ev.coded_act _)
  rw [hcoded, Ev.expiryEnd_sole (u := u) (c := c) rfl (Or.inl rfl) (Or.inl rfl), hw]
  exact Ev.finish_act (Ev.of u true) c _ _ _ _ rfl rfl

/-- An expiry of a wait that times out (R72, R74). -/
theorem waitExpiry_out (hm : u.unmirrored c) (hwait : ch.play.inEntryWait = true) (hd : ctx.decision = true)
    (hn : wrap32 (ch.play.waitCount + 1) = ctx.body.waitTimeout)
    (hf : ch.play.pendingStop = .drain → ∀ d : Chan, (u.chans[d]'d.isLt).follows d c = false) (hw : w = u.put c (waitingOn ch ctx) u.port) :
    ((((Ev.of u true).act c ch u.port before a).waitExpiry c ctx).coded c).expiryEnd
      = (((Ev.of w false).act c (w.chans[c.val]'c.isLt) w.port before true).timeOut c ctx).finish := by
  obtain ⟨counted, hwaits⟩ := waitExpiry_sole (ctx := ctx) (before := before) (a := a) hm hwait
  have hwchan : w.chans[c.val]'c.isLt = waitingOn ch ctx := by rw [hw, State.put_chan]
  rw [hwaits, if_pos ((Play.timeoutDue_iff _ _).2 ⟨hd, hn⟩), timeOut_end (ch := waitedChannel ch ctx) hwait hm hf hw,
    timeOut_alone_finish (by rw [hwchan]; exact hwait) (by
      rw [hw]
      exact State.put_unmirrored hm (Play.inEntryWait_ne_mirroring hwait)) fun hpending d => ?_]
  by_cases hd : c = d
  · subst hd
    exact Channel.follows_self _ _
  · rw [hw, Fin.getElem_fin, State.put_other _ _ _ hd]
    exact hf (by rw [hwchan] at hpending; exact hpending) d

/-- A timeout is the same within an expiry that asks for the status block itself (R176). -/
theorem timeOut_command (hwait : (w.chans[c.val]'c.isLt).play.inEntryWait = true) (hm : w.unmirrored c)
    (hf : (w.chans[c.val]'c.isLt).play.pendingStop = .drain → ∀ d : Chan, (w.chans[d]'d.isLt).follows d c = false) :
    (((Ev.of w false).act c (w.chans[c.val]'c.isLt) w.port [] true).timeOut c ctx).finish = ((Ev.of w false).timeOut c ctx).finish := by
  have hself := timeOut_alone_finish (ctx := ctx) (x := false) (a := false) (before := []) hwait hm hf
  rw [show (Ev.of w false).act c (w.chans[c.val]'c.isLt) w.port [] false = Ev.of w false from Ev.act_self (Ev.of w false) c] at hself
  rw [hself, timeOut_alone_finish hwait hm hf]

end Rests

end Sys2Proof.Machine

namespace Sys2Proof.Machine

section Looks

variable {s t u w : State} {g : GenIx} {c : Chan} {ctx : StepContext} {before : List Record} {a : Bool} {ch : Channel}

/-! ## The launch condition (R60, R91) -/

/-- What readiness and a launch look at of a channel: its head step, its shares of the pool, its state and its group. -/
def Channel.sameLaunch (ch ch' : Channel) : Prop :=
  ch.headStep = ch'.headStep ∧ ch.pool = ch'.pool ∧ ch.play.state = ch'.play.state ∧ ch.play.group = ch'.play.group

theorem State.memberReady_same (he : s.engine = t.engine) (h : (s.chans[c.val]'c.isLt).sameLaunch (t.chans[c.val]'c.isLt)) :
    s.memberReady c = t.memberReady c := by
  obtain ⟨hstep, hpool, -, -⟩ := h
  have hsettings : s.settings c = t.settings c := by unfold State.settings; rw [he]
  unfold State.memberReady firstStepReady
  rw [Fin.getElem_fin, Fin.getElem_fin, hstep, hpool, hsettings]

theorem State.launchDue_same (he : s.engine = t.engine) (h : ∀ d : Chan, (s.chans[d.val]'d.isLt).sameLaunch (t.chans[d.val]'d.isLt)) :
    s.launchDue c = t.launchDue c := by
  have hleader : (s.chans[c]'c.isLt).armedLeader c = (t.chans[c]'c.isLt).armedLeader c := by
    obtain ⟨-, -, hstate, hgroup⟩ := h c
    refine Option.ext fun m => ?_
    rw [Channel.armedLeader_iff, Channel.armedLeader_iff, Fin.getElem_fin, Fin.getElem_fin, hstate, hgroup]
  have hready : s.groupReady = t.groupReady := funext fun m => by
    unfold State.groupReady
    exact congrArg _ (funext fun d => State.memberReady_same he (h d))
  unfold State.launchDue
  rw [hleader, hready]

/-- The poll and the count of an expiry leave what a launch looks at (R38, R66). -/
theorem State.counted_sameLaunch (hu : u = { s.polled c with gens := s.gens.set g (reloaded s.gens[g]) }) (d : Chan) :
    ((u.counted c).chans[d.val]'d.isLt).sameLaunch (s.chans[d.val]'d.isLt) := by
  obtain ⟨poll, reader, p, hpolled⟩ := s.polled_put c
  have hchans : u.chans = (s.polled c).chans := by rw [hu]
  rw [State.counted]
  by_cases hd : c = d
  · subst hd
    rw [State.put_chan, hchans, hpolled, State.put_chan]
    exact ⟨rfl, rfl, rfl, rfl⟩
  · rw [State.put_other _ _ _ hd, hchans, hpolled, State.put_other _ _ _ hd]
    exact ⟨rfl, rfl, rfl, rfl⟩

theorem State.polled_engine (hu : u = { s.polled c with gens := s.gens.set g (reloaded s.gens[g]) }) : u.engine = s.engine := by
  obtain ⟨poll, reader, p, hpolled⟩ := s.polled_put c
  rw [hu, hpolled]
  rfl

theorem State.counted_launchDue (hu : u = { s.polled c with gens := s.gens.set g (reloaded s.gens[g]) }) :
    (u.counted c).launchDue c = s.launchDue c :=
  State.launchDue_same (s := u.counted c) (State.polled_engine (u := u) hu) (State.counted_sameLaunch hu)

theorem State.polled_window (hu : u = { s.polled c with gens := s.gens.set g (reloaded s.gens[g]) }) :
    (u.chans[c.val]'c.isLt).head = (s.chans[c.val]'c.isLt).head ∧ (u.chans[c.val]'c.isLt).pool = (s.chans[c.val]'c.isLt).pool
      ∧ (u.chans[c.val]'c.isLt).level = (s.chans[c.val]'c.isLt).level := by
  obtain ⟨poll, reader, p, hpolled⟩ := s.polled_put c
  have hchans : u.chans = (s.polled c).chans := by rw [hu]
  rw [hchans, hpolled, State.put_chan]
  exact ⟨rfl, rfl, rfl⟩

/-! ## What a channel shows while it stays or rests (R75, R102) -/

theorem showIdle_end (hm : u.unmirrored c) (hs : ch.play.state ≠ .mirroring) :
    ((((Ev.of u true).act c ch u.port [] false).mod (·.showIdle c)).coded c).expiryEnd
      = u.put c (restingChannel ch ch.level.idle) u.port := by
  rw [Ev.showIdle_act _ _ _ _ _ _ hs, Ev.moved_none _ hm, Ev.coded_act, Channel.atIdle_coded,
    Ev.expiryEnd_sole (u := u) (c := c) rfl (Or.inl rfl) (Or.inl rfl)]
  exact Ev.finish_act (Ev.of u true) c _ _ _ _ rfl rfl

theorem showRepeat_end (hm : u.unmirrored c) (hs : ch.play.state ≠ .mirroring) :
    ((((Ev.of u true).act c ch u.port [] false).mod (·.showRepeat c)).coded c).expiryEnd
      = u.put c (restingChannel ch ch.level.expiryCode) u.port := by
  obtain ⟨g, hg⟩ := Ev.showWait_act (c := c) (p := u.port) (rs := []) (a := false) (Ev.of u true) false hs
  rw [Ev.moved_none _ hm] at hg
  have hshow : ((Ev.of u true).act c ch u.port [] false).mod (·.showRepeat c) = _ := hg
  rw [hshow, Ev.coded_act, waitShown_coded, Ev.expiryEnd_sole (u := u) (c := c) rfl (Or.inl rfl) (Or.inl rfl)]
  exact Ev.finish_act (Ev.of u true) c _ _ _ _ rfl rfl

/-- A stay counts its expiry (R75). -/
def stayingChannel (ch : Channel) : Channel := { ch with play := { ch.play with episode := ch.play.episode + 1 } }

theorem stay_end (hm : u.unmirrored c) (hs : ch.play.state ≠ .mirroring) :
    ((((Ev.of u true).act c ch u.port [] false).stay c).coded c).expiryEnd
      = u.put c (restingChannel (stayingChannel ch) (if ch.play.state = .frontier then ch.level.idle else ch.level.expiryCode))
          u.port := by
  have hcounted : ((Ev.of u true).act c ch u.port [] false).modPlay c (fun p => { p with episode := p.episode + 1 })
      = (Ev.of u true).act c (stayingChannel ch) u.port [] false := by
    simp [stayingChannel]
  unfold Ev.stay
  rw [hcounted]
  have hchan : ((Ev.of u true).act c ch u.port [] false).chan c = ch := State.put_chan ..
  dsimp only
  rw [hchan]
  by_cases hf : ch.play.state = .frontier
  · rw [if_pos hf, if_pos hf, showIdle_end (ch := stayingChannel ch) hm hs]
    rfl
  · rw [if_neg hf, if_neg hf, showRepeat_end (ch := stayingChannel ch) hm hs]
    rfl

/-- The event that a counted expiry begins with (R66). -/
theorem State.counted_event (u : State) (c : Chan) :
    Ev.of (u.counted c) true = (Ev.of u true).act c (countedChannel (u.chans[c.val]'c.isLt)) u.port [] false := by
  rw [← State.counted_act, ← State.counted_chan]
  exact (Ev.act_self ..).symm

end Looks

end Sys2Proof.Machine

namespace Sys2Proof.Machine

section LeavesStay

variable {s u w : State} {g : GenIx} {c : Chan} {ctx : StepContext} {before : List Record} {a : Bool} {ch ended : Channel}

/-! ## A stay that ends with a wait (R71, R75) -/

/-- A channel that begins to wait for a trigger or its leader (R71). -/
def waitBegun (ch : Channel) (wait : WaitReason) : Channel :=
  { ch with play := { ch.play with state := .waiting, wait := wait, waitCount := 0 } }

theorem Ev.leaveStay_trigger {e : Ev} {k : LineIx} (h : ctx.body.entry = some (.trigger k)) :
    e.leaveStay c ctx = ((e.endStay c ctx).beginWait c (.trigger k)).waitExpiry c ctx := by
  unfold Ev.leaveStay
  rw [h]

theorem Ev.leaveStay_leader {e : Ev} (h : ctx.body.entry = some .leader) :
    e.leaveStay c ctx = if ((e.endStay c ctx).chan c).noLeader c then (e.endStay c ctx).stopChannel c .leaderGone false
      else ((e.endStay c ctx).beginWait c .leader).waitExpiry c ctx := by
  unfold Ev.leaveStay
  rw [h]

/-- The wait that a step with Entry TRIGGER, or LEADER with a leader, begins (R71). -/
def StepContext.waitsFor (ctx : StepContext) (ch : Channel) (c : Chan) (wait : WaitReason) : Prop :=
  (∃ k : LineIx, ctx.body.entry = some (.trigger k) ∧ wait = .trigger k)
    ∨ ctx.body.entry = some .leader ∧ ch.noLeader c = false ∧ wait = .leader

theorem StepContext.waitsFor.entryWait {wait : WaitReason} (h : ctx.waitsFor ch c wait) :
    (waitBegun ended wait).play.inEntryWait = true ∧ ∀ late : Bool, wait ≠ .data late := by
  rcases h with ⟨k, -, rfl⟩ | ⟨-, -, rfl⟩
  · exact ⟨rfl, fun late h => by cases h⟩
  · exact ⟨rfl, fun late h => by cases h⟩

theorem Channel.noLeader_congr {ch ch' : Channel} (h : ch.play.group = ch'.play.group) (c : Chan) : ch.noLeader c = ch'.noLeader c := by
  unfold Channel.noLeader
  rw [h]

/-- The stay's end as its event leaves the channel: its group stands (R75 to R77). -/
theorem Channel.endsStay_keeps (h : ch.endsStay c ctx ended before) :
    ended.play.group = ch.play.group ∧ ended.play.state = ch.play.state ∧ ended.level = ch.level ∧ ended.fetch = ch.fetch
      ∧ ended.play.pendingStop = ch.play.pendingStop := by
  obtain ⟨-, -, ⟨-, rfl, -⟩ | ⟨-, -, rfl, -⟩ | ⟨-, -, rfl, -⟩⟩ := h <;> exact ⟨rfl, rfl, rfl, rfl, rfl⟩

/-- An expiry that ends a stay acts as the look at its data says (R75). -/
theorem channelExpiry_looks (h : (u.chans[c.val]'c.isLt).play.state = .frontier
      ∨ (u.chans[c.val]'c.isLt).play.state = .waiting ∧ ∃ late : Bool, (u.chans[c.val]'c.isLt).play.wait = .data late) :
    (Ev.of (u.counted c) true).channelExpiry c = ((Ev.of (u.counted c) true).lookExpiry c).coded c := by
  rcases h with hs | ⟨hs, late, hw⟩
  · exact Ev.channelExpiry_frontier (by rw [State.counted_chan]; exact hs)
  · exact Ev.channelExpiry_data (by rw [State.counted_chan]; exact hs) (by rw [State.counted_chan]; exact hw)

theorem Channel.endsStay_stays (h : ch.endsStay c ctx ended before) :
    ch.play.state = .frontier ∨ ch.play.state = .waiting ∧ ∃ late : Bool, ch.play.wait = .data late := by
  obtain ⟨-, -, ⟨hs, -⟩ | ⟨hs, hw, -⟩ | ⟨hs, hw, -⟩⟩ := h
  · exact Or.inl hs
  · exact Or.inr ⟨hs, _, hw⟩
  · exact Or.inr ⟨hs, _, hw⟩

theorem channelExpiry_leaves (h : (u.chans[c.val]'c.isLt).endsStay c ctx ended before) :
    (Ev.of (u.counted c) true).channelExpiry c = ((Ev.of (u.counted c) true).leaveStay c ctx).coded c := by
  obtain ⟨hstep, hdata, -⟩ := id h
  rw [channelExpiry_looks (Channel.endsStay_stays h), Ev.lookExpiry_leaves (ctx := ctx) (by rw [State.counted_chan]; exact hstep)
    (by rw [State.counted_chan]; exact hdata)]

/-- The event in which a stay ends for a wait (R71, R75). -/
theorem leaveStay_waits {wait : WaitReason} (h : (u.chans[c.val]'c.isLt).endsStay c ctx ended before)
    (hw : ctx.waitsFor (u.chans[c.val]'c.isLt) c wait) :
    (Ev.of (u.counted c) true).leaveStay c ctx
      = ((Ev.of u true).act c (waitBegun (countedChannel ended) wait) u.port before true).waitExpiry c ctx := by
  obtain ⟨w, hdata, hend⟩ := Ev.endStay_act (e := Ev.of (u.counted c) true) (State.counted_chan u c) h
  obtain ⟨hgroup, -⟩ := Channel.endsStay_keeps h
  have hport : (Ev.of (u.counted c) true).st.port = u.port := rfl
  rw [hport, State.counted_act] at hend
  have hbegin : ((Ev.of (u.counted c) true).endStay c ctx).beginWait c wait
      = (Ev.of u true).act c (waitBegun (countedChannel ended) wait) u.port before true := by
    have hne : ¬(ended.play.state = .waiting ∧ w = wait) := fun hboth =>
      (hw.entryWait (ended := ended)).2 false (hboth.2.symm.trans (hdata hboth.1))
    rw [hend]
    unfold Ev.beginWait
    simp [waitBegun, countedChannel, hne]
  rcases hw with ⟨k, hentry, rfl⟩ | ⟨hentry, hleader, rfl⟩
  · rw [Ev.leaveStay_trigger hentry, hbegin]
  · rw [Ev.leaveStay_leader hentry, if_neg, hbegin]
    rw [hend, Ev.chan, Fin.getElem_fin, Ev.act_st, State.put_chan, Channel.noLeader_congr (ch' := u.chans[c.val]'c.isLt) (by exact hgroup),
      hleader]
    decide

/-! ## A stop or fault within an expiry (R88, R89, R93; log 8) -/

/-- Within an expiry a stop or fault of a channel that was not ARMED leaves its followers to the expiry's end (log 8). -/
theorem Ev.groupAfter_expiry {e : Ev} (h : e.inExpiry = true) :
    ∃ lost, e.groupAfter c false = { e with lost := lost } ∧ (lost = e.lost ∨ lost = e.lost ||| maskOf c) := by
  unfold Ev.groupAfter
  rw [if_neg (by decide)]
  by_cases hl : (e.chan c).leadsLaunched c = true
  · rw [if_pos hl, if_pos h]
    exact ⟨_, rfl, Or.inr rfl⟩
  · rw [if_neg hl]
    exact ⟨e.lost, rfl, Or.inl rfl⟩

/-- The end of an expiry in which the channel was lost to its followers spares the channel (R93). -/
theorem Ev.expiryEnd_chan {e : Ev} (hs : e.starts = 0) (hl : e.lost = 0 ∨ e.lost = 0 ||| maskOf c)
    (hm : (e.st.chans[c.val]'c.isLt).play.state ≠ .mirroring) :
    ∃ r, e.expiryEnd.chans[c.val]'c.isLt = { e.st.chans[c.val]'c.isLt with perRecord := r } := by
  have hself : ∀ d ∈ members e.lost, d = c := fun d hd => by
    rcases hl with hl | hl
    · rw [hl] at hd
      exact absurd hd ((by decide : ∀ d : Chan, d ∉ members 0) d)
    · rw [hl] at hd
      exact mem_maskOf hd
  unfold Ev.expiryEnd
  rw [hs, show members 0 = [] from by decide, List.foldl_nil]
  refine List.foldlRecOn (motive := fun t : State => ∃ r, t.chans[c.val]'c.isLt = { e.st.chans[c.val]'c.isLt with perRecord := r }) _ _
    ⟨_, e.finish_chan c⟩ fun t ⟨r, ht⟩ d hd => ?_
  rw [hself d hd]
  have hspares := Ev.loseLeader_spares (e := Ev.of t false) (c := c) (leader := c) (Channel.follows_self _ c)
    (by rw [Ev.of_st, ht]; exact hm) true e.counted
  exact ⟨r, (hspares.finish_same (by simp)).trans ht⟩

/-- A stop within an expiry of a channel that was not ARMED, and that retires no step (R88; log 8). -/
theorem Ev.stopChannel_expiry (e : Ev) (hx : e.inExpiry = true) (harmed : (e.st.chans[c.val]'c.isLt).play.state ≠ .armed)
    (hm : (e.st.chans[c.val]'c.isLt).play.state ≠ .mirroring) {reason : StopReason} (hcut : reason ≠ .cut) (x : Bool) :
    ∃ g p rs a lost, e.stopChannel c reason x
        = { (e.moved c g).act c ((stoppedChannel ((e.st.chans[c.val]'c.isLt).closing c).1 reason).turned x) p rs a with lost := lost }
      ∧ (lost = e.lost ∨ lost = e.lost ||| maskOf c) := by
  rw [Ev.stopChannel_eq _ _ _ _ harmed, Ev.stopCore_eq _ _ _ _ (Or.inr (Or.inl hcut)), Ev.closeEpisode_act, Ev.stopFrom_act]
  dsimp only
  rw [Ev.act_moved _ _ _ _ _ _ _ (by rw [Channel.closing_state]; exact hm), Ev.act_act, Ev.act_st, State.put_chan]
  obtain ⟨lost, hlost, hor⟩ := Ev.groupAfter_expiry (c := c) (e := (e.moved c _).act c _ _ _ _) hx
  exact ⟨_, _, _, _, lost, hlost, hor⟩

/-- A fault within an expiry of a channel that was not ARMED (R89; log 8). -/
theorem Ev.faultChannel_expiry (e : Ev) (hx : e.inExpiry = true) (harmed : (e.st.chans[c.val]'c.isLt).play.state ≠ .armed)
    (cause : FaultCause) :
    ∃ g p rs a lost, e.faultChannel c cause
        = { (e.moved c g).act c (faultedChannel ((e.st.chans[c.val]'c.isLt).closing c).1 cause) p rs a with lost := lost }
      ∧ (lost = e.lost ∨ lost = e.lost ||| maskOf c) := by
  rw [Ev.faultChannel_act, decide_eq_false harmed]
  obtain ⟨lost, hlost, hor⟩ := Ev.groupAfter_expiry (c := c) (e := (e.moved c _).act c _ _ _ _) hx
  exact ⟨_, _, _, _, lost, hlost, hor⟩

/-- The end of an expiry whose channel stopped or faulted: `last` is the channel as it left its play (R93, R103). -/
theorem expiryEnd_over {e : Ev} {m : Channel → Channel} {last : Channel} {p : Port} {rs : List Record} {lost : BitVec 8}
    (hs : e.starts = 0) (hl : lost = 0 ∨ lost = 0 ||| maskOf c) (hm : last.play.state ≠ .mirroring) :
    ∃ t : State, (Ev.coded { (e.moved c m).act c last p rs a with lost := lost } c).expiryEnd = t
      ∧ ∃ r, t.chans[c.val]'c.isLt = { last.withCode last.level.lane with perRecord := r } := by
  have hcoded : Ev.coded { (e.moved c m).act c last p rs a with lost := lost } c
      = { (e.moved c m).act c (last.withCode last.level.lane) p rs a with lost := lost } :=
    congrArg (fun e : Ev => { e with lost := lost }) (Ev.coded_act _)
  have hchan : Ev.st { (e.moved c m).act c (last.withCode last.level.lane) p rs a with lost := lost } =
      (e.moved c m).st.put c (last.withCode last.level.lane) p := rfl
  refine ⟨_, rfl, ?_⟩
  obtain ⟨r, hr⟩ := Ev.expiryEnd_chan (c := c) (e := { (e.moved c m).act c (last.withCode last.level.lane) p rs a with lost := lost }) hs hl
    (by rw [hchan, State.put_chan]; exact hm)
  rw [hcoded]
  exact ⟨r, by rw [hr, hchan, State.put_chan]⟩

/-- A LEADER step that finds no leader as its stay ends stops the channel (R93; log 11). -/
theorem leaveStay_gone (h : (u.chans[c.val]'c.isLt).endsStay c ctx ended before) (hentry : ctx.body.entry = some .leader)
    (hleader : (u.chans[c.val]'c.isLt).noLeader c = true) :
    ∃ t : State, (((Ev.of (u.counted c) true).leaveStay c ctx).coded c).expiryEnd = t ∧ (t.chans[c.val]'c.isLt).play.state = .idle
      ∧ (t.chans[c.val]'c.isLt).play.lastStop = .leaderGone ∧ (t.chans[c.val]'c.isLt).accumulated.getLsbD 7 = true
      ∧ (t.chans[c.val]'c.isLt).level.lane = (u.chans[c.val]'c.isLt).level.idle ∧ (t.chans[c.val]'c.isLt).fetch.window = []
      ∧ (t.chans[c.val]'c.isLt).pool = emptyShare := by
  obtain ⟨w, -, hend⟩ := Ev.endStay_act (e := Ev.of (u.counted c) true) (State.counted_chan u c) h
  obtain ⟨hgroup, hstate, hlevel, -⟩ := Channel.endsStay_keeps h
  obtain ⟨-, harmed, hmirror⟩ := Channel.endsStay_state h
  obtain ⟨ch, hch⟩ : ∃ ch, ch = { countedChannel ended with play := { (countedChannel ended).play with wait := w } } := ⟨_, rfl⟩
  rw [← hch] at hend
  have hchan : ((Ev.of (u.counted c) true).endStay c ctx).st.chans[c.val]'c.isLt = ch := by
    rw [hend]
    exact State.put_chan ..
  have hchstate : ch.play.state = (u.chans[c.val]'c.isLt).play.state := by rw [hch]; exact hstate
  obtain ⟨m, p, rs, a, lost, hstop, hlost⟩ := Ev.stopChannel_expiry (c := c) ((Ev.of (u.counted c) true).endStay c ctx)
    (by rw [hend]; rfl) (by rw [hchan, hchstate]; exact harmed) (by rw [hchan, hchstate]; exact hmirror) (reason := .leaderGone)
    (by decide) false
  rw [Ev.leaveStay_leader hentry, if_pos (by rw [Ev.chan, Fin.getElem_fin, hchan, Channel.noLeader_congr (ch' := u.chans[c.val]'c.isLt)
    (by rw [hch]; exact hgroup), hleader]), hstop]
  rw [hend] at hlost
  obtain ⟨t, ht, r, hr⟩ := expiryEnd_over (a := a) (e := (Ev.of (u.counted c) true).endStay c ctx) (m := m) (p := p) (rs := rs)
    (last := (stoppedChannel (ch.closing c).1 .leaderGone).turned false) (by rw [hend]; rfl) hlost
    (by rw [Channel.turned_play]; exact fun h => by cases h)
  have hidle : (ch.closing c).1.level.idle = (u.chans[c.val]'c.isLt).level.idle := by rw [Channel.closing_level, hch, ← hlevel]; rfl
  rw [hchan]
  refine ⟨t, ht, ?_⟩
  rw [hr]
  refine ⟨rfl, rfl, ?_, hidle, rfl, rfl⟩
  show ((ch.closing c).1.accumulated ||| 0x080).getLsbD 7 = true
  simp

/-- An invalid marker under a DATA wait or a FRONTIER stay faults the channel (R75, R89). -/
theorem lookExpiry_faults {occ slot : Nat} {sub : SubCode} (hhead : (u.chans[c.val]'c.isLt).head = some (.invalid occ slot sub))
    (h : (u.chans[c.val]'c.isLt).play.state = .frontier ∨ (u.chans[c.val]'c.isLt).play.state = .waiting) :
    ∃ t : State, (((Ev.of (u.counted c) true).lookExpiry c).coded c).expiryEnd = t ∧ (t.chans[c.val]'c.isLt).play.state = .faulted
      ∧ (t.chans[c.val]'c.isLt).play.faultCause = .stepInvalid sub ∧ (t.chans[c.val]'c.isLt).accumulated.getLsbD 5 = true
      ∧ (t.chans[c.val]'c.isLt).level.lane = (u.chans[c.val]'c.isLt).level.idle ∧ (t.chans[c.val]'c.isLt).pool = emptyShare := by
  have hchan : (Ev.of (u.counted c) true).st.chans[c.val]'c.isLt = countedChannel (u.chans[c.val]'c.isLt) := State.counted_chan u c
  have harmed : (countedChannel (u.chans[c.val]'c.isLt)).play.state ≠ .armed := by
    show (u.chans[c.val]'c.isLt).play.state ≠ .armed
    rcases h with h | h <;> rw [h] <;> decide
  obtain ⟨m, p, rs, a, lost, hfault, hlost⟩ := Ev.faultChannel_expiry (c := c) (Ev.of (u.counted c) true) rfl
    (by rw [hchan]; exact harmed) (.stepInvalid sub)
  rw [Ev.lookExpiry_invalid (by rw [Ev.chan, Fin.getElem_fin, hchan]; exact hhead), hfault, hchan]
  obtain ⟨t, ht, r, hr⟩ := expiryEnd_over (a := a) (e := Ev.of (u.counted c) true) (m := m) (p := p) (rs := rs)
    (last := faultedChannel ((countedChannel (u.chans[c.val]'c.isLt)).closing c).1 (.stepInvalid sub)) rfl hlost (fun h => by cases h)
  have hidle : ((countedChannel (u.chans[c.val]'c.isLt)).closing c).1.level.idle = (u.chans[c.val]'c.isLt).level.idle := by
    rw [Channel.closing_level]
    rfl
  refine ⟨t, ht, ?_⟩
  rw [hr]
  refine ⟨rfl, rfl, ?_, hidle, rfl⟩
  show (((countedChannel (u.chans[c.val]'c.isLt)).closing c).1.accumulated ||| 0x020).getLsbD 5 = true
  simp

end LeavesStay

end Sys2Proof.Machine

namespace Sys2Proof.Machine

/-! ## The clauses of O40 for one channel on its generator -/

section Sole

variable {s u : State} {g : GenIx} {c : Chan} {ctx : StepContext} {b : Channel}

/-- The channel as the expiry's count leaves it (R66). -/
theorem counted_of_polled (hu : u = { s.polled c with gens := s.gens.set g (reloaded s.gens[g]) })
    (hb : b = { u.chans[c]'c.isLt with play := { (s.chans[c]'c.isLt).play with
      sampleCount := ((s.chans[c]'c.isLt).play.sampleCount + 1) % 281474976710656 } }) : b = countedChannel (u.chans[c.val]'c.isLt) := by
  obtain ⟨hplay, -⟩ := State.polled_spares hu
  rw [hb, countedChannel, hplay]
  rfl

/-- What the clauses share: the generator's one channel, no mirror of it, and its expiry counted (R38, R66). -/
structure SoleExpiry (s u : State) (g : GenIx) (c : Chan) (b : Channel) : Prop where
  sole : s.soleOn g c
  unmirrored : s.unmirrored c
  reader : (s.chans[c]'c.isLt).fetch.reader ≠ .atFrontier ∨ s.port.idleEmpty
  polled : u = { s.polled c with gens := s.gens.set g (reloaded s.gens[g]) }
  counted : b = countedChannel (u.chans[c.val]'c.isLt)

section

variable (h : SoleExpiry s u g c b)
include h

theorem SoleExpiry.play : (u.chans[c.val]'c.isLt).play = (s.chans[c.val]'c.isLt).play := (State.polled_spares h.polled).1

theorem SoleExpiry.level : b.level = (u.chans[c.val]'c.isLt).level := by
  rw [h.counted]
  rfl

theorem SoleExpiry.counted_port : (Ev.of (u.counted c) true) = (Ev.of u true).act c b u.port [] false := by
  rw [h.counted, State.counted_event]

theorem SoleExpiry.mirrors (hm : (s.chans[c.val]'c.isLt).play.state ≠ .mirroring) : u.unmirrored c :=
  (State.polled_spares h.polled).2.2.2.1 h.unmirrored hm

/-- The expiry is one event of the channel (R66). -/
theorem SoleExpiry.exec (hcounts : (s.chans[c.val]'c.isLt).play.state.counts = true)
    (hl : (s.chans[c.val]'c.isLt).play.state ≠ .armed ∨ s.launchDue c = false) :
    exec (.expiry g) s = .next ((Ev.of (u.counted c) true).channelExpiry c).expiryEnd := by
  refine exec_expiry_sole h.sole hcounts h.reader h.polled ?_
  rw [State.counted_launchDue h.polled]
  exact hl.elim (State.launchDue_unarmed) id

/-- A trigger or leader wait (R72, R74). -/
theorem SoleExpiry.waits {n : Nat} {waited : State} (hwait : (s.chans[c]'c.isLt).play.inEntryWait = true)
    (hstep : (s.chans[c]'c.isLt).headStep = some ctx) (hn : n = ((s.chans[c]'c.isLt).play.waitCount + 1) % 4294967296)
    (hw : waited = { u with chans := u.chans.set c (restingChannel { b with play := { b.play with waitCount := n } }
      (if ctx.body.waitIdle then b.level.idle else b.level.expiryCode)) }) :
    ((ctx.decision = true → n ≠ ctx.body.waitTimeout) → Sys2Proof.Machine.exec (.expiry g) s = .next waited)
    ∧ (ctx.decision = true → n = ctx.body.waitTimeout →
      ((s.chans[c]'c.isLt).play.pendingStop = .drain → ∀ d : Chan, (s.chans[d]'d.isLt).follows d c = false) →
      Sys2Proof.Machine.exec (.expiry g) s = Sys2Proof.Machine.exec (.waitTimeout c) waited
      ∧ ((s.chans[c]'c.isLt).play.pendingStop ≠ .drain → s.port.idleEmpty →
        Sys2Proof.Machine.exec (.expiry g) s = .next (waited.afterTimeout c ctx []))) := by
  have hplay := h.play
  have hstate : (s.chans[c.val]'c.isLt).play.state = .waiting := Play.inEntryWait_state hwait
  have hmirrors := h.mirrors (by rw [hstate]; decide)
  have hbplay : b.play = { (s.chans[c.val]'c.isLt).play with
      sampleCount := ((s.chans[c.val]'c.isLt).play.sampleCount + 1) % 281474976710656 } := by
    rw [h.counted, ← hplay]
    rfl
  have hbwait : b.play.inEntryWait = true := by
    rw [hbplay]
    exact hwait
  have hbcount : wrap32 (b.play.waitCount + 1) = n := by
    rw [hbplay, hn]
    rfl
  have hwaited : waited = u.put c (waitingOn b ctx) u.port := by
    rw [hw, waitingOn, hbcount]
    rfl
  have hchan : (Ev.of (u.counted c) true).chan c = b := by rw [State.counted_chan, h.counted]
  have hexec : Sys2Proof.Machine.exec (.expiry g) s
      = .next ((((Ev.of u true).act c b u.port [] false).waitExpiry c ctx).coded c).expiryEnd := by
    rw [h.exec (by rw [hstate]; rfl) (Or.inl (by rw [hstate]; decide)), Ev.channelExpiry_waiting (ctx := ctx) (by rw [hchan]; exact hbwait)
      (by rw [hchan, h.counted]; exact (State.polled_spares h.polled).2.1.trans hstep), h.counted_port]
  refine ⟨fun hnot => ?_, fun hd hdue hf => ?_⟩
  · rw [hexec, waitExpiry_on hmirrors hbwait (by rw [hbcount]; exact hnot) hwaited]
    rfl
  · obtain ⟨-, -, hidle, -, hfollows⟩ := State.polled_spares h.polled
    have hdrain : b.play.pendingStop = (s.chans[c.val]'c.isLt).play.pendingStop := by rw [hbplay]
    have hwchan : waited.chans[c.val]'c.isLt = waitingOn b ctx := by rw [hwaited, State.put_chan]
    have hwwait : (waited.chans[c.val]'c.isLt).play.inEntryWait = true := by
      rw [hwchan]
      exact hbwait
    have hwdrain : (waited.chans[c.val]'c.isLt).play.pendingStop = (s.chans[c.val]'c.isLt).play.pendingStop := by
      rw [hwchan]
      exact hdrain
    have hout := waitExpiry_out (before := []) (a := false) hmirrors hbwait hd (hbcount.trans hdue)
      (fun hpending => hfollows (hf (hdrain.symm.trans hpending))) hwaited
    refine ⟨?_, fun hpending hport => ?_⟩
    · have hfw : (waited.chans[c.val]'c.isLt).play.pendingStop = .drain → ∀ d : Chan, (waited.chans[d]'d.isLt).follows d c = false := fun hpending d => by
        by_cases hd : c = d
        · subst hd
          exact Channel.follows_self _ _
        · rw [hwaited, Fin.getElem_fin, State.put_other _ _ _ hd]
          exact hfollows (hf (hwdrain.symm.trans hpending)) d
      rw [hexec, hout, timeOut_command hwwait (by
        rw [hwaited]
        exact State.put_unmirrored hmirrors (Play.inEntryWait_ne_mirroring hbwait)) hfw,
        exec_waitTimeout_due (c := c) hwwait (ctx := ctx) ?_ hd ?_]
      · rw [Fin.getElem_fin, hwchan, h.counted]
        exact (State.polled_spares h.polled).2.1.trans hstep
      · rw [Fin.getElem_fin, hwchan]
        exact hbcount.trans hdue
    · rw [hexec, hout, Ev.timeOut_finish (by rw [hwaited]; exact hidle hport) (by rw [hwdrain]; exact hpending)]

/-- A DATA wait or a FRONTIER stay whose data is not there (R75, R103). -/
theorem SoleExpiry.stays {code : Int} (hs : (s.chans[c]'c.isLt).play.state = .frontier ∧ code = b.level.idle
      ∨ ((s.chans[c]'c.isLt).play.state = .waiting ∧ ∃ late : Bool, (s.chans[c]'c.isLt).play.wait = .data late) ∧ code = b.level.expiryCode)
    (hhead : (s.chans[c]'c.isLt).head = none ∨ ∃ ctx, (s.chans[c]'c.isLt).headStep = some ctx ∧ (s.chans[c]'c.isLt).dataPresent ctx = false) :
    Sys2Proof.Machine.exec (.expiry g) s = .next { u with
      chans := u.chans.set c (restingChannel { b with play := { b.play with episode := b.play.episode + 1 } } code) } := by
  have hplay := h.play
  obtain ⟨hwindow, hpool, -⟩ := State.polled_window h.polled
  have hstates : (s.chans[c.val]'c.isLt).play.state ≠ .armed ∧ (s.chans[c.val]'c.isLt).play.state ≠ .mirroring
      ∧ (s.chans[c.val]'c.isLt).play.state.counts = true := by
    rcases hs with ⟨hs, -⟩ | ⟨⟨hs, -⟩, -⟩ <;> (rw [Fin.getElem_fin] at hs; rw [hs]; decide)
  obtain ⟨harmed, hmirror, hcounts⟩ := hstates
  have hlooks : (u.chans[c.val]'c.isLt).play.state = .frontier ∨ (u.chans[c.val]'c.isLt).play.state = .waiting
      ∧ ∃ late : Bool, (u.chans[c.val]'c.isLt).play.wait = .data late := by
    rw [hplay]
    exact hs.imp And.left And.left
  have hchan : (Ev.of (u.counted c) true).chan c = b := by rw [State.counted_chan, h.counted]
  have hstep : b.headStep = (s.chans[c.val]'c.isLt).headStep := by
    rw [h.counted]
    exact (State.polled_spares h.polled).2.1
  have hdata : ∀ ctx, b.dataPresent ctx = (s.chans[c.val]'c.isLt).dataPresent ctx := fun ctx => by
    have hb : b.pool = (s.chans[c.val]'c.isLt).pool := by
      rw [h.counted]
      exact hpool
    unfold Channel.dataPresent
    rw [hb]
  have hbhead : b.head = (s.chans[c.val]'c.isLt).head := by
    rw [h.counted]
    exact hwindow
  have hbstate : b.play.state = (s.chans[c.val]'c.isLt).play.state := by
    rw [h.counted, ← hplay]
    rfl
  rw [h.exec hcounts (Or.inl harmed), channelExpiry_looks hlooks, Ev.lookExpiry_stays (by
    rw [hchan, hbhead, hstep]
    exact hhead.imp id fun ⟨ctx, h1, h2⟩ => ⟨ctx, h1, (hdata ctx).trans h2⟩), h.counted_port,
    stay_end (h.mirrors hmirror) (by rw [hbstate]; exact hmirror)]
  have hcode : (if b.play.state = .frontier then b.level.idle else b.level.expiryCode) = code := by
    rw [hbstate]
    rcases hs with ⟨hs, rfl⟩ | ⟨⟨hs, -⟩, rfl⟩
    · exact if_pos hs
    · rw [Fin.getElem_fin] at hs
      rw [hs]
      rfl
  rw [hcode]
  rfl

/-- An ARMED channel whose group does not launch (R102). -/
theorem SoleExpiry.rests (hs : (s.chans[c]'c.isLt).play.state = .armed) (hl : s.launchDue c = false) :
    Sys2Proof.Machine.exec (.expiry g) s = .next { u with chans := u.chans.set c (restingChannel b b.level.idle) } := by
  rw [Fin.getElem_fin] at hs
  have hbstate : b.play.state = .armed := by
    rw [h.counted, ← hs, ← h.play]
    rfl
  rw [h.exec (by rw [hs]; rfl) (Or.inr hl), Ev.channelExpiry_armed (by rw [State.counted_chan, ← h.counted]; exact hbstate), h.counted_port,
    showIdle_end (h.mirrors (by rw [hs]; decide)) (by rw [hbstate]; decide)]
  rfl

/-- A stay that ends for a wait: its first expiry is counted in it, and times out at once under a Wait Timeout of 1 (R71, R72, R75). -/
theorem SoleExpiry.waitsAfter {ended : Channel} {records : List Record} {wait : WaitReason} {waited : State}
    (hends : (u.chans[c]'c.isLt).endsStay c ctx ended records)
    (hwait : (∃ k : LineIx, ctx.body.entry = some (.trigger k) ∧ wait = .trigger k)
      ∨ ctx.body.entry = some .leader ∧ (s.chans[c]'c.isLt).noLeader c = false ∧ wait = .leader)
    (hw : waited = { u with chans := u.chans.set c (restingChannel
      { ended with play := { ended.play with
        sampleCount := b.play.sampleCount, state := .waiting, wait := wait, waitCount := 1 } }
      (if ctx.body.waitIdle then b.level.idle else b.level.expiryCode)) }) :
    ((ctx.decision = true → ctx.body.waitTimeout ≠ 1) →
      Sys2Proof.Machine.exec (.expiry g) s = .next (State.writeStatusBlock (State.handOverAll records waited) c))
    ∧ (ctx.decision = true → ctx.body.waitTimeout = 1 → (s.chans[c]'c.isLt).play.pendingStop ≠ .drain → s.port.idleEmpty →
      Sys2Proof.Machine.exec (.expiry g) s = .next (waited.afterTimeout c ctx records)) := by
  have hplay := h.play
  obtain ⟨hcounts, harmed, hmirror⟩ := Channel.endsStay_state hends
  obtain ⟨hgroup, hstate, hlevel, -, hpendings⟩ := Channel.endsStay_keeps hends
  rw [Fin.getElem_fin, hplay] at hcounts harmed hmirror
  have hmirrors := h.mirrors hmirror
  have hfor : ctx.waitsFor (u.chans[c.val]'c.isLt) c wait :=
    hwait.imp id fun ⟨h1, h2, h3⟩ => ⟨h1, (Channel.noLeader_congr (congrArg Play.group hplay) c).trans h2, h3⟩
  have hsamples : ended.play.sampleCount = (u.chans[c.val]'c.isLt).play.sampleCount := by
    obtain ⟨-, -, ⟨-, rfl, -⟩ | ⟨-, -, rfl, -⟩ | ⟨-, -, rfl, -⟩⟩ := hends <;> rfl
  obtain ⟨ch, hch⟩ : ∃ ch, ch = waitBegun (countedChannel ended) wait := ⟨_, rfl⟩
  have hentry : ch.play.inEntryWait = true := by
    rw [hch]
    exact (hfor.entryWait (ended := countedChannel ended)).1
  have hone : wrap32 (ch.play.waitCount + 1) = 1 := by
    rw [hch]
    rfl
  have hwaited : waited = u.put c (waitingOn ch ctx) u.port := by
    have hended : ended.level = b.level := hlevel.trans h.level.symm
    have hlev : ch.level = b.level := by
      rw [hch]
      exact hended
    have hbs : b.play.sampleCount = (countedChannel ended).play.sampleCount := by
      rw [h.counted]
      exact congrArg (fun n => (n + 1) % 281474976710656) hsamples.symm
    rw [hw, waitingOn, hone, hlev, hbs, hended, hch]
    rfl
  have hexec : Sys2Proof.Machine.exec (.expiry g) s
      = .next ((((Ev.of u true).act c ch u.port records true).waitExpiry c ctx).coded c).expiryEnd := by
    rw [h.exec hcounts (Or.inl harmed), channelExpiry_leaves hends, leaveStay_waits hends hfor, hch]
  refine ⟨fun hnot => ?_, fun hd hdue hpending hport => ?_⟩
  · rw [hexec, waitExpiry_on hmirrors hentry (by rw [hone]; exact fun hd h1 => hnot hd h1.symm) hwaited]
    rfl
  · obtain ⟨-, -, hidle, -⟩ := State.polled_spares h.polled
    have hdrain : ch.play.pendingStop ≠ .drain := by
      rw [hch]
      show ended.play.pendingStop ≠ .drain
      rw [hpendings, Fin.getElem_fin, hplay]
      exact hpending
    rw [hexec, waitExpiry_out hmirrors hentry hd (hone.trans hdue.symm) (fun h => (hdrain h).elim) hwaited,
      Ev.timeOut_finish (by rw [hwaited]; exact hidle hport) (by rw [hwaited, State.put_chan]; exact hdrain)]

/-- A stay that ends for a LEADER step without a leader (R93; log 11). -/
theorem SoleExpiry.leaderGone {ended : Channel} {records : List Record} (hends : (u.chans[c]'c.isLt).endsStay c ctx ended records)
    (hentry : ctx.body.entry = some .leader) (hleader : (s.chans[c]'c.isLt).noLeader c = true) :
    ∃ t, Sys2Proof.Machine.exec (.expiry g) s = .next t ∧ (t.chans[c]'c.isLt).play.state = .idle ∧ (t.chans[c]'c.isLt).play.lastStop = .leaderGone
      ∧ (t.chans[c]'c.isLt).accumulated.getLsbD 7 = true ∧ (t.chans[c]'c.isLt).level.lane = b.level.idle
      ∧ (t.chans[c]'c.isLt).fetch.window = [] ∧ (t.chans[c]'c.isLt).pool = emptyShare := by
  have hplay := h.play
  obtain ⟨hcounts, harmed, -⟩ := Channel.endsStay_state hends
  rw [Fin.getElem_fin, hplay] at hcounts harmed
  obtain ⟨t, ht, hrest⟩ := leaveStay_gone hends hentry ((Channel.noLeader_congr (congrArg Play.group hplay) c).trans hleader)
  refine ⟨t, ?_, ?_⟩
  · rw [h.exec hcounts (Or.inl harmed), channelExpiry_leaves hends, ht]
  · rw [h.level]
    exact hrest

/-- An invalid marker under a stay (R89). -/
theorem SoleExpiry.faults {occ slot : Nat} {sub : SubCode} {late : Bool} (hhead : (s.chans[c]'c.isLt).head = some (.invalid occ slot sub))
    (hs : (s.chans[c]'c.isLt).play.state = .frontier ∨ (s.chans[c]'c.isLt).play.state = .waiting ∧ (s.chans[c]'c.isLt).play.wait = .data late) :
    ∃ t, Sys2Proof.Machine.exec (.expiry g) s = .next t ∧ (t.chans[c]'c.isLt).play.state = .faulted
      ∧ (t.chans[c]'c.isLt).play.faultCause = .stepInvalid sub ∧ (t.chans[c]'c.isLt).accumulated.getLsbD 5 = true
      ∧ (t.chans[c]'c.isLt).level.lane = b.level.idle ∧ (t.chans[c]'c.isLt).pool = emptyShare := by
  have hplay := h.play
  have hstates : (s.chans[c.val]'c.isLt).play.state ≠ .armed ∧ (s.chans[c.val]'c.isLt).play.state.counts = true := by
    rcases hs with hs | ⟨hs, -⟩ <;> (rw [Fin.getElem_fin] at hs; rw [hs]; decide)
  have hlooks : (u.chans[c.val]'c.isLt).play.state = .frontier ∨ (u.chans[c.val]'c.isLt).play.state = .waiting
      ∧ ∃ late : Bool, (u.chans[c.val]'c.isLt).play.wait = .data late := by
    rw [hplay]
    exact hs.imp id fun ⟨h1, h2⟩ => ⟨h1, late, h2⟩
  obtain ⟨t, ht, hrest⟩ := lookExpiry_faults ((State.polled_window h.polled).1.trans hhead) (hlooks.imp id And.left)
  refine ⟨t, ?_, ?_⟩
  · rw [h.exec hstates.2 (Or.inl hstates.1), channelExpiry_looks hlooks, ht]
  · rw [h.level]
    exact hrest

end

end Sole

end Sys2Proof.Machine

namespace Sys2Proof.Machine

/-! ## A RUNNING expiry as another channel sees it -/

section Sees

variable {e e' : Ev} {c d f : Chan} {ctx : StepContext} {q b : Channel}

/-- Every channel obtains its sample in one of the ways of R54, R58 and R67. -/
theorem Channel.obtains_exists (b : Channel) (ctx : StepContext) : ∃ raw pool obtained missed fed,
    b.obtains ctx raw pool obtained missed fed := by
  cases hr : ctx.resident with
  | true =>
    cases hread : b.pool.bankRead ctx b.play.offset with
    | some x => exact ⟨_, _, _, _, _, Or.inr (Or.inr (Or.inr (Or.inl ⟨hr, hread, rfl, rfl, rfl, rfl⟩)))⟩
    | none => exact ⟨_, _, _, _, _, Or.inr (Or.inr (Or.inr (Or.inr ⟨hr, hread, rfl, rfl, rfl, rfl, rfl⟩)))⟩
  | false =>
    by_cases hh : b.play.holdCount = 0
    · cases hqueue : b.pool.queue with
      | nil => exact ⟨_, _, _, _, _, Or.inr (Or.inl ⟨hr, hh, hqueue, rfl, rfl, rfl, rfl, rfl⟩)⟩
      | cons x rest => exact ⟨_, _, _, _, _, Or.inl ⟨hr, hh, ⟨rest, hqueue, rfl⟩, rfl, rfl, rfl⟩⟩
    · exact ⟨_, _, _, _, _, Or.inr (Or.inr (Or.inl ⟨hr, hh, rfl, rfl, rfl, rfl, rfl⟩))⟩

theorem State.withSample_grows {K : Transfer → Prop} (s : State) (c : Chan) (b : Channel) (raw : Int) (pool : Pool) (missed fed : Bool) :
    s.port.grows K (s.withSample c b raw pool missed fed).port := by
  unfold State.withSample
  dsimp only
  split
  · exact State.feed_grows (s.put c _ _) c
  · exact Port.grows_refl _ _

theorem playingRecords_source (c : Chan) (b : Channel) (ctx : StepContext) (obtained : Bool) :
    ∀ r ∈ playingRecords c b ctx obtained, r.source = .channel c := by
  intro r hr
  rw [playingRecords_eq, Channel.startRecords, Channel.episodeRecords, List.mem_append] at hr
  rcases hr with hr | hr
  · split at hr
    · rw [List.mem_singleton.1 hr]
      rfl
    · cases hr
  · split at hr
    · rw [List.mem_singleton.1 hr]
      rfl
    · cases hr

theorem Ev.coded_spares (e : Ev) (hd : d ≠ c) : e.spares (e.coded d) c := by
  rw [Ev.coded, Ev.modLevel_act]
  exact e.act_spares hd (by simp) (Port.grows_refl _ _)

/-- The bits of an expiry are no part of what an event leaves. -/
theorem Ev.spares.bits (h : e.spares e' c) (starts lost : BitVec 8) : e.spares { e' with starts := starts, lost := lost } c :=
  ⟨h.chan, h.rest, h.recs, h.port⟩

theorem Ev.played_spares (e : Ev) (b : Channel) (ctx : StepContext) (raw : Int) (pool : Pool) (obtained missed fed : Bool)
    (position : Nat × Nat × Nat) (hd : d ≠ c) (hc : (e.st.chans[c.val]'c.isLt).play.state ≠ .mirroring) :
    e.spares (e.played d b ctx raw pool obtained missed fed position) c :=
  (e.moved_spares d _ hc).trans (Ev.act_spares _ hd (playingRecords_source d b ctx obtained)
    (State.withSample_grows e.st d b raw pool missed fed))

/-- Within an expiry a boundary spares every other channel but the mirrors: a lost leader is told of at the expiry's end (log 8). -/
theorem Ev.boundary_expiry (hx : e.inExpiry = true) (hs : (e.st.chans[d.val]'d.isLt).play.state = .running) (ctx : StepContext) (hd : d ≠ c)
    (hc : (e.st.chans[c.val]'c.isLt).play.state ≠ .mirroring) :
    e.spares (e.boundary d ctx) c ∧ (e.boundary d ctx).starts = e.starts ∧ (e.boundary d ctx).counted = e.counted
      ∧ ((e.boundary d ctx).lost = e.lost ∨ (e.boundary d ctx).lost = e.lost ||| maskOf d) := by
  obtain ⟨g, hact⟩ := e.boundary_act ctx hs
  obtain ⟨out, hout⟩ : ∃ out, out = ((e.st.retiredBy d ctx).chans[d.val]'d.isLt).leaves d ctx := ⟨_, rfl⟩
  obtain ⟨p, hp⟩ : ∃ p, p = if out.1.play.state.counts then (e.st.retiredBy d ctx).port else (e.st.retiredBy d ctx).port.purgedOf d :=
    ⟨_, rfl⟩
  obtain ⟨e', he'⟩ : ∃ e', e' = (e.moved d g).act d out.1 p ((e.st.chans[d.val]'d.isLt).endRecords d ctx ++ out.2) true := ⟨_, rfl⟩
  rw [← hout, ← hp, ← he'] at hact
  have hport : e.st.port.grows (fun t => t.chan? ≠ some d) p := by
    refine (e.st.retiredBy_grows d ctx).trans ?_
    rw [hp]
    split
    · exact Port.grows_refl _ _
    · exact Ev.purged_grows _ d
  have hspares : e.spares e' c := by
    rw [he']
    refine (e.moved_spares d g hc).trans (Ev.act_spares _ hd (fun r hr => ?_) hport)
    refine (List.mem_append.1 hr).elim (Channel.endRecords_source _ d ctx r) fun hr => ?_
    rw [hout] at hr
    exact Channel.leaves_source r hr
  have hgone : ∃ lost, e'.gone d out.1 = { e' with lost := lost } ∧ (lost = e'.lost ∨ lost = e'.lost ||| maskOf d) := by
    unfold Ev.gone
    split
    · exact ⟨e'.lost, rfl, Or.inl rfl⟩
    · exact Ev.groupAfter_expiry (by rw [he']; exact hx)
  obtain ⟨lost, hlost, hor⟩ := hgone
  rw [hact, hlost]
  refine ⟨hspares.bits e'.starts lost, by rw [he']; rfl, by rw [he']; rfl, ?_⟩
  rw [he'] at hor
  exact hor

/-- A RUNNING expiry ends with the sample, or with the boundary that it reaches (R68, R70, R80). -/
theorem Ev.runExpiry_ends (hq : e.st.chans[c.val]'c.isLt = countedChannel q) (hs : q.play.state = .running) (ctx : StepContext) :
    ∃ raw pool obtained missed fed position e', e' = { e.played c (startedChannel q ctx) ctx raw pool obtained missed fed position with
        starts := e.starts ||| q.startMask c }
      ∧ (e.runExpiry c ctx = e' ∨ e.runExpiry c ctx = e'.boundary c ctx) := by
  obtain ⟨raw, pool, obtained, missed, fed, ho⟩ := (startedChannel q ctx).obtains_exists ctx
  obtain ⟨starts, hplayed, hchan, rfl⟩ := Ev.running_played hq rfl ((startedChannel_state q ctx).trans hs) ho
  have hrun : e.runExpiry c ctx = _ := e.runExpiry_eq c ctx
  dsimp only at hrun
  rw [hplayed] at hrun
  refine ⟨raw, pool, obtained, missed, fed, ?_⟩
  by_cases hend : ctx.wEff ≤ (Ev.chan { e.played c (startedChannel q ctx) ctx raw pool obtained missed fed
      (advancedPosition (startedChannel q ctx).play ctx) with starts := e.starts ||| q.startMask c } c).play.offset
  · rw [if_pos hend] at hrun
    obtain ⟨⟨pass, offset, hold⟩, hpos⟩ : ∃ x, advancedPosition (startedChannel q ctx).play ctx = x := ⟨_, rfl⟩
    have hpass : pass = (startedChannel q ctx).play.pass := by
      have : (advancedPosition (startedChannel q ctx).play ctx).1 = (startedChannel q ctx).play.pass := by
        unfold advancedPosition
        split <;> rfl
      rw [hpos] at this
      exact this
    rw [hpos, Ev.endPass_played _ _ _ _ _ hpass] at hrun
    dsimp only at hrun
    split at hrun
    · split at hrun
      · exact ⟨_, _, rfl, Or.inr hrun⟩
      · exact ⟨_, _, rfl, Or.inl hrun⟩
    · split at hrun
      · exact ⟨_, _, rfl, Or.inl hrun⟩
      · exact ⟨_, _, rfl, Or.inr hrun⟩
  · rw [if_neg hend] at hrun
    split at hrun
    · exact ⟨_, _, rfl, Or.inr hrun⟩
    · exact ⟨_, _, rfl, Or.inl hrun⟩

/-- A RUNNING expiry spares every other channel but the mirrors, and leaves its leader's step start and loss to the expiry's end
(R67, R73, log 8). -/
theorem Ev.runExpiry_spares (hx : e.inExpiry = true) (hq : e.st.chans[d.val]'d.isLt = countedChannel q) (hs : q.play.state = .running)
    (ctx : StepContext) (hd : d ≠ c) (hc : (e.st.chans[c.val]'c.isLt).play.state ≠ .mirroring) :
    e.spares (e.runExpiry d ctx) c ∧ (e.runExpiry d ctx).starts = e.starts ||| q.startMask d
      ∧ (e.runExpiry d ctx).counted = e.counted
      ∧ ((e.runExpiry d ctx).lost = e.lost ∨ (e.runExpiry d ctx).lost = e.lost ||| maskOf d) := by
  obtain ⟨raw, pool, obtained, missed, fed, position, e', he', hends⟩ := Ev.runExpiry_ends hq hs ctx
  have hspares : e.spares e' c := by
    rw [he']
    exact (e.played_spares _ ctx raw pool obtained missed fed position hd hc).bits _ e.lost
  have hstate : (e'.st.chans[d.val]'d.isLt).play.state = .running := by
    obtain ⟨-, -, -, -, hplayed⟩ := playedChannel_play (startedChannel q ctx) ctx raw pool obtained missed position
    have hplay : (e'.st.chans[d.val]'d.isLt).play = (playedChannel (startedChannel q ctx) ctx raw pool obtained missed position).play := by
      rw [he']
      exact e.played_play position
    rw [hplay, hplayed, startedChannel_state, hs]
  rcases hends with hends | hends
  · rw [hends]
    exact ⟨hspares, by rw [he'], by rw [he']; rfl, by rw [he']; exact Or.inl rfl⟩
  · obtain ⟨hb, hstarts, hcounted, hlost⟩ := Ev.boundary_expiry (e := e') (by rw [he']; exact hx) hstate ctx hd
      (by rw [hspares.chan]; exact hc)
    rw [hends]
    refine ⟨hspares.trans hb, by rw [hstarts, he'], by rw [hcounted, he']; rfl, ?_⟩
    rw [he'] at hlost
    rw [he']
    exact hlost

end Sees

end Sys2Proof.Machine

namespace Sys2Proof.Machine

/-! ## A leader's step start and loss as its followers see them (R73, R78, R93) -/

section Offers

variable {e : Ev} {s t : State} {c d f lead : Chan} {ctx : StepContext} {ch : Channel}

/-- A change made for each of a list of channels reaches channel `f` once, and spares it before and after. -/
theorem Ev.forEach_at {l : List Chan} {F : Ev → Chan → Ev} (hl : l.Nodup) (hf : f ∈ l)
    (hm : (e.st.chans[f.val]'f.isLt).play.state ≠ .mirroring)
    (hother : ∀ e' : Ev, ∀ d, d ≠ f → (e'.st.chans[f.val]'f.isLt).play.state ≠ .mirroring → e'.spares (F e' d) f)
    (hself : ∀ e' : Ev, e.spares e' f → ((F e' f).st.chans[f.val]'f.isLt).play.state ≠ .mirroring) :
    ∃ e', e.spares e' f ∧ (F e' f).spares (e.forEach l F) f := by
  obtain ⟨l1, l2, rfl⟩ := List.append_of_mem hf
  obtain ⟨-, -, hdisj⟩ := List.nodup_append.1 hl
  have hpass : ∀ (l' : List Chan) (e1 : Ev), (∀ d ∈ l', d ≠ f) → (e1.st.chans[f.val]'f.isLt).play.state ≠ .mirroring →
      e1.spares (e1.forEach l' F) f := fun l' e1 hl' h1 => by
    refine Ev.forEach_spares fun e2 h2 d hd => hother e2 d (hl' d hd) ?_
    rw [h2.chan]
    exact h1
  have hbefore := hpass l1 e (fun d hd => hdisj d hd f (List.mem_cons_self ..)) hm
  refine ⟨e.forEach l1 F, hbefore, ?_⟩
  have hsplit : e.forEach (l1 ++ f :: l2) F = (F (e.forEach l1 F) f).forEach l2 F := by
    unfold Ev.forEach
    rw [List.foldl_append, List.foldl_cons]
  rw [hsplit]
  refine hpass l2 _ (fun d hd h => ?_) (hself _ hbefore)
  have hnodup := (List.nodup_append.1 hl).2.1
  rw [List.nodup_cons] at hnodup
  exact hnodup.1 (h ▸ hd)

theorem Ev.takeEntry_port (e : Ev) (c : Chan) (ctx : StepContext) : ∃ w : State, (e.takeEntry c ctx).st = w.resumeReader c ctx
    ∧ w.port = e.st.port ∧ (w.chans[c.val]'c.isLt).fetch = (e.st.chans[c.val]'c.isLt).fetch ∧ w.engine = e.st.engine := by
  refine ⟨(((e.setState c .running .none).modPlay c fun p => { p with waitCount := 0 }).becomePlaying c).st, rfl, ?_⟩
  simp [Ev.becomePlaying]

theorem Ev.takeEntry_grows {K : Transfer → Prop} (e : Ev) (c : Chan) (ctx : StepContext) :
    e.st.port.grows K (e.takeEntry c ctx).st.port := by
  obtain ⟨w, hw, hport, -⟩ := e.takeEntry_port c ctx
  rw [hw, ← hport]
  exact w.resumeReader_grows c ctx

theorem Ev.takeEntry_spares (e : Ev) (hd : d ≠ c) (ctx : StepContext) : e.spares (e.takeEntry d ctx) c := by
  obtain ⟨p, -, hact⟩ := e.takeEntry_act d ctx
  have hp : (e.takeEntry d ctx).st.port = p := by rw [hact]; rfl
  have hgrows := e.takeEntry_grows (K := fun t => t.chan? ≠ some d) d ctx
  rw [hp] at hgrows
  rw [hact]
  exact e.act_spares hd (by simp) hgrows

theorem State.resumeReads_congr (he : s.engine = t.engine) (hf : (s.chans[c.val]'c.isLt).fetch = (t.chans[c.val]'c.isLt).fetch) :
    s.resumeReads c ctx = t.resumeReads c ctx := by
  unfold State.resumeReads State.slotAddr State.settings
  rw [Fin.getElem_fin, Fin.getElem_fin, hf, he]

/-- The slot read of a resumed reader stands (R34). -/
theorem State.resumeReader_holds (s : State) (c : Chan) (ctx : StepContext) :
    ∀ r ∈ s.resumeReads c ctx, (s.resumeReader c ctx).port.holds r := by
  intro r hr
  unfold State.resumeReads at hr
  simp only [Fin.getElem_fin] at hr
  cases hsucc : ctx.successor with
  | none =>
    rw [hsucc] at hr
    cases hr
  | some slot =>
    rw [hsucc] at hr
    dsimp only at hr
    split at hr
    · next h =>
      obtain ⟨hdecision, hreader, hroom⟩ := h
      rw [List.mem_singleton.1 hr]
      unfold State.resumeReader
      simp only [Fin.getElem_fin]
      rw [if_pos ⟨hdecision, hreader⟩, hsucc, State.readerOn, State.readerTo_eq]
      simp only [Fin.getElem_fin]
      rw [if_pos hroom]
      exact State.raise_holds _ _
    · cases hr

theorem Ev.takeEntry_holds (e : Ev) (c : Chan) (ctx : StepContext) :
    ∀ r ∈ e.st.resumeReads c ctx, (e.takeEntry c ctx).st.port.holds r := by
  obtain ⟨w, hw, -, hfetch, hengine⟩ := e.takeEntry_port c ctx
  rw [hw, ← State.resumeReads_congr (s := w) hengine hfetch]
  exact w.resumeReader_holds c ctx

theorem State.resumeReads_chan (s : State) (c : Chan) (ctx : StepContext) : ∀ r ∈ s.resumeReads c ctx, r.kind.chan? = some c := by
  intro r hr
  unfold State.resumeReads at hr
  dsimp only at hr
  split at hr
  · split at hr
    · rw [List.mem_singleton.1 hr]
      rfl
    · cases hr
  · cases hr

/-- A leader's step start as one channel takes it (R73, R78). -/
def Ev.offerTo (leader : Chan) (counted : BitVec 8) (e : Ev) (f : Chan) : Ev :=
  let ch := e.chan f
  if ch.follows f leader then
    if ch.play.state = .waiting ∧ ch.play.wait = .leader ∧ inMask counted f then
      match ch.headStep with
      | some ctx => e.takeEntry f ctx
      | none => e
    else if ch.attendsAdvance .leader ∧ 2 ≤ ch.play.stepExpiries then
      e.modPlay f fun p => { p with advanceSeen := true }
    else e
  else e

theorem Ev.offerLeaderStart_eq (e : Ev) (leader : Chan) (counted : BitVec 8) :
    e.offerLeaderStart leader counted = e.forEach allChans (Ev.offerTo leader counted) := rfl

theorem Ev.offerTo_spares (e : Ev) (leader : Chan) (counted : BitVec 8) (hd : d ≠ c) : e.spares (Ev.offerTo leader counted e d) c := by
  unfold Ev.offerTo
  dsimp only
  split
  · split
    · split
      · exact e.takeEntry_spares hd _
      · exact e.spares_refl c
    · split
      · rw [Ev.modPlay_act]
        exact e.act_spares hd (by simp) (Port.grows_refl _ _)
      · exact e.spares_refl c
  · exact e.spares_refl c

/-- What a follower's channel is after a leader's step start is offered to it (R73, R78). -/
theorem Ev.offerTo_takes {leader : Chan} {counted : BitVec 8} (hf : (e.st.chans[f.val]'f.isLt).follows f leader = true)
    (hs : (e.st.chans[f.val]'f.isLt).play.state = .waiting) (hw : (e.st.chans[f.val]'f.isLt).play.wait = .leader) (hm : inMask counted f = true)
    (hstep : (e.st.chans[f.val]'f.isLt).headStep = some ctx) : Ev.offerTo leader counted e f = e.takeEntry f ctx := by
  unfold Ev.offerTo
  dsimp only
  rw [Ev.chan_eq, if_pos hf, if_pos ⟨hs, hw, hm⟩, hstep]

theorem Ev.offerTo_advances {leader : Chan} {counted : BitVec 8} (hf : (e.st.chans[f.val]'f.isLt).follows f leader = true)
    (hs : (e.st.chans[f.val]'f.isLt).play.state = .running) :
    Ev.offerTo leader counted e f
      = if (e.st.chans[f.val]'f.isLt).attendsAdvance .leader ∧ 2 ≤ (e.st.chans[f.val]'f.isLt).play.stepExpiries then
          e.modPlay f fun p => { p with advanceSeen := true } else e := by
  unfold Ev.offerTo
  dsimp only
  rw [Ev.chan_eq, if_pos hf, if_neg (by rw [hs]; exact fun h => by cases h.1)]

/-- A leader's step start, as an event of its own, at one channel (R73, R78). -/
theorem offer_event {leader : Chan} {counted : BitVec 8} (hm : (s.chans[f.val]'f.isLt).play.state ≠ .mirroring)
    (hself : ∀ e : Ev, (Ev.of s false).spares e f → ((Ev.offerTo leader counted e f).st.chans[f.val]'f.isLt).play.state ≠ .mirroring) :
    ∃ e, (Ev.of s false).spares e f
      ∧ (Ev.offerTo leader counted e f).spares ((Ev.of s false).offerLeaderStart leader counted) f := by
  rw [Ev.offerLeaderStart_eq]
  exact Ev.forEach_at allChans_nodup (mem_allChans f) hm (fun e' d hd _ => e'.offerTo_spares leader counted hd) hself

/-! ### The loss of a leader (R93) -/

/-- All of a channel but its group and its per-record conditions. -/
def Channel.exceptGroup (ch ch' : Channel) : Prop :=
  ∃ r g, ch' = { ch with perRecord := r, play := { ch.play with group := g } }

/-- The loss of a leader as one channel takes it (R93). -/
def Ev.loseTo (leader : Chan) (x : Bool) (counted : BitVec 8) (e : Ev) (f : Chan) : Ev :=
  if (e.chan f).follows f leader then
    let e1 := e.modPlay f fun p => p.modGroup fun g => { g with leaderLost := true }
    if (e1.chan f).play.state = .waiting ∧ (e1.chan f).play.wait = .leader then
      e1.stopCore f .leaderGone (x && !inMask counted f)
    else e1
  else e

theorem Ev.loseLeader_eq (e : Ev) (leader : Chan) (x : Bool) (counted : BitVec 8) :
    e.loseLeader leader x counted = e.forEach allChans (Ev.loseTo leader x counted) := rfl

theorem Ev.loseTo_spares (e : Ev) (leader : Chan) (x : Bool) (counted : BitVec 8) (hd : d ≠ c)
    (hc : (e.st.chans[c.val]'c.isLt).play.state ≠ .mirroring) : e.spares (Ev.loseTo leader x counted e d) c := by
  unfold Ev.loseTo
  dsimp only
  split
  · rw [Ev.modPlay_act]
    have hmod := e.act_spares (ch := { e.st.chans[d.val]'d.isLt with play := (e.st.chans[d.val]'d.isLt).play.modGroup fun g =>
      { g with leaderLost := true } }) (p := e.st.port) (rs := []) (a := false) hd (by simp) (Port.grows_refl _ _)
    split
    · rw [Ev.stopCore_eq _ _ _ _ (Or.inr (Or.inl (by decide)))]
      have hclose := Ev.closeEpisode_spares (e.act d { e.st.chans[d.val]'d.isLt with play := (e.st.chans[d.val]'d.isLt).play.modGroup fun g =>
        { g with leaderLost := true } } e.st.port [] false) hd
      refine hmod.trans (hclose.trans (Ev.stopFrom_spares _ hd ?_ _ _))
      rw [hclose.chan, hmod.chan]
      exact hc
    · exact hmod
  · exact e.spares_refl c

/-- A running channel that loses its leader keeps all but its group (R93). -/
theorem Ev.loseTo_running (e : Ev) (leader : Chan) (x : Bool) (counted : BitVec 8)
    (hs : (e.st.chans[f.val]'f.isLt).play.state = .running) : ∃ g, Ev.loseTo leader x counted e f
      = e.act f { e.st.chans[f.val]'f.isLt with play := { (e.st.chans[f.val]'f.isLt).play with group := g } } e.st.port [] false := by
  unfold Ev.loseTo
  split
  · dsimp only
    rw [Ev.modPlay_act, if_neg]
    · exact ⟨_, rfl⟩
    · rw [Ev.chan_eq, Ev.act_st, State.put_chan]
      show ¬((e.st.chans[f.val]'f.isLt).play.state = .waiting ∧ _)
      rw [hs]
      exact fun h => by cases h.1
  · exact ⟨(e.st.chans[f.val]'f.isLt).play.group, (e.act_self f).symm⟩

theorem Channel.exceptGroup.trans {a b c : Channel} (h : a.exceptGroup b) (g : b.exceptGroup c) : a.exceptGroup c := by
  obtain ⟨r, m, rfl⟩ := h
  obtain ⟨r', m', rfl⟩ := g
  exact ⟨r', m', rfl⟩

theorem Channel.exceptGroup_refl (a : Channel) : a.exceptGroup a := ⟨a.perRecord, a.play.group, rfl⟩

/-- The end of an expiry at which leaders are lost, at a RUNNING channel (R93, log 8). -/
theorem lost_running {l : List Chan} {counted : BitVec 8} (hs : (s.chans[f.val]'f.isLt).play.state = .running) :
    (s.chans[f.val]'f.isLt).exceptGroup ((l.foldl (fun s d => s.event fun e' => e'.loseLeader d true counted) s).chans[f.val]'f.isLt)
      ∧ ∀ r : Request, r.kind.chan? = some f → s.port.holds r →
        (l.foldl (fun s d => s.event fun e' => e'.loseLeader d true counted) s).port.holds r := by
  refine List.foldlRecOn (motive := fun t : State => (s.chans[f.val]'f.isLt).exceptGroup (t.chans[f.val]'f.isLt)
    ∧ ∀ r : Request, r.kind.chan? = some f → s.port.holds r → t.port.holds r) l _ ⟨Channel.exceptGroup_refl _, fun _ _ h => h⟩
    fun t ⟨ht, hr⟩ d _ => ?_
  have hstate : (t.chans[f.val]'f.isLt).play.state = .running := by
    obtain ⟨r, g, ht⟩ := ht
    rw [ht]
    exact hs
  have hbefore : ∀ e : Ev, (Ev.of t false).spares e f → (e.st.chans[f.val]'f.isLt).play.state = .running := fun e h => by
    rw [h.chan]
    exact hstate
  obtain ⟨e, hspares, hafter⟩ := Ev.forEach_at (e := Ev.of t false) (F := Ev.loseTo d true counted) allChans_nodup (mem_allChans f)
    (by rw [Ev.of_st, hstate]; decide) (fun e' d' hd' hm' => e'.loseTo_spares d true counted hd' hm') (fun e' he' => by
      obtain ⟨g, hg⟩ := e'.loseTo_running d true counted (hbefore e' he')
      rw [hg, Ev.act_st, State.put_chan]
      show (e'.st.chans[f.val]'f.isLt).play.state ≠ .mirroring
      rw [hbefore e' he']
      decide)
  obtain ⟨g, hg⟩ := e.loseTo_running d true counted (hbefore e hspares)
  refine ⟨ht.trans ?_, fun r hk hhold => ?_⟩
  · refine ⟨(((Ev.of t false).loseLeader d true counted).finish.chans[f.val]'f.isLt).perRecord, g, ?_⟩
    have hfinal := Ev.finish_chan ((Ev.of t false).loseLeader d true counted) f
    rw [Ev.loseLeader_eq, hafter.chan, hg, Ev.act_st, State.put_chan, hspares.chan] at hfinal
    exact hfinal
  · have hport : e.st.port.holds r := hspares.port.holds (Or.inr hk) (hr r hk hhold)
    have hmid : (Ev.loseTo d true counted e f).st.port.holds r := by
      rw [hg]
      exact hport
    exact hafter.finish_holds (Or.inr hk) hmid

end Offers

end Sys2Proof.Machine

namespace Sys2Proof.Machine

/-! ## The expiry of a generator with a leader and one follower (R69, R73, R78) -/

/-- The end of an expiry's run: leader step starts are offered and lost leaders told (R73, R78, R93; log 8). -/
def ExpiryRun.over (r : ExpiryRun) : State :=
  (members r.lost).foldl (fun s d => s.event fun e => e.loseLeader d true r.counted)
    ((members r.starts).foldl (fun s d => s.event fun e => e.offerLeaderStart d r.counted) r.st)

section Pair

variable {s : State} {g : GenIx} {lead f : Chan} {ctx step : StepContext} {n : Nat}

theorem State.attached_pair (hne : lead ≠ f) (h : ∀ d : Chan, (s.chans[d]'d.isLt).play.generator = g ↔ d = lead ∨ d = f) :
    s.attached g = [lead, f] ∨ s.attached g = [f, lead] := by
  unfold State.attached
  simp only [h]
  exact (by decide : ∀ lead f : Chan, lead ≠ f → allChans.filter (fun d => decide (d = lead ∨ d = f)) = [lead, f]
    ∨ allChans.filter (fun d => decide (d = lead ∨ d = f)) = [f, lead]) lead f hne

/-- The poll of an expiry looks at its channel and the settings alone (R38). -/
theorem State.polled_chan_congr {s t : State} {c : Chan} (he : s.engine = t.engine) (hc : s.chans[c.val]'c.isLt = t.chans[c.val]'c.isLt) :
    (s.polled c).chans[c.val]'c.isLt = (t.polled c).chans[c.val]'c.isLt := by
  have hsettings : s.settings c = t.settings c := by unfold State.settings; rw [he]
  have hreaches : s.pollReaches c ↔ t.pollReaches c := by unfold State.pollReaches; rw [hc, hsettings]
  by_cases h : (s.chans[c.val]'c.isLt).fetch.reader = .atFrontier ∧ (s.settings c).frontierPoll ≠ 0
  · have h' : (t.chans[c.val]'c.isLt).fetch.reader = .atFrontier ∧ (t.settings c).frontierPoll ≠ 0 := by rwa [← hc, ← hsettings]
    by_cases hr : s.pollReaches c
    · rw [State.polled_reads h hr, State.polled_reads h' (hreaches.1 hr), State.put_chan, State.put_chan, hc]
    · rw [State.polled_counts h hr, State.polled_counts h' fun h => hr (hreaches.2 h), State.put_chan, State.put_chan, hc]
  · rw [State.polled_off h, State.polled_off (s := t) (by rwa [← hc, ← hsettings]), hc]

/-- A channel as an expiry counts it (R38, R66). -/
def State.countedAt (s : State) (c : Chan) : Channel := countedChannel ((s.polled c).chans[c.val]'c.isLt)

theorem State.polled_same (s : State) (c : Chan) : ((s.polled c).chans[c.val]'c.isLt).play = (s.chans[c.val]'c.isLt).play
    ∧ ((s.polled c).chans[c.val]'c.isLt).headStep = (s.chans[c.val]'c.isLt).headStep ∧ ((s.polled c).chans[c.val]'c.isLt).level = (s.chans[c.val]'c.isLt).level
    ∧ ((s.polled c).chans[c.val]'c.isLt).fetch.window = (s.chans[c.val]'c.isLt).fetch.window
    ∧ ((s.polled c).chans[c.val]'c.isLt).fetch.epoch = (s.chans[c.val]'c.isLt).fetch.epoch
    ∧ (((s.polled c).chans[c.val]'c.isLt).fetch.reader = .decisionPause ↔ (s.chans[c.val]'c.isLt).fetch.reader = .decisionPause) := by
  by_cases h : (s.chans[c.val]'c.isLt).fetch.reader = .atFrontier ∧ (s.settings c).frontierPoll ≠ 0
  · by_cases hr : s.pollReaches c
    · rw [State.polled_reads h hr, State.put_chan]
      exact ⟨rfl, rfl, rfl, rfl, rfl, by simp [polledFetch, h.1]⟩
    · rw [State.polled_counts h hr, State.put_chan]
      exact ⟨rfl, rfl, rfl, rfl, rfl, by simp [polledFetch, h.1]⟩
  · rw [State.polled_off h]
    exact ⟨rfl, rfl, rfl, rfl, rfl, Iff.rfl⟩

/-- Both channels count the expiry, each on its own (R38, R66). -/
theorem State.countExpiry_two {x y : Chan} (hne : x ≠ y) (hx : (s.chans[x.val]'x.isLt).play.state.counts = true)
    (hy : (s.chans[y.val]'y.isLt).play.state.counts = true) :
    ((s.countExpiry x).countExpiry y).chans[x.val]'x.isLt = s.countedAt x ∧ (((s.countExpiry x).countExpiry y).chans[y.val]'y.isLt) = s.countedAt y
      ∧ ((s.countExpiry x).countExpiry y).engine = s.engine := by
  obtain ⟨p, -, hfirst⟩ := State.countExpiry_put hx
  have hother : (s.countExpiry x).chans[y.val]'y.isLt = s.chans[y.val]'y.isLt := by rw [hfirst, State.put_other _ _ _ hne]
  obtain ⟨p', -, hsecond⟩ := State.countExpiry_put (s := s.countExpiry x) (c := y) (by rw [hother]; exact hy)
  have hengine : (s.countExpiry x).engine = s.engine := by rw [hfirst]; rfl
  have hpolled := State.polled_chan_congr (c := y) hengine hother
  rw [hsecond]
  refine ⟨?_, ?_, hengine⟩
  · rw [State.put_other _ _ _ (Ne.symm hne), hfirst, State.put_chan]
    rfl
  · rw [State.put_chan, hpolled]
    rfl

/-- The expiry of a generator with two channels, neither of them ARMED: each counts it and acts in channel order (R66, R115). -/
theorem State.expire_pair (hrun : s.gens[g].running = true) (hne : lead ≠ f)
    (h : ∀ d : Chan, (s.chans[d]'d.isLt).play.generator = g ↔ d = lead ∨ d = f)
    (hlead : (s.chans[lead.val]'lead.isLt).play.state.counts = true ∧ (s.chans[lead.val]'lead.isLt).play.state ≠ .armed)
    (hf : (s.chans[f.val]'f.isLt).play.state.counts = true ∧ (s.chans[f.val]'f.isLt).play.state ≠ .armed) :
    ∃ x y v, (x = lead ∧ y = f ∨ x = f ∧ y = lead) ∧ (v.chans[lead.val]'lead.isLt) = s.countedAt lead ∧ (v.chans[f.val]'f.isLt) = s.countedAt f
      ∧ v.engine = s.engine
      ∧ exec (.expiry g) s = .next (((ExpiryRun.mk v 0 0 0).event fun e => e.channelExpiry x).event fun e => e.channelExpiry y).over := by
  obtain ⟨s', hs'⟩ : ∃ s', s' = s.modGen g Gen.reload := ⟨_, rfl⟩
  have hchans : s'.chans = s.chans := by rw [hs']; rfl
  have hengine : s'.engine = s.engine := by rw [hs']; rfl
  have hatt : s'.attached g = [lead, f] ∨ s'.attached g = [f, lead] := State.attached_pair hne (by rw [hchans]; exact h)
  have hcounted : ∀ c : Chan, s'.countedAt c = s.countedAt c := fun c => by
    unfold State.countedAt
    rw [State.polled_chan_congr hengine (by rw [hchans])]
  have hplay : ∀ c : Chan, (s'.countedAt c).play.state = (s.chans[c.val]'c.isLt).play.state := fun c => by
    rw [hcounted, ← (State.polled_same s c).1]
    rfl
  have hpass : ∀ x y : Chan, x ≠ y → s'.attached g = [x, y] → (s.chans[x.val]'x.isLt).play.state.counts = true →
      (s.chans[x.val]'x.isLt).play.state ≠ .armed → (s.chans[y.val]'y.isLt).play.state.counts = true → (s.chans[y.val]'y.isLt).play.state ≠ .armed →
      exec (.expiry g) s = .next (((ExpiryRun.mk ((s'.countExpiry x).countExpiry y) 0 0 0).event fun e => e.channelExpiry x).event
        fun e => e.channelExpiry y).over := by
    intro x y hxy hatt hx hxa hy hya
    obtain ⟨hchanx, hchany, -⟩ := State.countExpiry_two (s := s') hxy (by rw [hchans]; exact hx) (by rw [hchans]; exact hy)
    have hlaunch : ((s'.countExpiry x).countExpiry y).launching [x, y] = [] := by
      have h1 := State.launchDue_unarmed (s := (s'.countExpiry x).countExpiry y) (c := x) (by rw [hchanx, hplay]; exact hxa)
      have h2 := State.launchDue_unarmed (s := (s'.countExpiry x).countExpiry y) (c := y) (by rw [hchany, hplay]; exact hya)
      simp [State.launching, h1, h2]
    show Host.Outcome.next (s.expire g) = _
    unfold State.expire State.expireChannels
    rw [if_pos hrun, ← hs', hatt]
    simp only [List.foldl_cons, List.foldl_nil, hlaunch]
    simp [State.launches, ExpiryRun.over]
  rcases hatt with hatt | hatt
  · obtain ⟨h1, h2, h3⟩ := State.countExpiry_two (s := s') hne (by rw [hchans]; exact hlead.1) (by rw [hchans]; exact hf.1)
    exact ⟨lead, f, _, Or.inl ⟨rfl, rfl⟩, h1.trans (hcounted lead), h2.trans (hcounted f), h3.trans hengine,
      hpass lead f hne hatt hlead.1 hlead.2 hf.1 hf.2⟩
  · obtain ⟨h1, h2, h3⟩ := State.countExpiry_two (s := s') (Ne.symm hne) (by rw [hchans]; exact hf.1) (by rw [hchans]; exact hlead.1)
    exact ⟨f, lead, _, Or.inr ⟨rfl, rfl⟩, h2.trans (hcounted lead), h1.trans (hcounted f), h3.trans hengine,
      hpass f lead (Ne.symm hne) hatt hf.1 hf.2 hlead.1 hlead.2⟩

/-- What the leader's part of an expiry does: it leaves the follower as it is, and its bits are those of a leader (R69, R93). -/
structure LeaderPart (lead f : Chan) (starts : BitVec 8) (lost : BitVec 8 → Prop) (v : State) (e : Ev) : Prop where
  chan : e.finish.chans[f.val]'f.isLt = v.chans[f.val]'f.isLt
  engine : e.finish.engine = v.engine
  starts : e.starts = starts
  counted : e.counted = 0
  lost : lost e.lost

/-- What the follower's part of an expiry does: it leaves the leader as it is, and `Q` holds of it. -/
structure FollowerPart (lead f : Chan) (counted : BitVec 8) (Q : Channel → Prop) (v : State) (e : Ev) : Prop where
  chan : (v.chans[lead.val]'lead.isLt).play.state ≠ .mirroring → (e.finish.chans[lead.val]'lead.isLt) = v.chans[lead.val]'lead.isLt
  engine : e.finish.engine = v.engine
  starts : e.starts = 0
  counted : e.counted = counted
  lost : e.lost = 0
  holds : Q (e.finish.chans[f.val]'f.isLt)

/-- Both parts of the expiry, in either order. -/
theorem pair_run {x y : Chan} {v : State} {starts counted : BitVec 8} {lost : BitVec 8 → Prop} {Q : Channel → Prop} {L F : Channel}
    (hxy : x = lead ∧ y = f ∨ x = f ∧ y = lead) (hL : v.chans[lead.val]'lead.isLt = L) (hF : v.chans[f.val]'f.isLt = F)
    (hLm : L.play.state ≠ .mirroring) (hFm : F.play.state ≠ .mirroring) (hQ : ∀ ch, Q ch → ch.play.state ≠ .mirroring)
    (hlead : ∀ w : State, w.chans[lead.val]'lead.isLt = L → (w.chans[f.val]'f.isLt).play.state ≠ .mirroring →
      LeaderPart lead f starts lost w ((Ev.of w true).channelExpiry lead))
    (hf : ∀ w : State, w.chans[f.val]'f.isLt = F → FollowerPart lead f counted Q w ((Ev.of w true).channelExpiry f)) :
    ∃ r : ExpiryRun, (((ExpiryRun.mk v 0 0 0).event fun e => e.channelExpiry x).event fun e => e.channelExpiry y) = r
      ∧ Q (r.st.chans[f.val]'f.isLt) ∧ r.st.engine = v.engine ∧ r.starts = starts ∧ r.counted = counted ∧ lost r.lost := by
  have hor : ∀ m : BitVec 8, 0 ||| m ||| 0 = m ∧ 0 ||| 0 ||| m = m := fun m => ⟨by simp, by simp⟩
  obtain ⟨E1, hE1⟩ : ∃ E, E = (Ev.of v true).channelExpiry x := ⟨_, rfl⟩
  obtain ⟨E2, hE2⟩ : ∃ E, E = (Ev.of E1.finish true).channelExpiry y := ⟨_, rfl⟩
  refine ⟨⟨E2.finish, 0 ||| E1.starts ||| E2.starts, 0 ||| E1.counted ||| E2.counted, 0 ||| E1.lost ||| E2.lost⟩, ?_, ?_⟩
  · rw [hE2, hE1]
    rfl
  rcases hxy with ⟨rfl, rfl⟩ | ⟨rfl, rfl⟩
  · obtain ⟨h1, h2, h3, h4, h5⟩ := hE1 ▸ hlead v hL (by rw [hF]; exact hFm)
    obtain ⟨-, k2, k3, k4, k5, k6⟩ := hE2 ▸ hf E1.finish (h1.trans hF)
    dsimp only
    rw [h3, k3, h4, k4, k5, (hor _).1, (hor _).2, (hor _).1]
    exact ⟨k6, k2.trans h2, rfl, rfl, h5⟩
  · obtain ⟨k1, k2, k3, k4, k5, k6⟩ := hE1 ▸ hf v hF
    obtain ⟨h1, h2, h3, h4, h5⟩ := hE2 ▸ hlead E1.finish ((k1 (by rw [hL]; exact hLm)).trans hL) (hQ _ k6)
    dsimp only
    rw [h1, h3, k3, h4, k4, k5, (hor _).2, (hor _).1, (hor _).2]
    exact ⟨k6, h2.trans k2, rfl, rfl, h5⟩

/-- The leader's part of the expiry (R67, R69). -/
theorem leader_part {L : Channel} {w : State} (hne : lead ≠ f) (hL : w.chans[lead.val]'lead.isLt = countedChannel L) (hplays : L.plays ctx)
    (hm : (w.chans[f.val]'f.isLt).play.state ≠ .mirroring) :
    LeaderPart lead f (L.startMask lead) (fun lost => (lost = 0 ∨ lost = maskOf lead)
      ∧ (L.play.stepExpiries ≠ 0 → L.play.offset < ctx.wEff → nextPosition L.play ctx ≠ none → lost = 0))
      w ((Ev.of w true).channelExpiry lead) := by
  obtain ⟨hs, hstep⟩ := hplays
  have hchan : (Ev.of w true).st.chans[lead.val]'lead.isLt = countedChannel L := hL
  have hexp : (Ev.of w true).channelExpiry lead = ((Ev.of w true).runExpiry lead ctx).coded lead :=
    Ev.channelExpiry_running (by rw [Ev.chan, Fin.getElem_fin, hchan]; exact hs) (by rw [Ev.chan, Fin.getElem_fin, hchan]; exact hstep)
  obtain ⟨hspares, hstarts, hcounted, hlost⟩ := Ev.runExpiry_spares (e := Ev.of w true) rfl hchan hs ctx hne hm
  have hfinal := hspares.trans (Ev.coded_spares _ hne)
  have hzero : ∀ m : BitVec 8, 0 ||| m = m := fun m => BitVec.zero_or
  have hbits : (((Ev.of w true).runExpiry lead ctx).coded lead).starts = ((Ev.of w true).runExpiry lead ctx).starts
      ∧ (((Ev.of w true).runExpiry lead ctx).coded lead).counted = ((Ev.of w true).runExpiry lead ctx).counted
      ∧ (((Ev.of w true).runExpiry lead ctx).coded lead).lost = ((Ev.of w true).runExpiry lead ctx).lost := ⟨rfl, rfl, rfl⟩
  obtain ⟨hbs, hbc, hbl⟩ := hbits
  rw [hexp]
  refine ⟨hfinal.finish_same (by simp), hfinal.finish_sameRest.1, ?_, hbc.trans hcounted, ?_, fun hx hw hn => ?_⟩
  · rw [hbs, hstarts]
    exact hzero _
  · rw [hbl]
    exact hlost.imp id fun h => h.trans (hzero _)
  · have hstarted : (startedChannel L ctx).play.offset = L.play.offset
        ∧ nextPosition (startedChannel L ctx).play ctx = nextPosition L.play ctx := by
      unfold startedChannel
      dsimp only
      rw [if_neg hx]
      split <;> exact ⟨rfl, rfl⟩
    obtain ⟨raw, pool, obtained, missed, fed, ho⟩ := (startedChannel L ctx).obtains_exists ctx
    obtain ⟨position, hnext⟩ := Option.ne_none_iff_exists'.1 (hstarted.2 ▸ hn)
    obtain ⟨starts, -, hplayed, -⟩ := Ev.runExpiry_cases (e := Ev.of w true) hchan rfl ((startedChannel_state L ctx).trans hs)
      (by rw [hstarted.1]; exact hw) ho
    rw [hbl, hplayed position hnext]
    rfl

end Pair

end Sys2Proof.Machine

namespace Sys2Proof.Machine

section Follower

variable {s w : State} {g : GenIx} {lead f : Chan} {ctx step : StepContext} {n : Nat} {F b : Channel} {raw : Int} {pool : Pool}
  {obtained missed fed : Bool}

theorem State.withSample_window (s : State) (c : Chan) (b : Channel) (raw : Int) (pool : Pool) (missed fed : Bool) :
    ((s.withSample c b raw pool missed fed).chans[c.val]'c.isLt).fetch.window = b.fetch.window := by
  unfold State.withSample
  dsimp only
  split
  · obtain ⟨data, owed, reserve, hfed⟩ := (s.put c (obtainedChannel b raw pool missed) s.port).fed_eq c
    rw [State.feed_put, State.put_chan, hfed, State.put_chan]
    rfl
  · rw [State.put_chan]
    rfl

theorem Channel.headStep_congr {ch ch' : Channel} (h : ch.fetch.window = ch'.fetch.window) : ch.headStep = ch'.headStep := by
  unfold Channel.headStep Channel.head
  rw [h]

/-- A follower's wait goes on at an expiry (R72). -/
theorem follower_waits (hne : lead ≠ f) (hF : w.chans[f.val]'f.isLt = F) (hs : F.play.state = .waiting) (hw : F.play.wait = .leader)
    (hstep : F.headStep = some step)
    (hn : step.decision = true → wrap32 (F.play.waitCount + 1) ≠ step.body.waitTimeout) :
    FollowerPart lead f (maskOf f) (fun ch => ch = waitingOn F step) w ((Ev.of w true).channelExpiry f) := by
  have hchan : (Ev.of w true).st.chans[f.val]'f.isLt = F := hF
  have hmirror : F.play.state ≠ .mirroring := by rw [hs]; decide
  obtain ⟨g, e', he', hwaits⟩ := Ev.waitExpiry_eq (c := f) (Ev.of w true) step (by rw [hchan]; exact hmirror)
  rw [hchan] at he' hwaits
  rw [if_neg fun h => hn ((Play.timeoutDue_iff _ _).1 h).1 ((Play.timeoutDue_iff _ _).1 h).2, if_pos hw] at hwaits
  have hexp : (Ev.of w true).channelExpiry f
      = { ((Ev.of w true).moved f g).act f (waitingOn F step) w.port [] false with counted := 0 ||| maskOf f } := by
    rw [Ev.channelExpiry_waiting (ctx := step) (by rw [Ev.chan, Fin.getElem_fin, hchan, Play.inEntryWait, hs, hw])
      (by rw [Ev.chan, Fin.getElem_fin, hchan]; exact hstep), hwaits, he']
    exact congrArg (fun e : Ev => { e with counted := 0 ||| maskOf f }) (Ev.coded_act _)
  rw [hexp]
  refine ⟨fun hm => ?_, ?_, rfl, BitVec.zero_or, rfl, ?_⟩
  · refine ((Ev.moved_spares _ f g hm).trans (Ev.act_spares (ch := waitingOn F step) (p := w.port) (rs := []) (a := false) _ (Ne.symm hne)
      (by simp) (Port.grows_refl _ _))).finish_same (e' := Ev.act ((Ev.of w true).moved f g) f (waitingOn F step) w.port [] false) (by simp)
  · have hsame : w.sameRest (Ev.act ((Ev.of w true).moved f g) f (waitingOn F step) w.port [] false).finish :=
      (State.sameButChannels_trans (State.mirrorsMoved_sameButChannels ..) (State.put_sameButChannels ..)).sameRest.trans
        (Ev.finish_records _).sameRest
    exact hsame.1
  · have hquiet := Ev.finish_quiet (e := Ev.act ((Ev.of w true).moved f g) f (waitingOn F step) w.port [] false) (c := f) (by simp)
    refine Eq.trans hquiet ?_
    exact State.put_chan ..

/-- What a follower that plays an open repeat is after an expiry (R67, R78). -/
structure Channel.playsOn (q ch : Channel) (step : StepContext) : Prop where
  state : ch.play.state = .running
  head : ch.headStep = some step
  expiries : ch.play.stepExpiries = q.play.stepExpiries + 1
  group : ch.play.group = q.play.group
  advance : ch.play.advanceSeen = (startedChannel q step).play.advanceSeen

theorem playedChannel_fields (b : Channel) (ctx : StepContext) (raw : Int) (pool : Pool) (obtained missed : Bool)
    (position : Nat × Nat × Nat) : (playedChannel b ctx raw pool obtained missed position).play.stepExpiries = b.play.stepExpiries + 1
      ∧ (playedChannel b ctx raw pool obtained missed position).play.group = b.play.group := by
  unfold playedChannel shownChannel
  dsimp only
  split <;> exact ⟨rfl, rfl⟩

theorem startedChannel_fields (q : Channel) (ctx : StepContext) : (startedChannel q ctx).play.group = q.play.group
    ∧ (startedChannel q ctx).fetch = q.fetch ∧ (q.play.stepExpiries = 0 → (startedChannel q ctx).play.advanceSeen = false) := by
  unfold startedChannel
  dsimp only
  split
  · exact ⟨rfl, rfl, fun _ => rfl⟩
  · next h => split <;> exact ⟨rfl, rfl, fun h' => (h h').elim⟩

/-- A follower plays on at an expiry (R67). -/
theorem follower_plays {q : Channel} (hne : lead ≠ f) (hF : w.chans[f.val]'f.isLt = countedChannel q) (hplays : q.plays step)
    (hlead : q.leadsLaunched f = false) (hw : (startedChannel q step).play.offset < step.wEff)
    (hn : nextPosition (startedChannel q step).play step ≠ none) :
    FollowerPart lead f 0 (fun ch => q.playsOn ch step) w ((Ev.of w true).channelExpiry f) := by
  obtain ⟨hs, hstep⟩ := hplays
  have hchan : (Ev.of w true).st.chans[f.val]'f.isLt = countedChannel q := hF
  obtain ⟨raw, pool, obtained, missed, fed, ho⟩ := (startedChannel q step).obtains_exists step
  obtain ⟨position, hnext⟩ := Option.ne_none_iff_exists'.1 hn
  obtain ⟨starts, hstarts, hplayed, -⟩ := Ev.runExpiry_cases (e := Ev.of w true) hchan rfl ((startedChannel_state q step).trans hs) hw ho
  have hmask : q.startMask f = 0 := if_neg fun h => by rw [hlead] at h; cases h.2
  obtain ⟨e', he'⟩ : ∃ e', e' = ((Ev.of w true).played f (startedChannel q step) step raw pool obtained missed fed position).coded f :=
    ⟨_, rfl⟩
  have hexp : (Ev.of w true).channelExpiry f = { e' with starts := starts } := by
    rw [Ev.channelExpiry_running (by rw [Ev.chan, Fin.getElem_fin, hchan]; exact hs)
      (by rw [Ev.chan, Fin.getElem_fin, hchan]; exact hstep), hplayed position hnext, he']
    rfl
  have hfields := playedChannel_fields (startedChannel q step) step raw pool obtained missed position
  obtain ⟨-, -, -, hadvance, hstate⟩ := playedChannel_play (startedChannel q step) step raw pool obtained missed position
  obtain ⟨hgroup, hfetch, -⟩ := startedChannel_fields q step
  have hplay : (e'.finish.chans[f.val]'f.isLt).play
      = (playedChannel (startedChannel q step) step raw pool obtained missed position).play := by
    rw [Ev.finish_chan, he', Ev.coded, Ev.modLevel_act, Ev.act_st, State.put_chan]
    exact (Ev.of w true).played_play position
  rw [hexp]
  refine ⟨fun hm => ?_, ?_, hstarts.trans (by rw [hmask]; exact BitVec.or_zero), by rw [he']; rfl, by rw [he']; rfl, ?_⟩
  · have hspares := ((Ev.of w true).played_spares (startedChannel q step) step raw pool obtained missed fed position (Ne.symm hne) hm).trans
      (Ev.coded_spares _ (Ne.symm hne))
    rw [he']
    exact hspares.finish_same (by simp)
  · have hsame : w.sameRest e'.finish := by
      refine (State.sameButChannels.sameRest ?_).trans (Ev.finish_records _).sameRest
      rw [he', Ev.coded, Ev.modLevel_act]
      exact State.sameButChannels_trans (State.sameButChannels_trans (State.mirrorsMoved_sameButChannels ..)
        (State.put_sameButChannels ..)) (State.put_sameButChannels ..)
    exact hsame.1
  · refine ⟨?_, ?_, ?_, ?_, ?_⟩
    · refine (congrArg Play.state hplay).trans (hstate.trans ((startedChannel_state q step).trans hs))
    · have hwindow : (e'.finish.chans[f.val]'f.isLt).fetch.window = q.fetch.window := by
        rw [Ev.finish_chan, he', Ev.coded, Ev.modLevel_act, Ev.act_st, State.put_chan, Ev.played_chan]
        refine Eq.trans (State.withSample_window w f (startedChannel q step) raw pool missed fed) ?_
        rw [hfetch]
      exact (Channel.headStep_congr hwindow).trans hstep
    · refine (congrArg Play.stepExpiries hplay).trans (hfields.1.trans ?_)
      rw [startedChannel_stepExpiries]
    · exact (congrArg Play.group hplay).trans (hfields.2.trans hgroup)
    · exact (congrArg Play.advanceSeen hplay).trans hadvance

end Follower

end Sys2Proof.Machine

namespace Sys2Proof.Machine

section Told

variable {s : State} {g : GenIx} {lead f : Chan} {ctx step : StepContext} {n : Nat}

/-- A channel's polled fetch context resumes as the one before the poll does (R34, R38). -/
theorem State.polled_resumeReads {r : State} (he : r.engine = s.engine)
    (hf : (r.chans[f.val]'f.isLt).fetch = ((s.polled f).chans[f.val]'f.isLt).fetch) : r.resumeReads f step = s.resumeReads f step := by
  obtain ⟨-, -, -, hwindow, hepoch, hreader⟩ := State.polled_same s f
  unfold State.resumeReads State.slotAddr State.settings
  rw [Fin.getElem_fin, Fin.getElem_fin, hf, he]
  dsimp only
  rw [hwindow, hepoch]
  simp only [hreader]

theorem members_leader (lead : Chan) : members (maskOf lead) = [lead] :=
  (by decide : ∀ lead : Chan, members (maskOf lead) = [lead]) lead

theorem inMask_maskOf (f : Chan) : inMask (maskOf f) f = true := (by decide : ∀ f : Chan, inMask (maskOf f) f = true) f

/-- A follower whose wait the expiry counted takes its leader's step start, its paused reader resuming (R34, R73). -/
theorem told_takes {r : ExpiryRun} {F : Channel} (hF : r.st.chans[f.val]'f.isLt = waitingOn F step) (hs : F.play.state = .waiting)
    (hw : F.play.wait = .leader) (hstep : F.headStep = some step) (hfollows : F.follows f lead = true)
    (hstarts : r.starts = maskOf lead) (hcounted : r.counted = maskOf f) :
    (r.over.chans[f.val]'f.isLt).play.state = .running ∧ (r.over.chans[f.val]'f.isLt).play.wait = .none ∧ (r.over.chans[f.val]'f.isLt).play.waitCount = 0
      ∧ (r.over.chans[f.val]'f.isLt).play.stepExpiries = 0 ∧ (r.over.chans[f.val]'f.isLt).fetch = resumedFetch F.fetch step
      ∧ (∀ q ∈ r.st.resumeReads f step, q ∈ r.over.port.standing)
      ∧ (r.over.chans[f.val]'f.isLt).level.lane = (if step.body.waitIdle then F.level.idle else F.level.expiryCode) := by
  have hbefore : ∀ e : Ev, (Ev.of r.st false).spares e f → Ev.offerTo lead r.counted e f = e.takeEntry f step := fun e he => by
    have hchan : e.st.chans[f.val]'f.isLt = waitingOn F step := he.chan.trans hF
    exact Ev.offerTo_takes (by rw [hchan]; exact hfollows) (by rw [hchan]; exact hs) (by rw [hchan]; exact hw)
      (by rw [hcounted]; exact inMask_maskOf f) (by rw [hchan]; exact hstep)
  have htaken : ∀ e : Ev, (Ev.of r.st false).spares e f →
      ((Ev.offerTo lead r.counted e f).st.chans[f.val]'f.isLt) = takenChannel (waitingOn F step) step := fun e he => by
    obtain ⟨p, -, hact⟩ := e.takeEntry_act f step
    rw [hbefore e he, hact, Ev.act_st, State.put_chan, he.chan]
    exact congrArg (takenChannel · step) hF
  obtain ⟨e, hspares, hafter⟩ := offer_event (s := r.st) (f := f) (leader := lead) (counted := r.counted)
    (by rw [hF]; show F.play.state ≠ _; rw [hs]; decide) fun e he => by
      rw [htaken e he]
      exact fun h => by cases h
  have hmiddle : r.over = (members r.lost).foldl (fun s d => s.event fun e => e.loseLeader d true r.counted)
      ((Ev.of r.st false).offerLeaderStart lead r.counted).finish := by
    unfold ExpiryRun.over
    rw [hstarts, members_leader]
    rfl
  have hchan : ∃ p, ((Ev.of r.st false).offerLeaderStart lead r.counted).finish.chans[f.val]'f.isLt
      = { takenChannel (waitingOn F step) step with perRecord := p } := by
    rw [Ev.finish_chan, hafter.chan, htaken e hspares]
    exact ⟨_, rfl⟩
  obtain ⟨p, hchan⟩ := hchan
  obtain ⟨⟨p', g', hlost⟩, hreads⟩ := lost_running (l := members r.lost) (counted := r.counted)
    (s := ((Ev.of r.st false).offerLeaderStart lead r.counted).finish) (f := f) (by rw [hchan]; rfl)
  rw [hmiddle, hlost, hchan]
  refine ⟨rfl, rfl, rfl, rfl, rfl, fun q hq => (hreads q (State.resumeReads_chan _ _ _ q hq) ?_).2, rfl⟩
  refine hafter.finish_holds (Or.inr (State.resumeReads_chan _ _ _ q hq)) ?_
  rw [hbefore e hspares]
  refine e.takeEntry_holds f step q ?_
  rw [State.resumeReads_congr (t := r.st) hspares.rest.sameRest.1 (by rw [hspares.chan]; rfl)]
  exact hq

/-- Without a leader step start or a lost leader the expiry leaves the follower as its own part did. -/
theorem told_nothing {r : ExpiryRun} (hstarts : r.starts = 0) (hlost : r.lost = 0) : r.over = r.st := by
  unfold ExpiryRun.over
  rw [hstarts, hlost, show members 0 = [] from by decide]
  rfl

/-- A leader's step start is an advance for a follower that had output a sample before (R78). -/
theorem told_advance {r : ExpiryRun} {q : Channel} (hQ : q.playsOn (r.st.chans[f.val]'f.isLt) step) (hfollows : q.follows f lead = true)
    (hrep : step.body.rep = 0) (hadv : step.body.advance = some .leader) (hstarts : r.starts = maskOf lead) :
    (r.over.chans[f.val]'f.isLt).play.advanceSeen = decide (1 ≤ q.play.stepExpiries) := by
  obtain ⟨hs, hstep, hexp, hgroup, hseen⟩ := hQ
  have hfollow : (r.st.chans[f.val]'f.isLt).follows f lead = true := by
    rw [← hfollows]
    unfold Channel.follows
    rw [hgroup]
  have hattends : (r.st.chans[f.val]'f.isLt).attendsAdvance .leader = true :=
    (Channel.attendsAdvance_iff _ _).2 ⟨hs, by omega, step, hstep, hrep, hadv⟩
  have hoffer : ∀ e : Ev, (Ev.of r.st false).spares e f → Ev.offerTo lead r.counted e f
      = if 2 ≤ (r.st.chans[f.val]'f.isLt).play.stepExpiries then e.modPlay f fun p => { p with advanceSeen := true } else e := fun e he => by
    rw [Ev.offerTo_advances (by rw [he.chan]; exact hfollow) (by rw [he.chan]; exact hs), he.chan]
    exact if_congr (and_iff_right hattends) rfl rfl
  have htold : ∀ e : Ev, (Ev.of r.st false).spares e f →
      ((Ev.offerTo lead r.counted e f).st.chans[f.val]'f.isLt).play.advanceSeen = decide (1 ≤ q.play.stepExpiries)
      ∧ ((Ev.offerTo lead r.counted e f).st.chans[f.val]'f.isLt).play.state = .running := fun e he => by
    rw [hoffer e he]
    by_cases h2 : 2 ≤ (r.st.chans[f.val]'f.isLt).play.stepExpiries
    · rw [if_pos h2, Ev.modPlay_act, Ev.act_st, State.put_chan, he.chan]
      exact ⟨(decide_eq_true (by omega)).symm, hs⟩
    · have hzero : q.play.stepExpiries = 0 := by omega
      rw [if_neg h2, he.chan]
      refine ⟨?_, hs⟩
      show (r.st.chans[f.val]'f.isLt).play.advanceSeen = _
      rw [hseen, (startedChannel_fields q step).2.2 hzero, hzero]
      rfl
  obtain ⟨e, hspares, hafter⟩ := offer_event (s := r.st) (f := f) (leader := lead) (counted := r.counted)
    (by rw [hs]; decide) fun e he => by
      rw [(htold e he).2]
      decide
  have hmiddle : r.over = (members r.lost).foldl (fun s d => s.event fun e => e.loseLeader d true r.counted)
      ((Ev.of r.st false).offerLeaderStart lead r.counted).finish := by
    unfold ExpiryRun.over
    rw [hstarts, members_leader]
    rfl
  have hplay : (((Ev.of r.st false).offerLeaderStart lead r.counted).finish.chans[f.val]'f.isLt).play
      = ((Ev.offerTo lead r.counted e f).st.chans[f.val]'f.isLt).play := by
    rw [Ev.finish_chan, hafter.chan]
  obtain ⟨⟨p', g', hlost⟩, -⟩ := lost_running (l := members r.lost) (counted := r.counted)
    (s := ((Ev.of r.st false).offerLeaderStart lead r.counted).finish) (f := f) (by rw [hplay]; exact (htold e hspares).2)
  have hseen : (((Ev.of r.st false).offerLeaderStart lead r.counted).finish.chans[f.val]'f.isLt).play.advanceSeen
      = decide (1 ≤ q.play.stepExpiries) := by rw [hplay, (htold e hspares).1]
  rw [hmiddle, hlost]
  exact hseen

end Told

/-! ## The expiry of a leader and its one follower -/

section Pairs

variable {s : State} {g : GenIx} {lead f : Chan} {ctx step : StepContext} {n : Nat}

/-- The leader as the expiry counts it. -/
theorem leader_mask (hlead : (s.chans[lead.val]'lead.isLt).leadsLaunched lead = true) :
    ((s.polled lead).chans[lead.val]'lead.isLt).startMask lead = if (s.chans[lead.val]'lead.isLt).play.stepExpiries = 0 then maskOf lead else 0 := by
  obtain ⟨hplay, -⟩ := State.polled_same s lead
  unfold Channel.startMask Channel.leadsLaunched
  rw [hplay]
  unfold Channel.leadsLaunched at hlead
  rw [hlead]
  simp

theorem Channel.follows_congr {ch ch' : Channel} (h : ch.play.group = ch'.play.group) (c leader : Chan) :
    ch.follows c leader = ch'.follows c leader := by
  unfold Channel.follows
  rw [h]

/-- A follower leads no launched group. -/
theorem Channel.follows_leads {ch : Channel} (h : ch.follows f lead = true) : ch.leadsLaunched f = false := by
  unfold Channel.follows at h
  unfold Channel.leadsLaunched
  cases hg : ch.play.group with
  | none => rfl
  | some m =>
    rw [hg] at h
    simp only [Bool.and_eq_true, decide_eq_true_eq] at h
    obtain ⟨⟨⟨-, hleader⟩, -⟩, hne⟩ := h
    dsimp only
    rw [hleader, decide_eq_false (Ne.symm hne), Bool.and_false]

/-- A LEADER wait at an expiry of the leader (R72, R73). -/
theorem pair_waits (hrun : s.gens[g].running = true) (hne : lead ≠ f)
    (h : ∀ d : Chan, (s.chans[d]'d.isLt).play.generator = g ↔ d = lead ∨ d = f) (hplays : (s.chans[lead]'lead.isLt).plays ctx)
    (hlead : (s.chans[lead]'lead.isLt).leadsLaunched lead = true) (hfollows : (s.chans[f]'f.isLt).follows f lead = true)
    (hstep : (s.chans[f]'f.isLt).headStep = some step) {t : State} (ht : exec (.expiry g) s = .next t)
    (hs : (s.chans[f]'f.isLt).play.state = .waiting) (hw : (s.chans[f]'f.isLt).play.wait = .leader)
    (hn : n = ((s.chans[f]'f.isLt).play.waitCount + 1) % 4294967296) (hd : step.decision = true → n ≠ step.body.waitTimeout) :
    ((s.chans[lead]'lead.isLt).play.stepExpiries = 0 →
      (t.chans[f]'f.isLt).play.state = .running ∧ (t.chans[f]'f.isLt).play.wait = .none ∧ (t.chans[f]'f.isLt).play.waitCount = 0
      ∧ (t.chans[f]'f.isLt).play.stepExpiries = 0
      ∧ (t.chans[f]'f.isLt).fetch = resumedFetch ((s.polled f).chans[f]'f.isLt).fetch step
      ∧ (∀ r ∈ s.resumeReads f step, r ∈ t.port.standing)
      ∧ (t.chans[f]'f.isLt).level.lane = (if step.body.waitIdle then (s.chans[f]'f.isLt).level.idle else (s.chans[f]'f.isLt).level.expiryCode))
    ∧ ((s.chans[lead]'lead.isLt).play.stepExpiries ≠ 0 → nextPosition (s.chans[lead]'lead.isLt).play ctx ≠ none →
      (s.chans[lead]'lead.isLt).play.offset < ctx.wEff →
      (t.chans[f]'f.isLt).play.state = .waiting ∧ (t.chans[f]'f.isLt).play.wait = .leader ∧ (t.chans[f]'f.isLt).play.waitCount = n) := by
  simp only [Fin.getElem_fin] at hplays hlead hfollows hstep hs hw hn ⊢
  obtain ⟨hpL, hhL, -⟩ := State.polled_same s lead
  obtain ⟨hpF, hhF, hlF, -⟩ := State.polled_same s f
  obtain ⟨x, y, v, hxy, hvL, hvF, hengine, hexec⟩ := State.expire_pair hrun hne h (by rw [hplays.1]; decide) (by rw [hs]; decide)
  obtain ⟨F, hF⟩ : ∃ F, F = s.countedAt f := ⟨_, rfl⟩
  rw [← hF] at hvF
  have hFplay : F.play = (countedChannel (s.chans[f.val]'f.isLt)).play := by
    rw [hF, State.countedAt, countedChannel, hpF]
    rfl
  have hFstate : F.play.state = .waiting := by rw [hFplay]; exact hs
  have hFwait : F.play.wait = .leader := by rw [hFplay]; exact hw
  have hFstep : F.headStep = some step := by rw [hF]; exact hhF.trans hstep
  have hFlevel : F.level = (s.chans[f.val]'f.isLt).level := by rw [hF]; exact hlF
  have hFcount : wrap32 (F.play.waitCount + 1) = n := by
    rw [hFplay, hn]
    rfl
  have hLplays : ((s.polled lead).chans[lead.val]'lead.isLt).plays ctx := ⟨by rw [hpL]; exact hplays.1, hhL.trans hplays.2⟩
  obtain ⟨r, hr, hQ, hrengine, hstarts, hcounted, -, hlost⟩ := pair_run hxy hvL hvF
    (by rw [State.countedAt]; show ((s.polled lead).chans[lead.val]'lead.isLt).play.state ≠ _; rw [hLplays.1]; decide)
    (by rw [hFstate]; decide) (by rintro _ rfl; show F.play.state ≠ _; rw [hFstate]; decide)
    (fun w hwL hm => leader_part hne hwL hLplays hm)
    (fun w hwF => follower_waits hne hwF hFstate hFwait hFstep (by rw [hFcount]; exact hd))
  rw [leader_mask hlead] at hstarts
  have htr : t = r.over := by
    rw [← hr]
    exact Host.Outcome.next.inj (ht.symm.trans hexec)
  rw [htr]
  refine ⟨fun hfirst => ?_, fun hlater hnext hoff => ?_⟩
  · rw [if_pos hfirst] at hstarts
    obtain ⟨h1, h2, h3, h4, h5, h6, h7⟩ := told_takes hQ hFstate hFwait hFstep
      ((Channel.follows_congr (by rw [hFplay]; rfl) f lead).trans hfollows) hstarts hcounted
    refine ⟨h1, h2, h3, h4, h5.trans (by rw [hF]; rfl), ?_, h7.trans (by rw [hFlevel])⟩
    rw [← State.polled_resumeReads (r := r.st) (hrengine.trans hengine) (by rw [hQ, hF]; rfl)]
    exact h6
  · rw [if_neg hlater] at hstarts
    have hnone : r.lost = 0 := by
      rw [hpL] at hlost
      exact hlost hlater hoff hnext
    rw [told_nothing hstarts hnone, hQ]
    exact ⟨hFstate, hFwait, hFcount⟩

/-- An open repeat advanced by its leader, at an expiry of the leader (R78). -/
theorem pair_advances (hrun : s.gens[g].running = true) (hne : lead ≠ f)
    (h : ∀ d : Chan, (s.chans[d]'d.isLt).play.generator = g ↔ d = lead ∨ d = f) (hplays : (s.chans[lead]'lead.isLt).plays ctx)
    (hlead : (s.chans[lead]'lead.isLt).leadsLaunched lead = true) (hfollows : (s.chans[f]'f.isLt).follows f lead = true)
    {t : State} (ht : exec (.expiry g) s = .next t) (hf : (s.chans[f]'f.isLt).plays step) (hrep : step.body.rep = 0)
    (hadv : step.body.advance = some .leader) (hfirst : (s.chans[lead]'lead.isLt).play.stepExpiries = 0)
    (hoff : (startedChannel (s.chans[f]'f.isLt) step).play.offset < step.wEff)
    (hnext : nextPosition (startedChannel (s.chans[f]'f.isLt) step).play step ≠ none) :
    (t.chans[f]'f.isLt).play.advanceSeen = decide (1 ≤ (s.chans[f]'f.isLt).play.stepExpiries) := by
  simp only [Fin.getElem_fin] at hplays hlead hfollows hf hfirst hoff hnext ⊢
  obtain ⟨hpL, hhL, -⟩ := State.polled_same s lead
  obtain ⟨hpF, hhF, -⟩ := State.polled_same s f
  obtain ⟨x, y, v, hxy, hvL, hvF, hengine, hexec⟩ := State.expire_pair hrun hne h (by rw [hplays.1]; decide) (by rw [hf.1]; decide)
  obtain ⟨q, hq⟩ : ∃ q, q = (s.polled f).chans[f.val]'f.isLt := ⟨_, rfl⟩
  have hqplay : q.play = (s.chans[f.val]'f.isLt).play := by rw [hq]; exact hpF
  have hqplays : q.plays step := ⟨by rw [hqplay]; exact hf.1, by rw [hq]; exact hhF.trans hf.2⟩
  have hqstarted : (startedChannel q step).play = (startedChannel (s.chans[f.val]'f.isLt) step).play := by
    unfold startedChannel
    dsimp only
    rw [hqplay]
    split
    · rfl
    · split <;> rfl
  have hqfollows : q.follows f lead = true := (Channel.follows_congr (by rw [hqplay]) f lead).trans hfollows
  have hLplays : ((s.polled lead).chans[lead.val]'lead.isLt).plays ctx := ⟨by rw [hpL]; exact hplays.1, hhL.trans hplays.2⟩
  obtain ⟨r, hr, hQ, -, hstarts, -, -⟩ := pair_run (F := countedChannel q) hxy hvL (by rw [hvF, State.countedAt, hq])
    (by rw [State.countedAt]; show ((s.polled lead).chans[lead.val]'lead.isLt).play.state ≠ _; rw [hLplays.1]; decide)
    (by show q.play.state ≠ _; rw [hqplays.1]; decide) (fun ch hch => by rw [hch.state]; decide)
    (fun w hwL hm => leader_part hne hwL hLplays hm)
    (fun w hwF => follower_plays hne hwF hqplays (Channel.follows_leads hqfollows) (by rw [hqstarted]; exact hoff)
      (by rw [hqstarted]; exact hnext))
  rw [leader_mask hlead, if_pos hfirst] at hstarts
  have htr : t = r.over := by
    rw [← hr]
    exact Host.Outcome.next.inj (ht.symm.trans hexec)
  rw [htr, told_advance hQ hqfollows hrep hadv hstarts, hqplay]

end Pairs

/-- Settles O40: for a sole channel each clause is one event of that channel; for a leader and its follower the leader's step start is
told to the follower at the expiry's end. -/
theorem waitingExpiryShowsTheWaitLevel : Obligations.WaitingExpiryShowsTheWaitLevel := by
  refine ⟨fun g c s u b hsole hm hreader hu hb => ?_, fun g lead f s ctx step hrun hne h hplays hlead hfollows hstep => ?_⟩
  · have hx : SoleExpiry s u g c b := ⟨hsole, hm, hreader, hu, counted_of_polled hu hb⟩
    exact ⟨fun ctx n waited hwait hstep hn hw => hx.waits hwait hstep hn hw,
      fun late hs hw hhead => hx.stays (Or.inr ⟨⟨hs, late, hw⟩, rfl⟩) hhead,
      fun hs hhead => hx.stays (Or.inl ⟨hs, rfl⟩) hhead,
      hx.rests,
      fun ctx ended records hends => ⟨fun wait waited hwait hw => hx.waitsAfter hends hwait hw,
        fun hentry hleader => hx.leaderGone hends hentry hleader⟩,
      fun occ slot sub late hhead hs => hx.faults hhead hs⟩
  · exact ⟨_, rfl, fun n hs hw hn hd => pair_waits hrun hne h hplays hlead hfollows hstep rfl hs hw hn hd,
      fun hf hrep hadv hfirst hoff hnext => pair_advances hrun hne h hplays hlead hfollows rfl hf hrep hadv hfirst hoff hnext⟩

end Sys2Proof.Machine

namespace Sys2Proof.Machine

/-! ## What stands at the port for one channel (R26, R32, R39, R40) -/

/-- The transfer in flight, unless a RESET has orphaned it (R160). -/
def Port.live (p : Port) : List Request := if p.discard then [] else p.inFlight.toList

/-- The requests that stand and that no RESET has orphaned. -/
def Port.stands (p : Port) : List Request := p.live ++ p.waiting

/-- A port with one more waiting request. -/
def Port.plus (p : Port) (r : Request) : Port := { p with waiting := p.waiting ++ [r] }

/-- What the watch on the port itself asks for: a well-formed port between two completions; while a completion is being handled a BUSY
port without a transfer in flight; or nothing (R154, R156). -/
inductive PortPhase where
  | between | handling | unwatched

/-- The port is as its phase asks. -/
def Port.inPhase (p : Port) : PortPhase → Prop
  | .between => p.wf
  | .handling => p.busy = true ∧ p.inFlight = none
  | .unwatched => True

/-- Nothing of channel `c` is new at `q`: what waits there waited at `p`, what is in flight was so or waited, and no kind of its
requests stands more often. -/
structure Port.fewer (c : Chan) (p q : Port) : Prop where
  waiting : ∀ r ∈ q.waiting, r.kind.chan? = some c → r ∈ p.waiting
  live : ∀ r ∈ q.live, r.kind.chan? = some c → r ∈ p.live ∨ r ∈ p.waiting
  count : ∀ k : Transfer → Bool, (∀ t, k t = true → t.chan? = some c) →
    q.stands.countP (fun r => k r.kind) ≤ p.stands.countP (fun r => k r.kind)

/-- A channel's requests at the port are in order: what waits is of its epoch, what is in flight stays of one of the last epochs while
`purges` more come, at most `reads` step reads and `samples` sample requests of the epoch stand, and a stream request keeps within
the reserve (R26, R32, R39, R40, R52). -/
structure Port.serves (p : Port) (c : Chan) (epoch : BitVec 8) (reads samples reserve purges : Nat) : Prop where
  waiting : ∀ r ∈ p.waiting, r.kind.chan? = some c → r.kind.epoch? = some epoch
  live : ∀ r ∈ p.live, r.kind.chan? = some c → ∀ e ∈ r.kind.epoch?, (epoch - e).toNat + purges ≤ 4
  reads : p.stands.countP (fun r => r.kind.isStepReadOf c epoch) ≤ reads
  samples : p.stands.countP (fun r => r.kind.isSampleOf c epoch) ≤ samples
  reserved : ∀ r ∈ p.stands, ∀ n format, r.kind = .streamRequest c epoch n format → n ≤ reserve
  few : purges ≤ 4

/-- No request of a channel stands under an epoch. -/
def Port.clearOf (p : Port) (c : Chan) (epoch : BitVec 8) : Prop :=
  ∀ r ∈ p.stands, r.kind.chan? = some c → r.kind.epoch? ≠ some epoch

section Standing

variable {p q : Port} {c d : Chan} {epoch : BitVec 8} {reads samples reserve purges : Nat} {t : Transfer}

theorem Transfer.isStepReadOf_iff : t.isStepReadOf c epoch = true ↔
    (∃ reread, t = .stepSlotRead c epoch reread) ∨ t = .segmentEntryRead c epoch := by
  cases t <;> simp [Transfer.isStepReadOf]

theorem Transfer.isSampleOf_iff : t.isSampleOf c epoch = true ↔
    (∃ n format, t = .streamRequest c epoch n format) ∨ ∃ occ offset n format, t = .bankLoad c epoch occ offset n format := by
  cases t <;> simp [Transfer.isSampleOf]

theorem Transfer.chan?_of_isStepReadOf (h : t.isStepReadOf c epoch = true) : t.chan? = some c := by
  rcases Transfer.isStepReadOf_iff.1 h with ⟨_, rfl⟩ | rfl <;> rfl

theorem Transfer.epoch?_of_isStepReadOf (h : t.isStepReadOf c epoch = true) : t.epoch? = some epoch := by
  rcases Transfer.isStepReadOf_iff.1 h with ⟨_, rfl⟩ | rfl <;> rfl

theorem Transfer.chan?_of_isSampleOf (h : t.isSampleOf c epoch = true) : t.chan? = some c := by
  rcases Transfer.isSampleOf_iff.1 h with ⟨_, _, rfl⟩ | ⟨_, _, _, _, rfl⟩ <;> rfl

theorem Transfer.epoch?_of_isSampleOf (h : t.isSampleOf c epoch = true) : t.epoch? = some epoch := by
  rcases Transfer.isSampleOf_iff.1 h with ⟨_, _, rfl⟩ | ⟨_, _, _, _, rfl⟩ <;> rfl

/-! ### Fewer requests -/

theorem Port.fewer_refl (c : Chan) (p : Port) : p.fewer c p := ⟨fun _ h _ => h, fun _ h _ => Or.inl h, fun _ _ => le_rfl⟩

theorem Port.fewer.trans {r : Port} (h : p.fewer c q) (g : q.fewer c r) : p.fewer c r where
  waiting x hx hc := h.waiting x (g.waiting x hx hc) hc
  live x hx hc := (g.live x hx hc).elim (fun hl => h.live x hl hc) fun hw => Or.inr (h.waiting x hw hc)
  count k hk := (g.count k hk).trans (h.count k hk)

theorem Port.fewer.stands (h : p.fewer c q) {r : Request} (hr : r ∈ q.stands) (hc : r.kind.chan? = some c) : r ∈ p.stands := by
  rw [Port.stands, List.mem_append] at hr ⊢
  exact hr.elim (fun hl => h.live r hl hc) fun hw => Or.inr (h.waiting r hw hc)

theorem Port.fewer.serves (h : p.fewer c q) (hp : p.serves c epoch reads samples reserve purges) :
    q.serves c epoch reads samples reserve purges where
  waiting r hr hc := hp.waiting r (h.waiting r hr hc) hc
  live r hr hc e he := by
    rcases h.live r hr hc with hl | hw
    · exact hp.live r hl hc e he
    · rw [hp.waiting r hw hc] at he
      obtain rfl := Option.some.inj he
      simpa using hp.few
  reads := (h.count _ fun _ => Transfer.chan?_of_isStepReadOf).trans hp.reads
  samples := (h.count _ fun _ => Transfer.chan?_of_isSampleOf).trans hp.samples
  reserved r hr n format hk := hp.reserved r (h.stands hr (by rw [hk]; rfl)) n format hk
  few := hp.few

theorem Port.fewer.clearOf (h : p.fewer c q) (hp : p.clearOf c epoch) : q.clearOf c epoch :=
  fun r hr hc => hp r (h.stands hr hc) hc

/-- A port from which requests are withdrawn. -/
theorem Port.without_fewer (c : Chan) (p : Port) (f : Transfer → Bool) : p.fewer c (p.without f) where
  waiting _ hr _ := (List.mem_filter.1 hr).1
  live _ hr _ := Or.inl hr
  count _ _ := (List.Sublist.append (List.Sublist.refl _) List.filter_sublist).countP_le

/-- A waiting request of another channel, or of none. -/
theorem Port.plus_fewer {r : Request} (p : Port) (hr : r.kind.chan? ≠ some c) : p.fewer c (p.plus r) where
  waiting x hx hc := by
    rcases List.mem_append.1 hx with hx | hx
    · exact hx
    · rw [List.mem_singleton.1 hx] at hc
      exact (hr hc).elim
  live _ hx _ := Or.inl hx
  count k hk := by
    have hno : k r.kind = false := Bool.eq_false_iff.2 fun h => hr (hk _ h)
    show ((p.live ++ (p.waiting ++ [r])).countP fun r => k r.kind) ≤ _
    rw [← List.append_assoc, List.countP_append, List.countP_singleton, hno]
    exact le_rfl

theorem Port.ended_fewer (c : Chan) (p : Port) : p.fewer c { p with inFlight := none, discard := false } where
  waiting _ hr _ := hr
  live r hr _ := by cases hr
  count _ _ := (List.sublist_append_right p.live p.waiting).countP_le

theorem State.arbitrate_fewer (s : State) (c : Chan) : s.port.fewer c s.arbitrate.port := by
  unfold State.arbitrate
  split
  · exact Port.fewer_refl c _
  · split
    · rename_i r hr
      have hmem := s.choose_mem r hr
      obtain ⟨p, hp, -, hf, hd, hw⟩ := s.grant_port r
      rw [hp]
      have hlive : p.live = [r] := by rw [Port.live, hd, hf]; rfl
      refine ⟨fun x hx _ => ?_, fun x hx _ => ?_, fun k _ => ?_⟩
      · rw [hw] at hx
        exact List.mem_of_mem_erase hx
      · rw [hlive, List.mem_singleton] at hx
        exact Or.inr (hx ▸ hmem)
      · have hperm : p.stands.Perm s.port.waiting := by
          rw [Port.stands, hlive, hw]
          exact (List.perm_cons_erase hmem).symm
        rw [hperm.countP_eq]
        exact (List.sublist_append_right s.port.live s.port.waiting).countP_le
    · exact Port.fewer_refl c _

theorem State.raise_fewer (s : State) {r : Request} (hr : r.kind.chan? ≠ some c) : s.port.fewer c (s.raise r).port :=
  (Port.plus_fewer s.port hr).trans (State.arbitrate_fewer { s with port := s.port.plus r } c)

/-! ### The phase of the port -/

theorem Port.without_inPhase {ph : PortPhase} (h : p.inPhase ph) (f : Transfer → Bool) : (p.without f).inPhase ph := by
  cases ph with
  | between => exact ⟨h.1, fun hb => by simp [Port.without, h.2 hb]⟩
  | handling => exact h
  | unwatched => exact h

theorem State.raise_inPhase {s : State} {ph : PortPhase} (h : s.port.inPhase ph) (r : Request) : (s.raise r).port.inPhase ph := by
  cases ph with
  | between => exact s.raise_wf r h
  | handling =>
    rw [s.raise_busy r h.1]
    exact h
  | unwatched => exact h

/-! ### The requests of a channel in order -/

theorem Port.serves.mono {reads' samples' purges' : Nat} (h : p.serves c epoch reads samples reserve purges) (hr : reads ≤ reads')
    (hs : samples ≤ samples') (hp : purges' ≤ purges) : p.serves c epoch reads' samples' reserve purges' :=
  ⟨h.waiting, fun r hr hc e he => (Nat.add_le_add_left hp _).trans (h.live r hr hc e he), h.reads.trans hr, h.samples.trans hs,
    h.reserved, hp.trans h.few⟩

theorem Port.plus_stands (p : Port) (r : Request) : (p.plus r).stands = p.stands ++ [r] := by
  rw [Port.stands, Port.stands, List.append_assoc]
  rfl

/-- A slot or entry read joins the requests of a channel that has no step read standing (R26, R27). -/
theorem Port.serves.plus_read {r : Request} (h : p.serves c epoch 0 samples reserve purges)
    (hr : r.kind.isStepReadOf c epoch = true) : (p.plus r).serves c epoch 1 samples reserve purges := by
  have hsample : r.kind.isSampleOf c epoch = false := by
    rcases Transfer.isStepReadOf_iff.1 hr with ⟨_, h⟩ | h <;> (rw [h]; rfl)
  refine ⟨fun x hx hc => ?_, h.live, ?_, ?_, fun x hx n format hk => ?_, h.few⟩
  · rcases List.mem_append.1 hx with hx | hx
    · exact h.waiting x hx hc
    · rw [List.mem_singleton.1 hx]
      exact Transfer.epoch?_of_isStepReadOf hr
  · rw [p.plus_stands r, List.countP_append, List.countP_singleton, hr]
    simpa using h.reads
  · rw [p.plus_stands r, List.countP_append, List.countP_singleton, hsample]
    simpa using h.samples
  · rw [p.plus_stands r, List.mem_append] at hx
    rcases hx with hx | hx
    · exact h.reserved x hx n format hk
    · rw [← List.mem_singleton.1 hx, hk] at hsample
      simp [Transfer.isSampleOf] at hsample

/-- A sample request joins the requests of a channel that has none standing (R32, R52). -/
theorem Port.serves.plus_sample {r : Request} {reserve' : Nat} (h : p.serves c epoch reads 0 reserve purges)
    (hr : r.kind.isSampleOf c epoch = true) (hn : ∀ n format, r.kind = .streamRequest c epoch n format → n ≤ reserve') :
    (p.plus r).serves c epoch reads 1 reserve' purges := by
  have hread : r.kind.isStepReadOf c epoch = false := by
    rcases Transfer.isSampleOf_iff.1 hr with ⟨_, _, h⟩ | ⟨_, _, _, _, h⟩ <;> (rw [h]; rfl)
  have hnone : ∀ x ∈ p.stands, x.kind.isSampleOf c epoch ≠ true := by
    simpa [List.countP_eq_zero] using Nat.le_zero.1 h.samples
  refine ⟨fun x hx hc => ?_, h.live, ?_, ?_, fun x hx n format hk => ?_, h.few⟩
  · rcases List.mem_append.1 hx with hx | hx
    · exact h.waiting x hx hc
    · rw [List.mem_singleton.1 hx]
      exact Transfer.epoch?_of_isSampleOf hr
  · rw [p.plus_stands r, List.countP_append, List.countP_singleton, hread]
    simpa using h.reads
  · rw [p.plus_stands r, List.countP_append, List.countP_singleton, hr]
    simpa using h.samples
  · rw [p.plus_stands r, List.mem_append] at hx
    rcases hx with hx | hx
    · exact (hnone x hx (by rw [hk]; simp [Transfer.isSampleOf])).elim
    · rw [List.mem_singleton.1 hx] at hk
      exact hn n format hk

/-- The epochs of two requests that differ by a few stay apart when the later one goes on (R39). -/
theorem epoch_succ_sub (epoch e : BitVec 8) (h : (epoch - e).toNat ≤ 4) : (epoch + 1 - e).toNat = (epoch - e).toNat + 1 := by
  have hsub : epoch + 1 - e = (epoch - e) + 1 := by ring
  rw [hsub, BitVec.toNat_add]
  exact Nat.mod_eq_of_lt (Nat.lt_of_le_of_lt (Nat.add_le_add_right h _) (by decide))

/-- The next epoch of a channel none of whose requests waits: nothing of it stands (R39, R40). -/
theorem Port.serves.next (h : p.serves c epoch reads samples reserve purges) (hw : ∀ r ∈ p.waiting, r.kind.chan? ≠ some c) :
    p.clearOf c (epoch + 1) := by
  intro r hr hc he
  rcases List.mem_append.1 hr with hr | hr
  · have hold := h.live r hr hc (epoch + 1) he
    have := epoch_succ_sub epoch (epoch + 1) (by omega)
    rw [sub_self] at this
    simp at this
  · exact hw r hr hc

theorem Port.clearOf.no_reads (h : p.clearOf c epoch) : p.stands.countP (fun r => r.kind.isStepReadOf c epoch) = 0 :=
  List.countP_eq_zero.2 fun r hr hk => h r hr (Transfer.chan?_of_isStepReadOf hk) (Transfer.epoch?_of_isStepReadOf hk)

theorem Port.clearOf.no_samples (h : p.clearOf c epoch) : p.stands.countP (fun r => r.kind.isSampleOf c epoch) = 0 :=
  List.countP_eq_zero.2 fun r hr hk => h r hr (Transfer.chan?_of_isSampleOf hk) (Transfer.epoch?_of_isSampleOf hk)

/-- An epoch that advances costs one of the purges still to come (R39, R40). -/
theorem Port.serves.advance (h : p.serves c epoch reads samples reserve (purges + 1)) (hw : ∀ r ∈ p.waiting, r.kind.chan? ≠ some c)
    (reserve' : Nat) : p.serves c (epoch + 1) 0 0 reserve' purges where
  waiting r hr hc := (hw r hr hc).elim
  live r hr hc e he := by
    have hold := h.live r hr hc e he
    rw [epoch_succ_sub epoch e (by omega)]
    omega
  reads := (h.next hw).no_reads.le
  samples := (h.next hw).no_samples.le
  reserved r hr n format hk := ((h.next hw) r hr (by rw [hk]; rfl) (by rw [hk]; rfl)).elim
  few := by have := h.few; omega

end Standing

end Sys2Proof.Machine

namespace Sys2Proof.Machine

/-! ## What is watched of a channel through one command (R22, R24, R31, R39, R51) -/

/-- A channel as a state has it. -/
def State.chan (s : State) (c : Chan) : Channel := s.chans[c.val]'c.isLt

/-- What stands still while a command is carried out: the phase of the port, Engine Control, the Order Unit, the channel that is
watched if any, the purges that an order may still bring to it, and whether it may play. -/
structure Ledger where
  phase : PortPhase
  engine : EngineControl
  orders : OrderUnit
  watched : Option Chan
  slack : Nat
  playing : Prop

/-- The ledger watches a channel. -/
def Ledger.watches (l : Ledger) (c : Chan) : Prop := l.watched = some c

/-- The stream capacity of a channel under the ledger's configuration (R51). -/
def Ledger.capacity (l : Ledger) (c : Chan) : Nat :=
  (match l.engine.config with
    | some k => k.chan[c.val]'c.isLt
    | none => ChannelSettings.absent).capacity

/-- A fetch context is in order with its reader taken to be in a state. -/
structure Fetch.inOrder (reader : ReaderState) (f : Fetch) : Prop where
  window : f.window.length ≤ 4
  room : reader = .slotRead ∨ reader = .entryRead ∨ reader = .atFrontier ∨ reader = .bankWait → f.window.length ≤ 3
  loops : f.map.length ≤ 8
  keys : (f.map.map Prod.fst).Nodup
  held : ∀ ctx ∈ f.held, mapHasRoom ctx f.map
  owed : ∀ ctx ∈ f.owed, ctx.resident = false
  settled : f.data = none → f.owed = []

/-- The step reads a reader's state allows to stand (R26). -/
def ReaderState.reads (r : ReaderState) : Nat := if r = .slotRead ∨ r = .entryRead then 1 else 0

/-- The reader of a channel, taken to be OFF while its completed read is in hand. -/
def Fetch.readerFor (f : Fetch) (hand : Option Chan) (c : Chan) : ReaderState := if hand = some c then .off else f.reader

/-- The channel holds nothing of a play (R22, R62). -/
def Channel.emptied (ch : Channel) : Prop :=
  ch.fetch.reader = .off ∧ ch.fetch.window = [] ∧ ch.fetch.held = none ∧ ch.fetch.data = none ∧ ch.pool.queue = [] ∧ ch.pool.reserve = 0

/-- The purges that the channel can still meet in its play: a timeout's and a stop's. -/
def Channel.purgesAhead (ch : Channel) : Nat := if ch.play.state.counts then (if ch.fetch.window = [] then 1 else 2) else 0

/-- A channel is in order with `n` purges of its play allowed for; `hand` names the channel whose completed step read is in hand, and
`live` says that this one plays. -/
structure Channel.inOrder (l : Ledger) (hand : Option Chan) (n : Nat) (live : Prop) (ch : Channel) (c : Chan) (p : Port) : Prop where
  fetch : ch.fetch.inOrder (ch.fetch.readerFor hand c)
  fill : ch.pool.queue.length + ch.pool.reserve ≤ l.capacity c
  port : p.serves c ch.fetch.epoch (ch.fetch.readerFor hand c).reads 1 ch.pool.reserve (n + l.slack)
  ahead : ch.purgesAhead ≤ n
  silent : ch.play.state.counts = false → ch.emptied ∧ p.clearOf c ch.fetch.epoch
  playing : ch.play.state.counts = true → l.playing
  live : live → ch.play.state.counts = true

/-- The state is as the ledger has it, with `n` purges allowed for, and the watched channel playing where `live` says so. -/
structure State.meets (l : Ledger) (hand : Option Chan) (n : Nat) (live : Prop) (s : State) : Prop where
  phase : s.port.inPhase l.phase
  engine : s.engine = l.engine
  orders : s.orders = l.orders
  chan : ∀ c, l.watches c → (s.chan c).inOrder l hand n live c s.port

/-- The state is as the ledger has it. -/
def State.within (l : Ledger) (s : State) : Prop := ∃ n, s.meets l none n False

section Meets

variable {l : Ledger} {s t u : State} {hand : Option Chan} {n : Nat} {live : Prop} {c d : Chan} {f : Channel → Channel} {p q : Port}

theorem State.chan_modChan_same (s : State) (c : Chan) (f : Channel → Channel) : (s.modChan c f).chan c = f (s.chan c) :=
  State.modChan_same ..

theorem State.chan_modChan_other (s : State) (f : Channel → Channel) (h : c ≠ d) : (s.modChan c f).chan d = s.chan d :=
  State.modChan_other _ _ _ _ h

theorem Ledger.watches.unique (h : l.watches c) (g : l.watches d) : c = d := Option.some.inj (h.symm.trans g)

theorem State.capacity_eq (h : s.engine = l.engine) (c : Chan) : (s.settings c).capacity = l.capacity c := by
  unfold State.settings Ledger.capacity
  rw [h]
  rfl

/-! ### Changing one channel, and the port -/

theorem Channel.inOrder.fewer {ch : Channel} (h : ch.inOrder l hand n live c p) (hpq : p.fewer c q) : ch.inOrder l hand n live c q :=
  ⟨h.fetch, h.fill, hpq.serves h.port, h.ahead, fun hc => ⟨(h.silent hc).1, hpq.clearOf (h.silent hc).2⟩, h.playing, h.live⟩

/-- A change of a channel that leaves its fetch context, its queue and reserve, and whether it plays. -/
theorem Channel.inOrder.congr {ch ch' : Channel} (h : ch.inOrder l hand n live c p) (hf : ch'.fetch = ch.fetch)
    (hq : ch'.pool.queue = ch.pool.queue) (hr : ch'.pool.reserve = ch.pool.reserve)
    (hs : ch'.play.state.counts = ch.play.state.counts) : ch'.inOrder l hand n live c p := by
  refine ⟨hf ▸ h.fetch, hq ▸ hr ▸ h.fill, by rw [hf, hr]; exact h.port, ?_, fun hc => ?_, fun hc => h.playing (hs ▸ hc),
    fun hl => hs ▸ h.live hl⟩
  · rw [Channel.purgesAhead, hs, hf]
    exact h.ahead
  · rw [Channel.emptied, hf, hq, hr]
    exact h.silent (hs ▸ hc)

theorem Channel.inOrder.rehand {ch : Channel} {hand' : Option Chan} {live' : Prop} (h : ch.inOrder l hand n live c p)
    (hh : hand' = some c ↔ hand = some c) (hl : live' → live) : ch.inOrder l hand' n live' c p := by
  have hreader : ch.fetch.readerFor hand' c = ch.fetch.readerFor hand c := by simp [Fetch.readerFor, hh]
  exact ⟨hreader ▸ h.fetch, h.fill, hreader ▸ h.port, h.ahead, h.silent, h.playing, fun h' => h.live (hl h')⟩

theorem State.meets.modChan {hand' : Option Chan} {n' : Nat} {live' : Prop} (h : s.meets l hand n live)
    (hf : l.watches c → (s.chan c).inOrder l hand n live c s.port → (f (s.chan c)).inOrder l hand' n' live' c s.port)
    (hrest : ¬ l.watches c → n' = n ∧ (live' → live)) (hhand : ∀ d, d ≠ c → (hand' = some d ↔ hand = some d)) :
    (s.modChan c f).meets l hand' n' live' where
  phase := h.phase
  engine := h.engine
  orders := h.orders
  chan d hd := by
    by_cases hcd : c = d
    · subst hcd
      rw [State.chan_modChan_same]
      exact hf hd (h.chan c hd)
    · obtain ⟨rfl, hl⟩ := hrest fun hc => hcd (hc.unique hd)
      rw [State.chan_modChan_other s f hcd]
      exact (h.chan d hd).rehand (hhand d fun h => hcd h.symm) hl

theorem State.meets.modChan_keep (h : s.meets l hand n live)
    (hf : l.watches c → (s.chan c).inOrder l hand n live c s.port → (f (s.chan c)).inOrder l hand n live c s.port) :
    (s.modChan c f).meets l hand n live := h.modChan hf (fun _ => ⟨rfl, id⟩) fun _ _ => Iff.rfl

theorem State.meets.withPort (h : s.meets l hand n live) (hph : p.inPhase l.phase) (hp : ∀ c, l.watches c → s.port.fewer c p) :
    State.meets l hand n live { s with port := p } :=
  ⟨hph, h.engine, h.orders, fun c hc => (h.chan c hc).fewer (hp c hc)⟩

theorem State.meets.withdraw (h : s.meets l hand n live) (f : Transfer → Bool) : (s.withdraw f).meets l hand n live :=
  h.withPort (Port.without_inPhase h.phase f) fun c _ => Port.without_fewer c s.port f

/-- Raising a request that is not the watched channel's, or that joins its requests in order (R156). -/
theorem State.meets.raise (h : s.meets l hand n live) (r : Request)
    (hr : ∀ c, l.watches c → r.kind.chan? = some c → (s.chan c).play.state.counts = true ∧
      (s.port.plus r).serves c (s.chan c).fetch.epoch ((s.chan c).fetch.readerFor hand c).reads 1 (s.chan c).pool.reserve (n + l.slack)) :
    (s.raise r).meets l hand n live := by
  have hphase := State.raise_inPhase h.phase r
  have hfewer : ∀ c, (s.port.plus r).fewer c (s.raise r).port := fun c => State.arbitrate_fewer { s with port := s.port.plus r } c
  obtain ⟨p, hp⟩ := s.raise_port r
  rw [hp] at hphase hfewer ⊢
  refine ⟨hphase, h.engine, h.orders, fun c hc => ?_⟩
  by_cases hk : r.kind.chan? = some c
  · obtain ⟨hcounts, hserves⟩ := hr c hc hk
    obtain ⟨hf, hfill, -, hahead, -, hplaying, hlive⟩ := h.chan c hc
    exact ⟨hf, hfill, (hfewer c).serves hserves, hahead, fun hno => absurd (hcounts.symm.trans hno) Bool.noConfusion, hplaying,
      hlive⟩
  · exact (h.chan c hc).fewer ((Port.plus_fewer s.port hk).trans (hfewer c))

/-! ### The account -/

theorem State.meets.counts (h : s.meets l hand n live) (hc : l.watches c) (hl : live) : (s.chan c).play.state.counts = true :=
  (h.chan c hc).live hl

theorem State.meets.toWithin (h : s.meets l none n live) : s.within l :=
  ⟨n, h.phase, h.engine, h.orders, fun c hc => (h.chan c hc).rehand Iff.rfl False.elim⟩

/-- A channel that plays is live. -/
theorem State.meets.go (h : s.meets l hand n live) (hc : l.watches c → (s.chan c).play.state.counts = true) :
    s.meets l hand n (l.watches c) :=
  ⟨h.phase, h.engine, h.orders, fun d hd => ⟨(h.chan d hd).fetch, (h.chan d hd).fill, (h.chan d hd).port, (h.chan d hd).ahead,
    (h.chan d hd).silent, (h.chan d hd).playing, fun hw => hw.unique hd ▸ hc hw⟩⟩

/-- A channel that plays has a purge allowed for, and two with a step in its window. -/
theorem Channel.purgesAhead_pos {ch : Channel} (hc : ch.play.state.counts = true) : 1 ≤ ch.purgesAhead := by
  unfold Channel.purgesAhead
  rw [if_pos hc]
  split <;> omega

theorem Channel.purgesAhead_two {ch : Channel} (hc : ch.play.state.counts = true) (hw : ch.head ≠ none) : ch.purgesAhead = 2 := by
  unfold Channel.purgesAhead
  rw [if_pos hc, if_neg]
  intro h
  exact hw (by rw [Channel.head, h]; rfl)

theorem Channel.purgesAhead_le (ch : Channel) : ch.purgesAhead ≤ 2 := by
  unfold Channel.purgesAhead
  split <;> [split; skip] <;> omega

/-! ## Changes that leave fetch, pool and channel state -/

/-- From `s` to `t` no fetch context, no pool share and no channel state changes, nor Engine Control or the Order Unit, and the port
keeps its phase without a new fetch or sample request. -/
structure State.calm (s t : State) : Prop where
  fetch : ∀ c, (t.chan c).fetch = (s.chan c).fetch
  pool : ∀ c, (t.chan c).pool = (s.chan c).pool
  state : ∀ c, (t.chan c).play.state = (s.chan c).play.state
  engine : t.engine = s.engine
  orders : t.orders = s.orders
  phase : ∀ ph, s.port.inPhase ph → t.port.inPhase ph
  port : ∀ c, s.port.fewer c t.port

theorem State.calm_refl (s : State) : s.calm s :=
  ⟨fun _ => rfl, fun _ => rfl, fun _ => rfl, rfl, rfl, fun _ h => h, fun c => Port.fewer_refl c _⟩

theorem State.calm.trans (h : s.calm t) (g : t.calm u) : s.calm u :=
  ⟨fun c => (g.fetch c).trans (h.fetch c), fun c => (g.pool c).trans (h.pool c), fun c => (g.state c).trans (h.state c),
    g.engine.trans h.engine, g.orders.trans h.orders, fun ph hs => g.phase ph (h.phase ph hs), fun c => (h.port c).trans (g.port c)⟩

theorem State.meets.calm (h : s.meets l hand n live) (g : s.calm t) : t.meets l hand n live where
  phase := g.phase _ h.phase
  engine := g.engine.trans h.engine
  orders := g.orders.trans h.orders
  chan c hc := ((h.chan c hc).congr (g.fetch c) (by rw [g.pool c]) (by rw [g.pool c]) (by rw [g.state c])).fewer (g.port c)

theorem State.within.calm (h : s.within l) (g : s.calm t) : t.within l := h.imp fun _ hn => State.meets.calm hn g

/-- A state that differs in clocks, lines, reports or the model's counters alone. -/
theorem State.calm_of_eq (hc : t.chans = s.chans) (he : t.engine = s.engine) (ho : t.orders = s.orders) (hp : t.port = s.port) :
    s.calm t := by
  have hchan : ∀ c, t.chan c = s.chan c := fun c => by rw [State.chan, State.chan, hc]
  exact ⟨fun c => by rw [hchan], fun c => by rw [hchan], fun c => by rw [hchan], he, ho, fun _ h => hp ▸ h,
    fun c => hp ▸ Port.fewer_refl c _⟩

theorem State.modChan_calm (hf : (f (s.chan c)).fetch = (s.chan c).fetch) (hp : (f (s.chan c)).pool = (s.chan c).pool)
    (hs : (f (s.chan c)).play.state = (s.chan c).play.state) : s.calm (s.modChan c f) := by
  have hchan : ∀ {α : Type} (g : Channel → α), g (f (s.chan c)) = g (s.chan c) → ∀ d, g ((s.modChan c f).chan d) = g (s.chan d) := by
    intro α g hg d
    by_cases hcd : c = d
    · subst hcd
      rw [State.chan_modChan_same, hg]
    · rw [State.chan_modChan_other s f hcd]
  exact ⟨hchan (·.fetch) hf, hchan (·.pool) hp, hchan (·.play.state) hs, rfl, rfl, fun _ h => h, fun c => Port.fewer_refl c _⟩

theorem State.modLevel_calm (s : State) (c : Chan) (f : Levels → Levels) : s.calm (s.modLevel c f) := State.modChan_calm rfl rfl rfl

theorem State.modPlay_calm (s : State) (c : Chan) {f : Play → Play} (hf : ∀ p, (f p).state = p.state) : s.calm (s.modPlay c f) :=
  State.modChan_calm rfl rfl (hf _)

theorem State.raiseCond_calm (s : State) (c : Chan) (k : Condition) : s.calm (s.raiseCond c k) := State.modChan_calm rfl rfl rfl

theorem State.modReport_calm (s : State) (f : ReportUnit → ReportUnit) : s.calm (s.modReport f) := State.calm_of_eq rfl rfl rfl rfl

theorem State.modLine_calm (s : State) (k : LineIx) (f : TrigLine → TrigLine) : s.calm (s.modLine k f) :=
  State.calm_of_eq rfl rfl rfl rfl

theorem State.modGen_calm (s : State) (g : GenIx) (f : Gen → Gen) : s.calm (s.modGen g f) := State.calm_of_eq rfl rfl rfl rfl

/-- A request that is no channel's. -/
theorem State.raise_calm (s : State) {r : Request} (hr : r.kind.chan? = none) : s.calm (s.raise r) := by
  have hphase : ∀ ph, s.port.inPhase ph → (s.raise r).port.inPhase ph := fun ph h => State.raise_inPhase h r
  have hfewer : ∀ c, s.port.fewer c (s.raise r).port := fun c => s.raise_fewer (by rw [hr]; exact nofun)
  obtain ⟨p, hp⟩ := s.raise_port r
  rw [hp] at hphase hfewer ⊢
  exact ⟨fun _ => rfl, fun _ => rfl, fun _ => rfl, rfl, rfl, hphase, hfewer⟩

theorem State.withdraw_calm (s : State) (f : Transfer → Bool) : s.calm (s.withdraw f) :=
  ⟨fun _ => rfl, fun _ => rfl, fun _ => rfl, rfl, rfl, fun _ h => Port.without_inPhase h f, fun c => Port.without_fewer c s.port f⟩

theorem State.foldl_calm {α : Type} (xs : List α) {g : State → α → State} (h : ∀ (t : State) x, t.calm (g t x)) : s.calm (xs.foldl g s) :=
  List.foldlRecOn (motive := fun t => s.calm t) xs g s.calm_refl fun t ht x _ => ht.trans (h t x)

theorem Ev.forEach_calm {e : Ev} (xs : List Chan) {g : Ev → Chan → Ev} (h : ∀ (e : Ev) c, e.st.calm (g e c).st) :
    e.st.calm (e.forEach xs g).st :=
  List.foldlRecOn (motive := fun e' : Ev => e.st.calm e'.st) xs g e.st.calm_refl fun e' he x _ => he.trans (h e' x)

end Meets

end Sys2Proof.Machine

namespace Sys2Proof.Machine

/-! ## Operations that leave fetch, pool and channel state -/

section Calm

variable {s t : State} {c : Chan} {e : Ev}

/-! ### Lanes and markers (chapter 5) -/

theorem State.driveSample_calm (s : State) (c : Chan) (raw : Int) : s.calm (s.driveSample c raw) := by
  unfold State.driveSample
  dsimp only
  split
  · exact (s.modLevel_calm c _).trans (State.raiseCond_calm _ c _)
  · exact s.modLevel_calm c _

theorem State.driveMirror_calm (s : State) (raw : Int) (m : Chan) : s.calm (s.driveMirror raw m) := by
  unfold State.driveMirror
  dsimp only
  split
  · exact (s.modLevel_calm m _).trans (State.raiseCond_calm _ m _)
  · exact s.modLevel_calm m _

theorem State.mirrorMarkers_calm (s : State) (c m : Chan) : s.calm (s.mirrorMarkers c m) := by
  unfold State.mirrorMarkers
  exact s.modLevel_calm m _

theorem State.mirrorIdle_calm (s : State) (c m : Chan) : s.calm (s.mirrorIdle c m) :=
  (s.modLevel_calm m _).trans (State.mirrorMarkers_calm _ c m)

theorem State.showIdle_calm (s : State) (c : Chan) : s.calm (s.showIdle c) :=
  ((s.modLevel_calm c _).trans (State.modLevel_calm _ c _)).trans (State.foldl_calm _ fun t m => t.mirrorIdle_calm c m)

theorem State.showIdleNext_calm (s : State) (c : Chan) : s.calm (s.showIdleNext c) :=
  State.foldl_calm _ fun t d => t.modLevel_calm d _

theorem State.toIdleLevel_calm (s : State) (c : Chan) (atExpiry : Bool) : s.calm (s.toIdleLevel c atExpiry) := by
  unfold State.toIdleLevel
  split
  · exact s.showIdleNext_calm c
  · exact s.showIdle_calm c

theorem State.showWait_calm (s : State) (c : Chan) (waitIdle : Bool) : s.calm (s.showWait c waitIdle) := by
  refine ((s.modLevel_calm c _).trans (State.modLevel_calm _ c _)).trans (State.foldl_calm _ fun t m => ?_)
  split
  · exact t.mirrorIdle_calm c m
  · exact t.mirrorMarkers_calm c m

theorem State.showSample_calm (s : State) (c : Chan) (raw : Int) : s.calm (s.showSample c raw) := by
  unfold State.showSample
  refine State.calm.trans ?_ (State.modLevel_calm _ c _)
  refine State.calm.trans ?_ (State.foldl_calm _ fun t m => (t.driveMirror_calm raw m).trans (State.mirrorMarkers_calm _ c m))
  exact (s.driveSample_calm c raw).trans (State.modLevel_calm _ c _)

theorem State.setMirror_calm (s : State) (c source : Chan) (gain offset : Int) (copy : Bool) :
    s.calm (s.setMirror c source gain offset copy) := by
  unfold State.setMirror
  dsimp only
  split
  · exact (s.modLevel_calm c _).trans (State.mirrorIdle_calm _ source c)
  · exact s.modLevel_calm c _

theorem State.endMirror_calm (s : State) (c : Chan) : s.calm (s.endMirror c) :=
  (s.modLevel_calm c _).trans (State.showIdle_calm _ c)

/-! ### Records and status blocks (chapter 9) -/

theorem State.raiseOverrun_calm (s : State) : s.calm s.raiseOverrun := by
  unfold State.raiseOverrun
  split
  · exact s.calm_refl
  · exact (s.modReport_calm _).trans (State.raise_calm _ rfl)

theorem State.placeFresh_calm (s : State) (q : QueuedRecord) : s.calm (s.placeFresh q) := by
  unfold State.placeFresh
  refine State.calm.trans ?_ (State.modReport_calm _ _)
  exact (s.raise_calm rfl).trans (State.raise_calm _ rfl)

theorem State.overwriteNewest_calm (s : State) (q : QueuedRecord) : s.calm (s.overwriteNewest q) := by
  unfold State.overwriteNewest
  refine State.calm.trans ?_ (State.raiseOverrun_calm _)
  exact (s.raise_calm rfl).trans (State.modReport_calm _ _)

theorem State.loseRecord_calm (s : State) (q : QueuedRecord) : s.calm (s.loseRecord q) :=
  (s.modReport_calm _).trans (State.raiseOverrun_calm _)

theorem State.placeQueued_calm (s : State) (q : QueuedRecord) : s.calm (s.placeQueued q) := by
  unfold State.placeQueued
  split
  · exact s.placeFresh_calm q
  · split
    · exact s.overwriteNewest_calm q
    · exact s.loseRecord_calm q

theorem State.placeWaiting_calm (s : State) : s.calm s.placeWaiting :=
  (s.modReport_calm _).trans (State.foldl_calm _ State.placeQueued_calm)

theorem State.raiseTakenRead_calm (s : State) : s.calm s.raiseTakenRead := (s.modReport_calm _).trans (State.raise_calm _ rfl)

theorem State.joinQueue_calm (s : State) (r : Record) : s.calm (s.joinQueue r) := by
  unfold State.joinQueue
  split
  · exact s.modReport_calm _
  · exact (s.modReport_calm _).trans (State.raiseOverrun_calm _)

theorem State.handOver_calm (s : State) (r : Record) : s.calm (s.handOver r) := by
  unfold State.handOver
  split
  · exact s.joinQueue_calm r
  · split
    · exact s.placeFresh_calm _
    · split
      · dsimp only
        split
        · exact (s.joinQueue_calm r).trans (State.raiseTakenRead_calm _)
        · exact s.joinQueue_calm r
      · exact s.loseRecord_calm _

theorem State.handOverAll_calm (rs : List Record) (s : State) : s.calm (State.handOverAll rs s) := by
  induction rs generalizing s with
  | nil => exact s.calm_refl
  | cons r rest ih =>
    unfold State.handOverAll
    dsimp only
    split
    · split
      · exact (s.handOver_calm _).trans (ih _)
      · exact ((s.handOver_calm _).trans (State.modChan_calm rfl rfl rfl)).trans (ih _)
    · exact (s.handOver_calm _).trans (ih _)

theorem State.writeStatusBlock_calm (s : State) (c : Chan) : s.calm (s.writeStatusBlock c) := s.raise_calm rfl

theorem Ev.finish_calm (e : Ev) : e.st.calm e.finish :=
  (State.handOverAll_calm e.recs e.st).trans (State.foldl_calm _ State.writeStatusBlock_calm)

/-! ### Parts of an event (chapter 4) -/

theorem Ev.modPlay_calm (e : Ev) (c : Chan) {f : Play → Play} (hf : ∀ p, (f p).state = p.state) : e.st.calm (e.modPlay c f).st :=
  e.st.modPlay_calm c hf

theorem Ev.modLevel_calm (e : Ev) (c : Chan) (f : Levels → Levels) : e.st.calm (e.modLevel c f).st := e.st.modLevel_calm c f

theorem State.takeLevels_calm (s : State) (c : Chan) (b : StepBody) : s.calm (s.takeLevels c b) := s.modLevel_calm c _

theorem Ev.starved_calm (e : Ev) (c : Chan) (slot detailB : Nat) : e.st.calm (e.starved c slot detailB).st := by
  unfold Ev.starved
  refine State.calm.trans ?_ (Ev.modPlay_calm _ c (by intro; rfl))
  exact e.st.raiseCond_calm c _

theorem Ev.closeEpisode_calm (e : Ev) (c : Chan) : e.st.calm (e.closeEpisode c).st := by
  unfold Ev.closeEpisode
  dsimp only
  split
  · split
    · exact e.starved_calm c _ _
    · exact e.st.calm_refl
  · exact e.starved_calm c _ _
  · exact e.st.calm_refl

theorem Ev.leaveArmedGroup_calm (e : Ev) (c : Chan) : e.st.calm (e.leaveArmedGroup c).st := by
  unfold Ev.leaveArmedGroup
  split
  · exact e.st.calm_refl
  · refine State.calm.trans ?_ (Ev.modPlay_calm _ c (by intro; rfl))
    exact Ev.forEach_calm _ fun e d => e.modPlay_calm d (by intro; rfl)

theorem Ev.becomePlaying_calm (e : Ev) (c : Chan) : e.st.calm (e.becomePlaying c).st := by
  unfold Ev.becomePlaying
  refine State.calm.trans ?_ (Ev.modLevel_calm _ c _)
  exact e.modPlay_calm c (by intro; rfl)

theorem Ev.startStep_calm (e : Ev) (c : Chan) (ctx : StepContext) : e.st.calm (e.startStep c ctx).st := by
  unfold Ev.startStep
  refine State.calm.trans (t := ((e.modPlay c fun p => { p with
    offset := 0, holdCount := 0, stepExpiries := 0, pass := 1, advanceSeen := false, takeMissed := false }).mod
      (·.takeLevels c ctx.body)).st) ?_ ?_
  · refine State.calm.trans ?_ (State.takeLevels_calm _ c _)
    exact e.modPlay_calm c (by intro; rfl)
  · dsimp only
    split <;> (split <;> exact State.calm_refl _)

theorem Ev.countStarvation_calm (e : Ev) (c : Chan) (ctx : StepContext) (obtained : Bool) :
    e.st.calm (e.countStarvation c ctx obtained).st := by
  unfold Ev.countStarvation
  dsimp only
  split
  · split
    · exact e.starved_calm c _ _
    · exact e.st.calm_refl
  · exact e.modPlay_calm c (by intro; rfl)

theorem Play.advance_state (p : Play) (ctx : StepContext) : (p.advance ctx).state = p.state := by
  unfold Play.advance
  split <;> rfl

theorem Ev.stay_calm (e : Ev) (c : Chan) : e.st.calm (e.stay c).st := by
  have hplay : e.st.calm (e.modPlay c fun p => { p with episode := p.episode + 1 }).st := e.modPlay_calm c (by intro; rfl)
  unfold Ev.stay
  dsimp only
  split
  · exact hplay.trans (State.showIdle_calm _ c)
  · exact hplay.trans (State.showWait_calm _ c false)

theorem Ev.endStay_calm (e : Ev) (c : Chan) (ctx : StepContext) : e.st.calm (e.endStay c ctx).st := by
  unfold Ev.endStay
  dsimp only
  refine State.calm.trans ?_ (Ev.modPlay_calm _ c (by intro; rfl))
  split
  · exact e.st.calm_refl
  · exact (e.starved_calm c _ _).trans (Ev.modPlay_calm _ c (by intro; rfl))
  · exact e.st.calm_refl

theorem Ev.groupTrigger_calm (e : Ev) (m : Membership) (k : LineIx) : e.st.calm (e.groupTrigger m k).st := by
  unfold Ev.groupTrigger
  split
  · exact Ev.forEach_calm _ fun e d => e.modPlay_calm d (by intro; rfl)
  · refine Ev.forEach_calm _ fun e d => ?_
    split
    · exact e.st.calm_refl
    · exact e.st.raiseCond_calm d _

theorem Ev.capture_calm (e : Ev) (k : LineIx) : e.st.calm (e.capture k).st := by
  unfold Ev.capture
  dsimp only
  split
  · exact State.modLine_calm _ k fun l => { l with ignored := 0 }
  · exact e.st.calm_refl

end Calm

end Sys2Proof.Machine

namespace Sys2Proof.Machine

/-! ## Step Fetch and the Sample Pool keep a channel in order (chapters 2 and 3) -/

section Fetching

variable {l : Ledger} {s : State} {hand hand' : Option Chan} {n : Nat} {live : Prop} {c d : Chan} {ch : Channel} {p : Port} {f : Fetch}
  {ctx : StepContext}

/-- The step reads of a channel that stand under its epoch. -/
def State.stepReads (s : State) (c : Chan) : Nat :=
  s.port.stands.countP fun r => r.kind.isStepReadOf c (s.chan c).fetch.epoch

theorem State.chan_modFetch (s : State) (c : Chan) (g : Fetch → Fetch) :
    (s.modFetch c g).chan c = { s.chan c with fetch := g (s.chan c).fetch } := s.chan_modChan_same c _

@[simp] theorem Fetch.readerFor_none (f : Fetch) (c : Chan) : f.readerFor none c = f.reader := if_neg nofun

@[simp] theorem Fetch.readerFor_hand (f : Fetch) (c : Chan) : f.readerFor (some c) c = .off := if_pos rfl

/-- Taking one channel's read in hand, or laying it down, concerns no other channel. -/
theorem hand_other (hhand : hand = none ∨ hand = some c) (h : d ≠ c) : (none : Option Chan) = some d ↔ hand = some d := by
  rcases hhand with rfl | rfl
  · rfl
  · simp [h.symm]

/-! ### A channel's fetch context -/

theorem Channel.inOrder.counts_of (h : ch.inOrder l hand n live c p) (hne : ¬ch.emptied) : ch.play.state.counts = true := by
  by_contra hc
  exact hne (h.silent (Bool.eq_false_iff.2 hc)).1

/-- A reader that is not OFF is one of a channel that plays (R22). -/
theorem Channel.inOrder.counts_of_reader (h : ch.inOrder l hand n live c p) (hr : ch.fetch.reader ≠ .off) :
    ch.play.state.counts = true := h.counts_of fun he => hr he.1

theorem Channel.inOrder.counts_of_data (h : ch.inOrder l hand n live c p) (hd : ch.fetch.data ≠ none) :
    ch.play.state.counts = true := h.counts_of fun ⟨_, _, _, he, _⟩ => hd he

theorem Channel.inOrder.counts_of_window (h : ch.inOrder l hand n live c p) (hd : ch.fetch.window ≠ []) :
    ch.play.state.counts = true := h.counts_of fun ⟨_, he, _⟩ => hd he

/-- A change of the fetch context of a channel that plays, under the same epoch. -/
theorem Channel.inOrder.withFetch (h : ch.inOrder l hand n live c p) (hc : ch.play.state.counts = true)
    (hf : f.inOrder (f.readerFor hand' c)) (he : f.epoch = ch.fetch.epoch)
    (hr : p.stands.countP (fun r => r.kind.isStepReadOf c ch.fetch.epoch) ≤ (f.readerFor hand' c).reads)
    (hw : f.window = [] ∨ ch.fetch.window ≠ [] ∨ 2 ≤ n) : Channel.inOrder l hand' n live { ch with fetch := f } c p := by
  obtain ⟨hwaiting, hlive, -, hsamples, hreserved, hfew⟩ := h.port
  refine ⟨hf, h.fill, ?_, ?_, fun hno => absurd (hc.symm.trans hno) Bool.noConfusion, h.playing, h.live⟩
  · dsimp only
    rw [he]
    exact ⟨hwaiting, hlive, hr, hsamples, hreserved, hfew⟩
  · have hahead := h.ahead
    have hpos := Channel.purgesAhead_pos hc
    simp only [Channel.purgesAhead, hc, if_true] at hahead hpos ⊢
    rcases hw with hw | hw | hw
    · simp only [hw, if_true]
      omega
    · rw [if_neg hw] at hahead
      split <;> omega
    · split <;> omega

/-- A change that leaves the reader, the window, the map, the held context, the data cursor and the epoch. -/
theorem State.meets.note (h : s.meets l hand n live) {g : Fetch → Fetch} (hg : ∀ f, g f = { f with
      cursor := (g f).cursor, frontier := (g f).frontier, nudge := (g f).nudge, poll := (g f).poll, accepted := (g f).accepted,
      nextOcc := (g f).nextOcc }) : (s.modFetch c g).meets l hand n live := by
  refine h.modChan_keep fun _ ho => ?_
  rw [hg]
  exact ⟨⟨ho.fetch.window, ho.fetch.room, ho.fetch.loops, ho.fetch.keys, ho.fetch.held, ho.fetch.owed, ho.fetch.settled⟩, ho.fill,
    ho.port, ho.ahead, ho.silent, ho.playing, ho.live⟩

/-- The reader enters a state that allows the step reads that stand and, where it is to read on, has room in the window. -/
theorem State.meets.setReader (h : s.meets l hand n live) (hhand : hand = none ∨ hand = some c) (hl : l.watches c → live)
    {g : Fetch → Fetch} (hg : ∀ f, g f = { f with
      reader := (g f).reader, cursor := (g f).cursor, frontier := (g f).frontier, nudge := (g f).nudge, poll := (g f).poll,
      accepted := (g f).accepted })
    (hroom : l.watches c → (s.chan c).fetch.window.length ≤ 3 ∨ (g (s.chan c).fetch).reader = .off
      ∨ (g (s.chan c).fetch).reader = .windowFull ∨ (g (s.chan c).fetch).reader = .listEnd
      ∨ (g (s.chan c).fetch).reader = .decisionPause ∨ (g (s.chan c).fetch).reader = .blocked)
    (hreads : l.watches c → s.stepReads c ≤ (g (s.chan c).fetch).reader.reads) : (s.modFetch c g).meets l none n live := by
  refine h.modChan (fun hc ho => ?_) (fun _ => ⟨rfl, id⟩) fun _ => hand_other hhand
  have hreads := hreads hc
  have hroom := hroom hc
  rw [hg] at hreads hroom ⊢
  refine ho.withFetch (ho.live (hl hc)) ⟨ho.fetch.window, fun hr => ?_, ho.fetch.loops, ho.fetch.keys, ho.fetch.held, ho.fetch.owed,
    ho.fetch.settled⟩ rfl (by rw [Fetch.readerFor_none]; exact hreads) ?_
  · rw [Fetch.readerFor_none] at hr
    rcases hroom with hroom | hroom
    · exact hroom
    · dsimp only at hr hroom
      rcases hr with hr | hr | hr | hr <;> rw [hr] at hroom <;> simp at hroom
  · by_cases hw : (s.chan c).fetch.window = []
    · exact Or.inl hw
    · exact Or.inr (Or.inl hw)

theorem State.meets.noReads (h : s.meets l hand n live) (hc : l.watches c) (hr : ((s.chan c).fetch.readerFor hand c).reads = 0) :
    s.stepReads c = 0 := Nat.le_zero.1 (hr ▸ (h.chan c hc).port.reads)

/-! ### The step reader (R26 to R34) -/

/-- The slot under the cursor is read: no step read of the channel stands, and its window has room (R26, R27). -/
theorem State.meets.readSlot (h : s.meets l hand n live) (hhand : hand = none ∨ hand = some c) (hl : l.watches c → live)
    (hw : l.watches c → (s.chan c).fetch.window.length ≤ 3) (hr : l.watches c → s.stepReads c = 0) (reread : Bool) :
    (s.readSlot c reread).meets l none n live := by
  have hset : (s.modFetch c fun f => { f with reader := .slotRead }).meets l none n live :=
    h.setReader hhand hl (fun _ => rfl) (fun hc => Or.inl (hw hc)) fun hc => by rw [hr hc]; exact Nat.zero_le _
  refine hset.raise _ fun d hd hk => ?_
  obtain rfl : c = d := Option.some.inj hk
  refine ⟨hset.counts hd (hl hd), ?_⟩
  obtain ⟨hwaiting, hlive, -, hsamples, hreserved, hfew⟩ := (h.chan c hd).port
  rw [State.chan_modFetch]
  refine Port.serves.plus_read ⟨hwaiting, hlive, (hr hd).le, hsamples, hreserved, hfew⟩ ?_
  simp [Transfer.isStepReadOf, State.chan]

theorem State.meets.readerTo (h : s.meets l hand n live) (hhand : hand = none ∨ hand = some c) (hl : l.watches c → live)
    (hr : l.watches c → s.stepReads c = 0) (slot : Nat) : (s.readerTo c slot).meets l none n live := by
  have hcursor : (s.modFetch c fun f => { f with cursor := slot }).meets l hand n live := h.note fun _ => rfl
  have hreads : l.watches c → (s.modFetch c fun f => { f with cursor := slot }).stepReads c = 0 := fun hc => by
    rw [State.stepReads, State.chan_modFetch]
    exact hr hc
  unfold State.readerTo
  dsimp only
  split
  · rename_i hroom
    exact hcursor.readSlot hhand hl (fun _ => Nat.le_of_lt_succ hroom) hreads false
  · exact hcursor.setReader hhand hl (fun _ => rfl) (fun _ => Or.inr (Or.inr (Or.inl rfl))) fun hc => (hreads hc).le

theorem State.meets.readerOn (h : s.meets l hand n live) (hhand : hand = none ∨ hand = some c) (hl : l.watches c → live)
    (hr : l.watches c → s.stepReads c = 0) (successor : Option Nat) : (s.readerOn c successor).meets l none n live := by
  cases successor with
  | some slot => exact h.readerTo hhand hl hr slot
  | none =>
    exact State.meets.setReader (g := fun f => { f with reader := .listEnd }) h hhand hl (fun _ => rfl)
      (fun _ => Or.inr (Or.inr (Or.inr (Or.inl rfl)))) fun hc => (hr hc).le

theorem State.meets.resumeReader (h : s.meets l none n live) (hl : l.watches c → live) (ctx : StepContext) :
    (s.resumeReader c ctx).meets l none n live := by
  unfold State.resumeReader
  split
  · rename_i hpaused
    have hreader : (s.chan c).fetch.reader = .decisionPause := hpaused.2
    exact h.readerOn (Or.inl rfl) hl (fun hc => h.noReads hc (by rw [Fetch.readerFor_none, hreader]; rfl)) _
  · exact h

/-- A nudge or a frontier poll reaches a reader AT_FRONTIER, whose channel plays (R37, R38). -/
theorem State.meets.reread (h : s.meets l none n live) (hr : (s.chan c).fetch.reader = .atFrontier) :
    ∃ live', (s.reread c).meets l none n live' := by
  refine ⟨l.watches c, (h.go fun hc => (h.chan c hc).counts_of_reader (by rw [hr]; exact nofun)).readSlot (Or.inl rfl) id
    (fun hc => (h.chan c hc).fetch.room ?_) (fun hc => h.noReads hc ?_) true⟩ <;> rw [Fetch.readerFor_none, hr]
  · exact Or.inr (Or.inr (Or.inl rfl))
  · rfl

theorem State.within.nudgeChannel (h : s.within l) (c : Chan) : (s.nudgeChannel c).within l := by
  obtain ⟨n, h⟩ := h
  unfold State.nudgeChannel
  split
  · rename_i hr
    obtain ⟨_, h⟩ := h.reread hr
    exact h.toWithin
  · exact State.meets.toWithin (h.note fun _ => rfl)
  · exact h.toWithin

/-! ### The data feeder (R32, R52, R57) -/

theorem State.sampleOut_eq_false (h : s.sampleOut c = false) :
    s.port.stands.countP (fun r => r.kind.isSampleOf c (s.chan c).fetch.epoch) = 0 := by
  rw [List.countP_eq_zero]
  intro r hr hk
  refine Bool.eq_false_iff.1 h ((s.sampleOut_iff c).2 ?_)
  rcases List.mem_append.1 hr with hr | hr
  · rw [Port.live] at hr
    split at hr
    · cases hr
    · rename_i hd
      exact Or.inr ⟨Bool.eq_false_iff.2 hd, r, by simpa using hr, hk⟩
  · exact Or.inl ⟨r, hr, hk⟩

theorem Fetch.inOrder.moveData {r : ReaderState} (h : f.inOrder r) (d : Option DataCursor) : (f.moveData d).inOrder r :=
  ⟨h.window, h.room, h.loops, h.keys, h.held, fun ctx hctx => h.owed ctx (List.mem_filter.1 hctx).1, fun hd => by
    obtain rfl : d = none := hd
    simp [Fetch.moveData]⟩

theorem Channel.inOrder.moveData (h : ch.inOrder l hand n live c p) (hd : ch.fetch.data ≠ none) (d : Option DataCursor) :
    Channel.inOrder l hand n live { ch with fetch := ch.fetch.moveData d } c p := by
  refine h.withFetch (h.counts_of_data hd) (h.fetch.moveData d) rfl h.port.reads ?_
  by_cases hw : ch.fetch.window = []
  · exact Or.inl hw
  · exact Or.inr (Or.inl hw)

/-- The data feeder asks for at most what the stream capacity leaves, and for nothing while a request stands (R32, R51, R52). -/
theorem State.meets.feed (h : s.meets l hand n live) (c : Chan) : (s.feed c).meets l hand n live := by
  by_cases hout : s.sampleOut c = true
  · rw [State.feed_busy hout]
    exact h
  have hout := Bool.eq_false_iff.2 hout
  by_cases hstep : ∃ ctx pass offset, (s.chan c).fetch.data = some (.step ctx pass offset)
  swap
  · rw [State.feed_offStep fun ctx pass offset hd => hstep ⟨ctx, pass, offset, hd⟩]
    exact h
  obtain ⟨ctx, pass, offset, hd⟩ := hstep
  have hdata : (s.chan c).fetch.data ≠ none := by rw [hd]; exact nofun
  have hserves : l.watches c → s.port.serves c (s.chan c).fetch.epoch ((s.chan c).fetch.readerFor hand c).reads 0
      (s.chan c).pool.reserve (n + l.slack) := fun hc => by
    obtain ⟨hwaiting, hlive, hreads, -, hreserved, hfew⟩ := (h.chan c hc).port
    exact ⟨hwaiting, hlive, hreads, (State.sampleOut_eq_false hout).le, hreserved, hfew⟩
  obtain ⟨m, hm⟩ : ∃ m, m = min 64 (ctx.wEff - offset) := ⟨_, rfl⟩
  have hmoved : (s.modFetch c fun f => f.moveData (f.cursorStep ctx pass offset m)).meets l hand n live :=
    h.modChan_keep fun _ ho => ho.moveData hdata _
  rw [State.feed_onStep hout hd hm]
  dsimp only
  split
  · refine hmoved.raise _ fun d hw hk => ?_
    obtain rfl : c = d := Option.some.inj hk
    rw [State.chan_modFetch]
    refine ⟨(h.chan c hw).counts_of_data hdata, (hserves hw).plus_sample ?_ fun k format hkind => by cases hkind⟩
    simp [Transfer.isSampleOf, readOf, State.chan]
  · split
    · rename_i hfit
      have hfill : ((s.modFetch c fun f => f.moveData (f.cursorStep ctx pass offset m)).modPool c
          fun p => { p with reserve := m }).chan c =
          { s.chan c with
            fetch := (s.chan c).fetch.moveData ((s.chan c).fetch.cursorStep ctx pass offset m)
            pool := { (s.chan c).pool with reserve := m } } :=
        (State.chan_modChan_same ..).trans (by rw [State.chan_modFetch])
      have hreserved : ((s.modFetch c fun f => f.moveData (f.cursorStep ctx pass offset m)).modPool c
          fun p => { p with reserve := m }).meets l hand n live := by
        refine hmoved.modChan_keep fun hw ho => ?_
        rw [State.chan_modFetch] at ho ⊢
        obtain ⟨hwaiting, hlive, hreads, hsamples, -, hfew⟩ := hserves hw
        have hnone : ∀ x ∈ s.port.stands, x.kind.isSampleOf c (s.chan c).fetch.epoch ≠ true := by
          simpa [List.countP_eq_zero] using Nat.le_zero.1 hsamples
        refine ⟨ho.fetch, ?_, ⟨hwaiting, hlive, hreads, hsamples.trans (Nat.zero_le _), fun r hr k format hk => ?_, hfew⟩, ho.ahead,
          fun hno => absurd (((h.chan c hw).counts_of_data hdata).symm.trans hno) Bool.noConfusion, ho.playing, ho.live⟩
        · rw [← State.capacity_eq h.engine]
          exact (Nat.add_le_add_right (Nat.le_add_right _ _) m).trans hfit
        · exact (hnone r hr (by rw [hk]; simp [Transfer.isSampleOf])).elim
      refine hreserved.raise _ fun d hw hk => ?_
      obtain rfl : c = d := Option.some.inj hk
      rw [hfill]
      refine ⟨(h.chan c hw).counts_of_data hdata, (hserves hw).plus_sample ?_ fun k format hkind => ?_⟩
      · simp [Transfer.isSampleOf, readOf, State.chan]
      · obtain ⟨-, -, hmk, -⟩ := Transfer.streamRequest.inj hkind
        exact hmk.symm.le
    · exact h

end Fetching

end Sys2Proof.Machine

namespace Sys2Proof.Machine

/-! ## Placing, releasing, retiring and purging keep a channel in order (chapter 2) -/

/-! ### The loop counter map (R13, R31) -/

theorem mapAfter_keys {map : List (Nat × Nat)} {b : StepBody} {slot : Nat} (h : (map.map Prod.fst).Nodup) :
    ((mapAfter b slot map).map Prod.fst).Nodup := by
  unfold mapAfter
  split
  · split
    · rename_i hnone
      rw [List.map_append, List.map_singleton, List.nodup_append]
      refine ⟨h, List.nodup_singleton _, ?_⟩
      intro a ha b hb hab
      obtain ⟨e, he, rfl⟩ := List.mem_map.1 ha
      rw [List.mem_singleton.1 hb] at hab
      exact fst_ne_of_mapEntry_none hnone e he hab
    · exact h.sublist (List.filter_sublist.map _)
    · have hsame : ∀ n, (map.map fun e => if e.1 == slot then (e.1, n) else e).map Prod.fst = map.map Prod.fst := fun n => by
        rw [List.map_map]
        refine List.map_congr_left fun e _ => ?_
        simp only [Function.comp]
        split <;> rfl
      rw [hsame]
      exact h
  · exact h

theorem mapAfter_length {map : List (Nat × Nat)} {ctx : StepContext} (h : map.length ≤ 8) (hroom : mapHasRoom ctx map) :
    (mapAfter ctx.body ctx.slot map).length ≤ 8 := by
  unfold mapAfter
  split
  · rename_i hloop
    split
    · rename_i hnone
      rw [List.length_append]
      exact hroom hloop.1 hloop.2 hnone
    · exact (List.length_filter_le _ _).trans h
    · rw [List.length_map]
      exact h
  · exact h

section Placing

variable {l : Ledger} {s : State} {hand : Option Chan} {n : Nat} {live : Prop} {c d : Chan} {ch : Channel} {p : Port} {f : Fetch}
  {ctx : StepContext}

theorem Fetch.joined_inOrder {r : ReaderState} (h : f.inOrder r) (hw : f.window.length ≤ 3) (hroom : mapHasRoom ctx f.map) :
    (f.joined ctx).inOrder .off where
  window := by simpa [Fetch.joined] using Nat.lt_succ_of_le hw
  room hr := by rcases hr with hr | hr | hr | hr <;> cases hr
  loops := mapAfter_length h.loops hroom
  keys := mapAfter_keys h.keys
  held _ hctx := by cases hctx
  owed := h.owed
  settled hd := by
    simp only [Fetch.joined] at hd
    split at hd
    · cases hd
    · rename_i hne
      exact (hne hd).elim

/-- A step is placed while the read that brought it is in hand, or from BANK_WAIT (R25, R28, R31). -/
theorem State.meets.placeContext (h : s.meets l (some c) n live) (hl : l.watches c → live) (hn : l.watches c → 2 ≤ n)
    (hw : l.watches c → (s.chan c).fetch.window.length ≤ 3) (hroom : l.watches c → mapHasRoom ctx (s.chan c).fetch.map) :
    (s.placeContext c ctx).meets l none n live := by
  have hjoined : (s.modFetch c (·.joined ctx)).meets l (some c) n live := by
    refine h.modChan_keep fun hc ho => ?_
    have hnone := h.noReads hc (by rw [Fetch.readerFor_hand]; rfl)
    refine ho.withFetch (ho.live (hl hc)) ?_ rfl (hnone.le.trans (Nat.zero_le _)) (Or.inr (Or.inr (hn hc)))
    rw [Fetch.readerFor_hand]
    exact Fetch.joined_inOrder ho.fetch (hw hc) (hroom hc)
  have hfed := hjoined.feed c
  have hnone : l.watches c → ((s.modFetch c (·.joined ctx)).feed c).stepReads c = 0 :=
    fun hc => hfed.noReads hc (by rw [Fetch.readerFor_hand]; rfl)
  rw [State.placeContext_eq, State.readsOn_eq]
  split
  · exact State.meets.setReader (g := fun f => { f with reader := .decisionPause }) hfed (Or.inr rfl) hl (fun _ => rfl)
      (fun _ => Or.inr (Or.inr (Or.inr (Or.inr (Or.inl rfl))))) fun hc => (hnone hc).le
  · exact hfed.readerOn (Or.inr rfl) hl hnone _

/-- A change of the loop banks alone. -/
theorem State.meets.modBanks (h : s.meets l hand n live) {g : Pool → Pool} (hq : ∀ p, (g p).queue = p.queue)
    (hr : ∀ p, (g p).reserve = p.reserve) : (s.modPool c g).meets l hand n live :=
  h.modChan_keep fun _ ho => ho.congr rfl (hq _) (hr _) rfl

theorem Pool.setBank_queue (p : Pool) (id : BankId) (b : Bank) : (p.setBank id b).queue = p.queue := by cases id <;> rfl

theorem Pool.setBank_reserve (p : Pool) (id : BankId) (b : Bank) : (p.setBank id b).reserve = p.reserve := by cases id <;> rfl

theorem State.chan_modPool (s : State) (c : Chan) (g : Pool → Pool) :
    (s.modPool c g).chan c = { s.chan c with pool := g (s.chan c).pool } := s.chan_modChan_same c _

theorem State.meets.placeResident (h : s.meets l (some c) n live) (hl : l.watches c → live) (hn : l.watches c → 2 ≤ n)
    (hw : l.watches c → (s.chan c).fetch.window.length ≤ 3) (hroom : l.watches c → mapHasRoom ctx (s.chan c).fetch.map) (id : BankId) :
    (s.placeResident c ctx id).meets l none n live := by
  have hbank : (s.modPool c fun p => p.setBank id (.loading ctx.occ [])).meets l (some c) n live :=
    h.modBanks (fun p => p.setBank_queue _ _) fun p => p.setBank_reserve _ _
  refine State.meets.placeContext hbank hl hn ?_ ?_ <;> rw [State.chan_modPool]
  · exact hw
  · exact hroom

/-- A reader with no read standing may be taken in hand. -/
theorem State.meets.inHand (h : s.meets l none n live) (hr : l.watches c → s.stepReads c = 0) : s.meets l (some c) n live := by
  refine ⟨h.phase, h.engine, h.orders, fun d hd => ?_⟩
  by_cases hcd : c = d
  · subst hcd
    have ho := h.chan c hd
    obtain ⟨hwaiting, hlive, -, hsamples, hreserved, hfew⟩ := ho.port
    refine ⟨⟨ho.fetch.window, fun hr => ?_, ho.fetch.loops, ho.fetch.keys, ho.fetch.held, ho.fetch.owed, ho.fetch.settled⟩, ho.fill,
      ⟨hwaiting, hlive, (hr hd).le.trans (Nat.zero_le _), hsamples, hreserved, hfew⟩, ho.ahead, ho.silent, ho.playing, ho.live⟩
    rw [Fetch.readerFor_hand] at hr
    rcases hr with hr | hr | hr | hr <;> cases hr
  · exact (h.chan d hd).rehand (by simp [hcd]) id

/-- An occurrence's bank is released; a context held in BANK_WAIT takes it (R29, R59). -/
theorem State.meets.releaseBank (h : s.meets l none n live) (hl : l.watches c → live) (hn : l.watches c → 2 ≤ n) (occ : Nat) :
    (s.releaseBank c occ).meets l none n live := by
  unfold State.releaseBank
  dsimp only
  generalize hfeed : State.feed _ c = fed
  have hfed : fed.meets l none n live := by
    rw [← hfeed]
    refine State.meets.feed (State.meets.modChan_keep (State.meets.withdraw (h.modBanks ?_ ?_) _) fun _ ho => ?_) c
    · exact fun _ => rfl
    · exact fun _ => rfl
    · dsimp only
      split
      · rename_i hd
        split
        · exact ho.moveData (by rw [hd]; exact nofun) _
        · exact ho
      · exact ho
  split
  · rename_i held id hwait hheld _
    have hread : l.watches c → _ := fun hc => hfed.noReads (c := c) hc (by
      rw [Fetch.readerFor_none]
      exact (congrArg ReaderState.reads hwait).trans rfl)
    refine (hfed.inHand hread).placeResident hl hn (fun hc => (hfed.chan c hc).fetch.room ?_)
      (fun hc => (hfed.chan c hc).fetch.held held hheld) id
    rw [Fetch.readerFor_none]
    exact Or.inr (Or.inr (Or.inr hwait))
  · exact hfed

/-! ### Retirement (R30, R41) -/

theorem State.retireWrite_calm (s : State) (c : Chan) (ctx : StepContext) : s.calm (s.retireWrite c ctx) := by
  unfold State.retireWrite
  split
  · exact s.raise_calm rfl
  · exact s.calm_refl

theorem Fetch.withoutHead_inOrder {r : ReaderState} (h : f.inOrder r) (ctx : StepContext) : (f.withoutHead ctx).inOrder r where
  window := by
    rw [Fetch.withoutHead_window, List.length_tail]
    exact (Nat.sub_le _ _).trans h.window
  room hr := by
    rw [Fetch.withoutHead_window, List.length_tail]
    exact (Nat.sub_le _ _).trans (h.room hr)
  loops := h.loops
  keys := h.keys
  held := h.held
  owed o ho := by
    simp only [Fetch.withoutHead] at ho
    split at ho
    · rename_i hlate
      rcases List.mem_append.1 ho with ho | ho
      · exact h.owed o ho
      · rw [List.mem_singleton.1 ho]
        exact hlate.1
    · exact h.owed o ho
  settled hd := by
    have hdata : f.data = none := hd
    simp only [Fetch.withoutHead, hdata]
    simpa using h.settled hdata

theorem State.meets.dropHead (h : s.meets l none n live) (hl : l.watches c → live) (ctx : StepContext) :
    (s.dropHead c ctx).meets l none n live := by
  have hdropped : (s.modFetch c fun f => f.withoutHead ctx).meets l none n live := by
    refine h.modChan_keep fun hc ho => ho.withFetch (ho.live (hl hc)) (Fetch.withoutHead_inOrder ho.fetch ctx) rfl ho.port.reads ?_
    by_cases hw : (s.chan c).fetch.window = []
    · exact Or.inl (by rw [Fetch.withoutHead_window, hw]; rfl)
    · exact Or.inr (Or.inl hw)
  unfold State.dropHead
  dsimp only
  split
  · rename_i hfull
    refine hdropped.readSlot (Or.inl rfl) hl (fun hc => ?_) (fun hc => hdropped.noReads hc ?_) false
    · have := (h.chan c hc).fetch.window
      rw [State.chan_modFetch]
      simp only [Fetch.withoutHead_window, List.length_tail]
      omega
    · rw [Fetch.readerFor_none]
      exact (congrArg ReaderState.reads hfull).trans rfl
  · exact hdropped

theorem Ev.ask_st (e : Ev) (c : Chan) : (e.ask c).st = e.st := rfl

theorem Ev.retireStep_meets {e : Ev} (h : e.st.meets l none n live) (hl : l.watches c → live) (ctx : StepContext) :
    (e.retireStep c ctx).st.meets l none n live := by
  have hdropped := (h.calm (State.retireWrite_calm e.st c ctx)).dropHead hl ctx
  rw [Ev.retireStep, Ev.ask_st]
  refine State.meets.calm ?_ (Ev.modPlay_calm _ c (by intro; rfl))
  exact hdropped

theorem Ev.retirePlaying_meets {e : Ev} (h : e.st.meets l none n live) (hl : l.watches c → live) (hn : l.watches c → 2 ≤ n)
    (ctx : StepContext) : (e.retirePlaying c ctx).st.meets l none n live := by
  have hretired := Ev.retireStep_meets h hl ctx
  have hquiet : (if ctx.body.reportEnd then (e.retireStep c ctx).addChanRecord c .stepEnd ctx.slot (e.chan c).play.stepExpiries
      (e.chan c).level.stepClips else e.retireStep c ctx).st.meets l none n live := by
    split <;> exact hretired
  have hmarked := hquiet.calm (State.modLevel_calm _ c fun l => { l with markers := bothMarkers (·.quiet) l.markers })
  unfold Ev.retirePlaying
  dsimp only
  split
  · exact State.meets.releaseBank hmarked hl hn ctx.occ
  · exact hmarked

end Placing

end Sys2Proof.Machine

namespace Sys2Proof.Machine

/-! ## Purges, stops and faults keep a channel in order (R40, R88, R89) -/

/-- A fetch context after a purge, its map kept or emptied (R40). -/
def Fetch.purged (f : Fetch) (keepMap : Bool) : Fetch :=
  { f with
    reader := .off
    data := none
    window := []
    held := none
    accepted := none
    map := if keepMap then f.map else []
    epoch := f.epoch + 1
    frontier := false
    nudge := false
    poll := 0
    owed := [] }

section Purging

variable {l : Ledger} {s : State} {e : Ev} {hand : Option Chan} {n n' : Nat} {live live' : Prop} {c d : Chan} {ch : Channel} {p : Port}
  {st : ChannelState} {w : WaitReason}

theorem State.purge_eq (s : State) (c : Chan) (keepMap : Bool) :
    s.purge c keepMap = (s.withdraw (Transfer.isFetchOf c)).modChan c fun ch =>
      { ch with fetch := ch.fetch.purged keepMap, pool := Pool.reset } := by
  simp [State.purge, State.modFetch, State.modPool, State.modChan, Fetch.purged]

theorem Port.no_waiting (p : Port) (c : Chan) : ∀ r ∈ (p.without (Transfer.isFetchOf c)).waiting, r.kind.chan? ≠ some c := by
  intro r hr hc
  have := (List.mem_filter.1 hr).2
  simp [Transfer.isFetchOf, hc] at this

theorem Fetch.purged_inOrder {f : Fetch} {r r' : ReaderState} (h : f.inOrder r) (keepMap : Bool) : (f.purged keepMap).inOrder r' where
  window := Nat.zero_le _
  room _ := Nat.zero_le _
  loops := by
    cases keepMap
    · exact Nat.zero_le _
    · exact h.loops
  keys := by
    cases keepMap
    · exact List.nodup_nil
    · exact h.keys
  held _ hctx := by cases hctx
  owed _ hctx := by cases hctx
  settled _ := rfl

/-- A purged channel, none of whose requests waits, has spent one purge: it plays on with an empty window, or plays no more. -/
theorem Channel.inOrder.purged {play : Play} (h : ch.inOrder l hand n live c p) (hw : ∀ r ∈ p.waiting, r.kind.chan? ≠ some c)
    (keepMap : Bool) (hn : n = n' + 1) (hplay : play.state.counts = true → ch.play.state.counts = true ∧ 1 ≤ n')
    (hlive : live' → play.state.counts = true) :
    Channel.inOrder l none n' live' { ch with fetch := ch.fetch.purged keepMap, pool := Pool.reset, play } c p := by
  have hnext := h.port.next hw
  refine ⟨Fetch.purged_inOrder h.fetch keepMap, Nat.zero_le _, ?_, ?_, fun _ => ⟨⟨rfl, rfl, rfl, rfl, rfl, rfl⟩, hnext⟩,
    fun hc => h.playing (hplay hc).1, hlive⟩
  · have hport := h.port
    rw [hn, Nat.add_right_comm] at hport
    exact (hport.advance hw 0).mono (Nat.zero_le _) (Nat.zero_le _) le_rfl
  · unfold Channel.purgesAhead
    split
    · rename_i hc
      exact (if_pos rfl).le.trans (hplay hc).2
    · exact Nat.zero_le _

/-- A purge of a channel that plays on (R35, R40). -/
theorem State.meets.purge (h : s.meets l none n live) (keepMap : Bool) (hn : l.watches c → 2 ≤ n) :
    ∃ n', (s.purge c keepMap).meets l none n' live := by
  rw [State.purge_eq]
  by_cases hc : l.watches c
  · obtain ⟨k, rfl⟩ : ∃ k, n = k + 1 := ⟨n - 1, by have := hn hc; omega⟩
    refine ⟨k, (h.withdraw _).modChan (fun _ ho => ?_) (fun hno => (hno hc).elim) fun _ _ => Iff.rfl⟩
    exact ho.purged (Port.no_waiting s.port c) keepMap rfl (fun hplays => ⟨hplays, by have := hn hc; omega⟩) ho.live
  · exact ⟨n, (h.withdraw _).modChan (fun hw => (hc hw).elim) (fun _ => ⟨rfl, id⟩) fun _ _ => Iff.rfl⟩

theorem State.purge_modPlay (s : State) (c : Chan) (keepMap : Bool) (f : Play → Play) :
    (s.purge c keepMap).modPlay c f = (s.withdraw (Transfer.isFetchOf c)).modChan c fun ch =>
      { ch with fetch := ch.fetch.purged keepMap, pool := Pool.reset, play := f ch.play } := by
  rw [State.purge_eq]
  simp [State.modPlay, State.modChan]

/-- A purge of a channel that plays no more (R62, R88). -/
theorem State.meets.purgeTo (h : s.meets l hand n live) (hhand : hand = none ∨ hand = some c) (hst : st.counts = false)
    (hn : l.watches c → 1 ≤ n) (w : WaitReason) :
    ((s.purge c false).modPlay c fun p => { p with state := st, wait := w }).within l := by
  rw [State.purge_modPlay]
  by_cases hc : l.watches c
  · obtain ⟨k, rfl⟩ : ∃ k, n = k + 1 := ⟨n - 1, by have := hn hc; omega⟩
    refine ⟨k, (h.withdraw _).modChan (fun _ ho => ?_) (fun hno => (hno hc).elim) fun _ => hand_other hhand⟩
    exact ho.purged (Port.no_waiting s.port c) false rfl (fun hplays => absurd (hst.symm.trans hplays) Bool.noConfusion) False.elim
  · exact ⟨n, (h.withdraw _).modChan (fun hw => (hc hw).elim) (fun _ => ⟨rfl, False.elim⟩) fun _ => hand_other hhand⟩

/-! ### Channel states -/

/-- A channel that plays takes another state in which it plays. -/
theorem Ev.setState_meets (h : e.st.meets l hand n live) (hl : l.watches c → live) (hst : st.counts = true) :
    (e.setState c st w).st.meets l hand n live := by
  rw [Ev.setState_st]
  exact h.modChan_keep fun hc ho => ho.congr rfl rfl rfl (hst.trans (ho.live (hl hc)).symm)

/-- A channel that does not play takes another state in which it does not. -/
theorem Ev.setState_within (h : e.st.within l) (hc : l.watches c → (e.chan c).play.state.counts = false) (hst : st.counts = false) :
    (e.setState c st w).st.within l := by
  obtain ⟨n, h⟩ := h
  rw [Ev.setState_st]
  exact ⟨n, h.modChan_keep fun hw ho => ho.congr rfl rfl rfl (hst.trans (hc hw).symm)⟩

/-- The purge of a channel that plays and its new state, in an event. -/
theorem Ev.purgeTo_within (h : e.st.meets l hand n live) (hhand : hand = none ∨ hand = some c) (hst : st.counts = false)
    (hn : l.watches c → 1 ≤ n) : ((e.mod (·.purge c false)).setState c st w).st.within l := by
  rw [Ev.setState_st]
  exact h.purgeTo hhand hst hn w

/-! ### Stops (R88) -/

theorem State.meets.pos (h : s.meets l hand n live) (hc : l.watches c → (s.chan c).play.state.counts = true) (hw : l.watches c) : 1 ≤ n :=
  (Channel.purgesAhead_pos (hc hw)).trans (h.chan c hw).ahead

theorem State.meets.two (h : s.meets l hand n live) (hc : l.watches c → (s.chan c).play.state.counts = true)
    (hhead : (s.chan c).head ≠ none) (hw : l.watches c) : 2 ≤ n :=
  (Channel.purgesAhead_two (hc hw) hhead).ge.trans (h.chan c hw).ahead

theorem State.quietMarkers_calm (s : State) (c : Chan) : s.calm (s.quietMarkers c) := s.modLevel_calm c _

theorem State.endOfPlay_calm (s : State) (c : Chan) : s.calm (s.endOfPlay c) := s.modLevel_calm c _

theorem Ev.mod_calm (e : Ev) {g : State → State} (h : e.st.calm (g e.st)) : e.st.calm (e.mod g).st := h

/-- What a stop shows once its record is raised (R88, R102, R111, R112). -/
theorem Ev.stopShown_calm (e : Ev) (c : Chan) (reason : StopReason) (x : Bool) : e.st.calm (Ev.mod
    (if reason = .drain ∨ reason = .endStep then
      ((if reason = .leaderGone then e.raiseCond c .leaderGone else e).mod (·.quietMarkers c)).mod (·.endOfPlay c)
    else (if reason = .leaderGone then e.raiseCond c .leaderGone else e).mod (·.quietMarkers c)) (·.toIdleLevel c x)).st := by
  have hcond : e.st.calm (if reason = .leaderGone then e.raiseCond c .leaderGone else e).st := by
    split
    · exact e.st.raiseCond_calm c _
    · exact e.st.calm_refl
  have hquiet := hcond.trans (Ev.mod_calm (g := (·.quietMarkers c)) _ (State.quietMarkers_calm _ c))
  refine State.calm.trans ?_ (Ev.mod_calm (g := (·.toIdleLevel c x)) _ (State.toIdleLevel_calm _ c x))
  split
  · exact hquiet.trans (Ev.mod_calm (g := (·.endOfPlay c)) _ (State.endOfPlay_calm _ c))
  · exact hquiet

theorem Ev.stopFrom_within (h : e.st.meets l none n live) (hn : l.watches c → 1 ≤ n) (reason : StopReason) (x : Bool) :
    (e.stopFrom c reason x).st.within l := by
  have hpurged : ((e.mod (·.purge c false)).setState c .idle .none).st.within l := Ev.purgeTo_within h (Or.inl rfl) rfl hn
  have hplay := hpurged.calm (Ev.modPlay_calm ((e.mod (·.purge c false)).setState c .idle .none) c
    (f := fun p => { p with pendingStop := .none, lastStop := reason, episode := 0 }) fun _ => rfl)
  unfold Ev.stopFrom
  dsimp only
  exact State.within.calm (by exact hplay) (Ev.stopShown_calm _ c reason x)

theorem State.meets.stays (h : s.meets l hand n live) {t : State} (g : s.calm t) (hc : l.watches c → (s.chan c).play.state.counts = true) :
    t.meets l hand n (l.watches c) := (h.calm g).go fun hw => by rw [g.state c]; exact hc hw

theorem Ev.stopCore_within (h : e.st.within l) (hc : l.watches c → (e.st.chan c).play.state.counts = true) (reason : StopReason)
    (x : Bool) : (e.stopCore c reason x).st.within l := by
  obtain ⟨n, h⟩ := h
  have hclosed := h.stays (e.closeEpisode_calm c) hc
  have hpos := h.pos hc
  by_cases hcut : (e.st.chan c).play.state = .running ∧ reason = .cut ∧ (e.st.chan c).headStep ≠ none
  · obtain ⟨hrunning, rfl, hstep⟩ := hcut
    obtain ⟨ctx, hstep⟩ := Option.ne_none_iff_exists'.1 hstep
    have hhead : (e.st.chan c).head ≠ none := fun hno => by simp [Channel.headStep, hno] at hstep
    rw [Ev.stopCore_cut e c x ⟨hrunning, hstep⟩]
    exact Ev.stopFrom_within (Ev.retirePlaying_meets hclosed id (h.two hc hhead) ctx) hpos _ _
  · rw [Ev.stopCore_eq e c reason x]
    · exact Ev.stopFrom_within hclosed hpos _ _
    · by_cases hrunning : (e.st.chan c).play.state = .running
      · by_cases hreason : reason = .cut
        · exact Or.inr (Or.inr (by_contra fun hstep => hcut ⟨hrunning, hreason, hstep⟩))
        · exact Or.inr (Or.inl hreason)
      · exact Or.inl hrunning

theorem Ev.forEach_within {xs : List Chan} {f : Ev → Chan → Ev} (h : e.st.within l)
    (hf : ∀ (e : Ev) (c : Chan), e.st.within l → (f e c).st.within l) : (e.forEach xs f).st.within l :=
  List.foldlRecOn (motive := fun e : Ev => e.st.within l) xs f h fun e he c _ => hf e c he

theorem Ev.loseLeader_within (h : e.st.within l) (leader : Chan) (x : Bool) (counted : BitVec 8) :
    (e.loseLeader leader x counted).st.within l := by
  refine Ev.forEach_within h fun e f h => ?_
  dsimp only
  split
  · have hlost : (e.modPlay f fun p => p.modGroup fun g => { g with leaderLost := true }).st.within l :=
      h.calm (e.modPlay_calm f (by intro; rfl))
    split
    · rename_i hwait
      exact Ev.stopCore_within hlost (fun _ => congrArg ChannelState.counts hwait.1) _ _
    · exact hlost
  · exact h

theorem Ev.groupAfter_within (h : e.st.within l) (c : Chan) (wasArmed : Bool) : (e.groupAfter c wasArmed).st.within l := by
  unfold Ev.groupAfter
  split
  · exact h.calm (e.leaveArmedGroup_calm c)
  · split
    · split
      · exact h
      · exact Ev.loseLeader_within h c _ _
    · exact h

theorem Ev.stopChannel_within (h : e.st.within l) (hc : l.watches c → (e.st.chan c).play.state.counts = true) (reason : StopReason)
    (x : Bool) : (e.stopChannel c reason x).st.within l :=
  Ev.groupAfter_within (Ev.stopCore_within h hc reason x) c _

/-! ### Faults (R89) -/

theorem Ev.faultChannel_within (h : e.st.within l) (hc : l.watches c → (e.st.chan c).play.state.counts = true) (cause : FaultCause) :
    (e.faultChannel c cause).st.within l := by
  obtain ⟨n, h⟩ := h
  have hpurged : (((e.closeEpisode c).mod (·.purge c false)).setState c .faulted .none).st.within l :=
    Ev.purgeTo_within (h.stays (e.closeEpisode_calm c) hc) (Or.inl rfl) rfl (h.pos hc)
  have hplay := hpurged.calm (Ev.modPlay_calm _ c (f := fun p => { p with pendingStop := .none, faultCause := cause, episode := 0 })
    fun _ => rfl)
  refine Ev.groupAfter_within (e := Ev.mod _ (·.showIdle c)) (State.within.calm ?_ (Ev.mod_calm _ (State.showIdle_calm _ c))) c _
  refine State.within.calm ?_ (Ev.mod_calm (g := (·.quietMarkers c)) _ (State.quietMarkers_calm _ c))
  exact State.within.calm (by exact hplay) (State.raiseCond_calm _ c cause.condition)

end Purging

end Sys2Proof.Machine

namespace Sys2Proof.Machine

/-! ## Playout keeps a channel in order (chapter 4) -/

section Playing

variable {l : Ledger} {s : State} {e : Ev} {n : Nat} {live : Prop} {c d : Chan} {ctx : StepContext}

/-! ### Waits and boundaries (R71 to R77) -/

theorem Ev.beginWait_meets (h : e.st.meets l none n live) (hl : l.watches c → live) (w : WaitReason) :
    (e.beginWait c w).st.meets l none n live :=
  State.meets.calm (Ev.setState_meets h hl rfl) (Ev.modPlay_calm _ c (by intro; rfl))

theorem Ev.beginData_meets (h : e.st.meets l none n live) (hl : l.watches c → live) (late : Bool) :
    (e.beginData c late).st.meets l none n live :=
  State.meets.calm (Ev.setState_meets h hl rfl) (Ev.modPlay_calm _ c (by intro; rfl))

theorem Ev.enterFrontier_meets (h : e.st.meets l none n live) (hl : l.watches c → live) :
    (e.enterFrontier c).st.meets l none n live := by
  have hplay := State.meets.calm (Ev.setState_meets (w := .none) h hl (st := .frontier) rfl)
    (Ev.modPlay_calm _ c (f := fun p => { p with episode := 0 }) fun _ => rfl)
  refine State.meets.calm ?_ (Ev.mod_calm (g := (·.showIdleNext c)) _ (State.showIdleNext_calm _ c))
  exact State.meets.calm (by exact hplay) (State.raiseCond_calm _ c .frontier)

theorem Ev.afterRetire_within (h : e.st.meets l none n live) (hl : l.watches c → live) : (e.afterRetire c).st.within l := by
  have hc : l.watches c → (e.st.chan c).play.state.counts = true := fun hw => h.counts hw (hl hw)
  have hclosed := h.calm (e.closeEpisode_calm c)
  unfold Ev.afterRetire
  split
  · exact Ev.faultChannel_within h.toWithin hc _
  · split
    · exact (Ev.beginWait_meets hclosed hl _).toWithin
    · split
      · exact Ev.stopChannel_within h.toWithin hc _ _
      · exact (Ev.beginWait_meets hclosed hl _).toWithin
    · exact (h.calm (e.becomePlaying_calm c)).toWithin
    · exact (h.calm (e.becomePlaying_calm c)).toWithin
  · split
    · exact Ev.stopChannel_within h.toWithin hc _ _
    · split
      · exact (Ev.enterFrontier_meets hclosed hl).toWithin
      · exact (Ev.beginData_meets hclosed hl _).toWithin

theorem Ev.boundary_within (h : e.st.meets l none n live) (hl : l.watches c → live) (hn : l.watches c → 2 ≤ n) (ctx : StepContext) :
    (e.boundary c ctx).st.within l := by
  have hretired := Ev.retirePlaying_meets h hl hn ctx
  have hc : l.watches c → ((e.retirePlaying c ctx).st.chan c).play.state.counts = true := fun hw => hretired.counts hw (hl hw)
  unfold Ev.boundary
  dsimp only
  split
  · exact Ev.stopChannel_within hretired.toWithin hc _ _
  · split
    · exact Ev.stopChannel_within hretired.toWithin hc _ _
    · exact Ev.afterRetire_within hretired hl

theorem Ev.endPass_within (h : e.st.meets l none n live) (hl : l.watches c → live) (hn : l.watches c → 2 ≤ n) (ctx : StepContext) :
    (e.endPass c ctx).st.within l := by
  have hoffset := h.calm (e.modPlay_calm c (f := fun p => { p with offset := 0 }) fun _ => rfl)
  unfold Ev.endPass
  dsimp only
  split
  · split
    · exact Ev.boundary_within hoffset hl hn ctx
    · exact hoffset.toWithin
  · split
    · exact (State.meets.calm hoffset (Ev.modPlay_calm _ c (by intro; rfl))).toWithin
    · exact Ev.boundary_within hoffset hl hn ctx

/-! ### A RUNNING expiry (R67 to R69, R81) -/

theorem Ev.takeStream_meets (h : e.st.meets l none n live) (hl : l.watches c → live) : (e.takeStream c).st.meets l none n live := by
  unfold Ev.takeStream
  split
  · rename_i x rest hqueue
    have htaken : (e.modPool c fun p => { p with queue := rest }).st.meets l none n live := by
      refine h.modChan_keep (f := fun ch => { ch with pool := { ch.pool with queue := rest } }) fun hc ho => ⟨ho.fetch, ?_, ho.port, ho.ahead,
        fun hno => absurd ((ho.live (hl hc)).symm.trans hno) Bool.noConfusion, ho.playing, ho.live⟩
      have hfill := ho.fill
      have hlength : (e.st.chan c).pool.queue.length = rest.length + 1 := congrArg List.length hqueue
      dsimp only
      omega
    exact State.meets.feed (State.meets.calm htaken (Ev.modPlay_calm _ c
      (f := fun p => { p with heldRaw := x, takeMissed := false }) fun _ => rfl)) c
  · refine State.meets.calm ?_ (Ev.modPlay_calm _ c (by intro; rfl))
    exact h.modBanks (g := fun p => { p with deficit := p.deficit + 1 }) (fun _ => rfl) fun _ => rfl

theorem Ev.obtain_meets (h : e.st.meets l none n live) (hl : l.watches c → live) (ctx : StepContext) :
    (e.obtain c ctx).1.st.meets l none n live := by
  unfold Ev.obtain
  dsimp only
  split
  · split
    · exact h.calm (e.modPlay_calm c (by intro; rfl))
    · exact h
  · split
    · exact Ev.takeStream_meets h hl
    · exact h

theorem Ev.outputSample_meets (h : e.st.meets l none n live) (hl : l.watches c → live) (ctx : StepContext) :
    (e.outputSample c ctx).st.meets l none n live := by
  have hobtained := Ev.obtain_meets h hl ctx
  unfold Ev.outputSample
  generalize e.obtain c ctx = r at hobtained ⊢
  obtain ⟨e1, obtained⟩ := r
  refine State.meets.calm ?_ (Ev.modPlay_calm _ c (by intro; rfl))
  refine State.meets.calm ?_ (Ev.mod_calm (g := fun s => s.showSample c (s.chans[c.val]'c.isLt).play.heldRaw) _
    (State.showSample_calm _ c _))
  exact hobtained.calm (e1.countStarvation_calm c ctx obtained)

theorem Ev.playOn_within (h : e.st.meets l none n live) (hl : l.watches c → live) (hn : l.watches c → 2 ≤ n) (ctx : StepContext)
    (cut : Bool) : (if ctx.wEff ≤ (e.chan c).play.offset then e.endPass c ctx
      else if cut then e.boundary c ctx else e).st.within l := by
  split
  · exact Ev.endPass_within h hl hn ctx
  · split
    · exact Ev.boundary_within h hl hn ctx
    · exact h.toWithin

theorem Ev.runExpiry_within (h : e.st.meets l none n live) (hl : l.watches c → live) (hn : l.watches c → 2 ≤ n) (ctx : StepContext) :
    (e.runExpiry c ctx).st.within l := by
  have hstarted : (if (e.chan c).play.stepExpiries = 0 then e.startStep c ctx
      else if (e.chan c).play.offset = 0 ∧ (e.chan c).play.holdCount = 0 then e.mod (·.passStartMarkers c) else e).st.meets l none n live := by
    split
    · exact h.calm (e.startStep_calm c ctx)
    · split
      · exact h.calm (Ev.mod_calm (g := (·.passStartMarkers c)) _ (State.modLevel_calm _ c _))
      · exact h
  have hplayed := State.meets.calm (Ev.outputSample_meets hstarted hl ctx)
    (Ev.modPlay_calm _ c (f := (·.advance ctx)) fun p => p.advance_state ctx)
  exact Ev.playOn_within hplayed hl hn ctx _

/-! ### Waits (R72 to R77) -/

theorem Ev.takeEntry_meets (h : e.st.meets l none n live) (hl : l.watches c → live) (ctx : StepContext) :
    (e.takeEntry c ctx).st.meets l none n live := by
  have hplay := State.meets.calm (Ev.setState_meets (w := .none) h hl (st := .running) rfl)
    (Ev.modPlay_calm _ c (f := fun p => { p with waitCount := 0 }) fun _ => rfl)
  exact (hplay.calm (Ev.becomePlaying_calm _ c)).resumeReader hl ctx

theorem State.purge_emptied (s : State) (c : Chan) (keepMap : Bool) :
    ((s.purge c keepMap).chan c).fetch = (s.chan c).fetch.purged keepMap := by
  rw [State.purge_eq, State.chan_modChan_same]
  rfl

theorem Ev.timeOut_within (h : e.st.meets l none n live) (hl : l.watches c → live) (hn : l.watches c → 2 ≤ n) (ctx : StepContext) :
    (e.timeOut c ctx).st.within l := by
  obtain ⟨e2, he2⟩ : ∃ e2, e2 = ((e.retireStep c ctx).addChanRecord c .waitTimeout ctx.slot ctx.body.branchTarget 0).raiseCond c .timeout :=
    ⟨_, rfl⟩
  have hretired : e2.st.meets l none n live := by
    rw [he2]
    exact (Ev.retireStep_meets h hl ctx).calm (State.raiseCond_calm _ c .timeout)
  obtain ⟨k, hpurged⟩ := (hretired.calm (State.quietMarkers_calm _ c)).purge true hn
  have hfetch := State.purge_emptied (e2.st.quietMarkers c) c true
  have hcursor := hpurged.note (c := c) (g := fun f => { f with cursor := ctx.body.branchTarget }) fun _ => rfl
  have hread := hcursor.readSlot (c := c) (Or.inl rfl) hl
    (fun _ => by rw [State.chan_modFetch, hfetch]; exact Nat.zero_le _)
    (fun hw => hcursor.noReads hw (by rw [Fetch.readerFor_none, State.chan_modFetch, hfetch]; rfl)) false
  unfold Ev.timeOut
  dsimp only
  rw [← he2]
  split
  · exact Ev.stopChannel_within (State.meets.toWithin (by exact hread)) (fun hw => hread.counts hw (hl hw)) _ _
  · exact (Ev.beginData_meets (by exact hread) hl false).toWithin

theorem Ev.waitExpiry_within (h : e.st.meets l none n live) (hl : l.watches c → live) (hn : l.watches c → 2 ≤ n) (ctx : StepContext) :
    (e.waitExpiry c ctx).st.within l := by
  have hshown := State.meets.calm (h.calm (State.showWait_calm _ c ctx.body.waitIdle))
    (State.modPlay_calm _ c (f := fun p => { p with waitCount := wrap32 (p.waitCount + 1) }) fun _ => rfl)
  unfold Ev.waitExpiry
  dsimp only
  split
  · exact Ev.timeOut_within (by exact hshown) hl hn ctx
  · split <;> exact hshown.toWithin

theorem Ev.leaveStay_within (h : e.st.meets l none n live) (hl : l.watches c → live) (hn : l.watches c → 2 ≤ n) (ctx : StepContext) :
    (e.leaveStay c ctx).st.within l := by
  have hended := h.calm (e.endStay_calm c ctx)
  have hrun : ((((e.endStay c ctx).setState c .running .none).becomePlaying c).runExpiry c ctx).st.within l :=
    Ev.runExpiry_within (State.meets.calm (Ev.setState_meets hended hl rfl) (Ev.becomePlaying_calm _ c)) hl hn ctx
  unfold Ev.leaveStay
  dsimp only
  split
  · exact Ev.waitExpiry_within (Ev.beginWait_meets hended hl _) hl hn ctx
  · split
    · exact Ev.stopChannel_within hended.toWithin (fun hw => hended.counts hw (hl hw)) _ _
    · exact Ev.waitExpiry_within (Ev.beginWait_meets hended hl _) hl hn ctx
  · exact hrun
  · exact hrun

theorem Channel.head_ne_none {ch : Channel} (h : ch.headStep = some ctx) : ch.head ≠ none := by
  rw [Channel.head_of_headStep h]
  exact nofun

theorem Ev.lookExpiry_within (h : e.st.meets l none n live) (hl : l.watches c → live) : (e.lookExpiry c).st.within l := by
  have hc : l.watches c → (e.st.chan c).play.state.counts = true := fun hw => h.counts hw (hl hw)
  unfold Ev.lookExpiry
  split
  · exact (h.calm (e.stay_calm c)).toWithin
  · exact Ev.faultChannel_within h.toWithin hc _
  · rename_i ctx hhead
    split
    · exact Ev.leaveStay_within h hl (h.two hc (by rw [show (e.st.chan c).head = _ from hhead]; exact nofun)) ctx
    · exact (h.calm (e.stay_calm c)).toWithin

theorem Ev.channelExpiry_within (h : e.st.within l) (c : Chan) : (e.channelExpiry c).st.within l := by
  obtain ⟨n, h⟩ := h
  unfold Ev.channelExpiry
  dsimp only
  refine State.within.calm ?_ (Ev.modLevel_calm _ c _)
  have hidle : (e.mod (·.showIdle c)).st.within l := (h.calm (State.showIdle_calm _ c)).toWithin
  have hgo : ∀ st, st.counts = true → (e.chan c).play.state = st → e.st.meets l none n (l.watches c) :=
    fun st hst hstate => h.go fun _ => (congrArg ChannelState.counts hstate).trans hst
  have htwo : ∀ st ctx, st.counts = true → (e.chan c).play.state = st → (e.chan c).headStep = some ctx → l.watches c → 2 ≤ n :=
    fun st ctx hst hstate hstep => h.two (fun _ => (congrArg ChannelState.counts hstate).trans hst) (Channel.head_ne_none hstep)
  split
  case h_1 hstate hstep => exact Ev.runExpiry_within (hgo _ rfl hstate) id (htwo _ _ rfl hstate hstep) _
  case h_2 => exact h.toWithin
  case h_3 hstate _ => exact Ev.lookExpiry_within (hgo _ rfl hstate) id
  case h_4 hstate hstep _ => exact Ev.waitExpiry_within (hgo _ rfl hstate) id (htwo _ _ rfl hstate hstep) _
  case h_5 => exact h.toWithin
  case h_6 hstate => exact Ev.lookExpiry_within (hgo _ rfl hstate) id
  case h_7 => exact hidle
  case h_8 =>
    split
    · exact hidle
    · exact h.toWithin
  case h_9 =>
    split
    · exact hidle
    · exact h.toWithin
  case h_10 => exact h.toWithin

end Playing

end Sys2Proof.Machine

namespace Sys2Proof.Machine

/-! ## Launches, deliveries and expiries keep the watched channel in order (chapters 4 and 6) -/

section Events

variable {l : Ledger} {s : State} {e : Ev} {n : Nat} {live : Prop} {c d : Chan} {ctx : StepContext}

/-- A channel with a step in its window plays (R22). -/
theorem State.meets.counts_of_head (h : s.meets l none n live) (hhead : (s.chan c).headStep = some ctx) (hw : l.watches c) :
    (s.chan c).play.state.counts = true := by
  refine (h.chan c hw).counts_of_window fun hno => Channel.head_ne_none hhead ?_
  rw [Channel.head, hno]
  rfl

theorem Ev.finish_within (h : e.st.within l) : e.finish.within l := h.calm e.finish_calm

theorem State.event_within {f : Ev → Ev} (hf : (f (Ev.of s false)).st.within l) : (s.event f).within l := Ev.finish_within hf

theorem State.foldl_within {α : Type} {xs : List α} {f : State → α → State} (h : s.within l)
    (hf : ∀ (s : State) (x : α), s.within l → (f s x).within l) : (xs.foldl f s).within l :=
  List.foldlRecOn (motive := fun s : State => s.within l) xs f h fun s hs x _ => hf s x hs

/-! ### Launches and leader step starts (R73, R78, R91, R92) -/

theorem Ev.launchMember_within (h : e.st.within l) (c : Chan) : (e.launchMember c).st.within l := by
  obtain ⟨n, h⟩ := h
  unfold Ev.launchMember
  split
  · rename_i ctx hhead
    have hc : l.watches c → (e.st.chan c).play.state.counts = true := fun hw => h.counts_of_head hhead hw
    have hcleared := h.stays (Ev.mod_calm (g := (·.clearLatches c)) e (State.modLevel_calm _ c _)) hc
    have hplaying := State.meets.calm (Ev.setState_meets (w := .none) hcleared id (st := .running) rfl) (Ev.becomePlaying_calm _ c)
    have hrun := Ev.runExpiry_within (e := Ev.mod _ (·.resumeReader c ctx)) (hplaying.resumeReader id ctx) id
      (h.two hc (Channel.head_ne_none hhead)) ctx
    exact hrun.calm (Ev.modLevel_calm _ c _)
  · exact h.toWithin

theorem Ev.launchGroup_within (h : e.st.within l) (leader : Chan) : (e.launchGroup leader).st.within l := by
  unfold Ev.launchGroup
  split
  · exact h
  · refine Ev.forEach_within (State.within.calm h ?_) fun e c h => Ev.launchMember_within h c
    exact Ev.forEach_calm _ fun e d => e.modPlay_calm d (by intro; rfl)

theorem Ev.offerLeaderStart_within (h : e.st.within l) (leader : Chan) (counted : BitVec 8) :
    (e.offerLeaderStart leader counted).st.within l := by
  refine Ev.forEach_within h fun e f h => ?_
  dsimp only
  split
  · split
    · rename_i hwait
      split
      · obtain ⟨n, h⟩ := h
        have hc : l.watches f → (e.st.chan f).play.state.counts = true := fun _ => congrArg ChannelState.counts hwait.1
        exact (Ev.takeEntry_meets (h.go hc) id _).toWithin
      · exact h
    · split
      · exact h.calm (e.modPlay_calm f (by intro; rfl))
      · exact h
  · exact h

/-! ### Stop orders (R83) -/

theorem Ev.stopReaches_within (h : e.st.within l) (mode : StopMode) (c : Chan) : (e.stopReaches mode c).st.within l := by
  have hpend : (e.modPlay c fun p => { p with pendingStop := p.pendingStop.join mode }).st.within l :=
    h.calm (e.modPlay_calm c (by intro; rfl))
  have hstop : ∀ st reason, st.counts = true → (e.chan c).play.state = st → (e.stopChannel c reason false).st.within l :=
    fun st reason hst hstate => Ev.stopChannel_within h (fun _ => (congrArg ChannelState.counts hstate).trans hst) reason false
  unfold Ev.stopReaches
  dsimp only
  split
  case h_1 => exact h
  case h_2 => exact h
  case h_3 => exact h
  case h_4 hstate => exact hstop _ _ rfl hstate
  case h_5 hstate => exact hstop _ _ rfl hstate
  case h_6 => exact hpend
  case h_7 hstate _ => exact hstop _ _ rfl hstate
  case h_8 => exact hpend
  case h_9 hstate _ _ => exact hstop _ _ rfl hstate
  case h_10 hstate => exact hstop _ _ rfl hstate

/-! ### Trigger events (R124, R128, R129) -/

theorem Ev.offerTrigger_within (h : e.st.within l) (k : LineIx) (c : Chan) : (e.offerTrigger k c).st.within l := by
  unfold Ev.offerTrigger
  dsimp only
  split
  case h_1 hstate _ _ =>
    split
    · obtain ⟨n, h⟩ := h
      have hc : l.watches c → (e.st.chan c).play.state.counts = true := fun _ => congrArg ChannelState.counts hstate
      exact (Ev.takeEntry_meets (h.go hc) id _).toWithin
    · exact h
  case h_2 =>
    split
    · exact h.calm (e.modPlay_calm c (by intro; rfl))
    · exact h
  case h_3 =>
    split
    · exact h.calm (e.groupTrigger_calm _ k)
    · exact h
  case h_4 => exact h

theorem State.deliver_within (h : s.within l) (k : LineIx) : (s.deliver k).within l :=
  State.event_within (Ev.forEach_within (State.within.calm h (Ev.capture_calm (Ev.of s false) k)) fun _ c h =>
    Ev.offerTrigger_within h k c)

theorem State.edge_within (h : s.within l) (k : LineIx) : (s.edge k).within l := by
  unfold State.edge
  dsimp only
  split
  · exact State.foldl_within (h.calm (s.modLine_calm k _)) fun s c h => h.calm (s.raiseCond_calm c _)
  · split
    · exact State.deliver_within (h.calm (s.modLine_calm k _)) k
    · exact State.within.calm h (State.calm.trans (s.modLine_calm k fun l => { l with edgeTime := s.trig.refTime, delayApplied := l.delay })
        (State.modLine_calm _ k _))

theorem State.acceptLevel_within (h : s.within l) (k : LineIx) : (s.acceptLevel k).within l := by
  have hset := h.calm (s.modLine_calm k fun l => { l with stable := !(s.trig.lines[k.val]'k.isLt).stable, agreement := 0 })
  unfold State.acceptLevel
  dsimp only
  split
  · exact State.edge_within (by exact hset) k
  · exact hset

theorem State.delayEnds_within (h : s.within l) (k : LineIx) : (s.delayEnds k).within l :=
  State.deliver_within (h.calm (s.modLine_calm k _)) k

theorem State.sampleLine_within (h : s.within l) (pin : Bool) (k : LineIx) : (s.sampleLine pin k).within l := by
  have hcount : (s.countDelay k).within l := by
    have hless := h.calm (s.modLine_calm k fun l => { l with delayCount := l.delayCount - 1 })
    unfold State.countDelay
    dsimp only
    split
    · split
      · exact State.delayEnds_within (by exact hless) k
      · exact hless
    · exact h
  unfold State.sampleLine
  dsimp only
  split
  · exact hcount.calm (State.modLine_calm _ k _)
  · unfold State.qualify
    dsimp only
    split
    · exact hcount.calm (State.modLine_calm _ k _)
    · split
      · exact State.acceptLevel_within (hcount.calm (State.modLine_calm _ k _)) k
      · exact hcount.calm (State.modLine_calm _ k _)

theorem State.sample_within (h : s.within l) (levels : BitVec 4) : (s.sample levels).within l := by
  unfold State.sample
  split
  · have hset : State.within l { s with
        trig := { s.trig with refTime := wrap48 (s.trig.refTime + 1) }, refPhase := 0, pins := levels } :=
      h.calm (State.calm_of_eq rfl rfl rfl rfl)
    have hlines := State.foldl_within (xs := allLines) (f := fun s k => s.sampleLine (levels.getLsbD k.val) k) hset
      fun s k h => State.sampleLine_within h _ k
    exact hlines.calm (State.calm_of_eq rfl rfl rfl rfl)
  · exact h

/-! ### Expiries (R66, R115) -/

theorem State.countExpiry_within (h : s.within l) (c : Chan) : (s.countExpiry c).within l := by
  unfold State.countExpiry
  split
  · have hcounted := h.calm (s.modPlay_calm c (f := fun p => { p with sampleCount := wrap48 (p.sampleCount + 1) }) fun _ => rfl)
    unfold State.pollExpiry
    split
    · obtain ⟨n, hcounted⟩ := hcounted
      have hpolled := hcounted.note (c := c) (g := fun f => { f with poll := f.poll + 1 }) fun _ => rfl
      dsimp only
      split
      · rename_i hreader _
        have hread := hpolled.reread (c := c) (by rw [State.chan_modFetch]; exact hreader.1)
        obtain ⟨_, hread⟩ := hread
        exact hread.toWithin
      · exact hpolled.toWithin
    · exact hcounted
  · exact h

theorem ExpiryRun.event_within {r : ExpiryRun} {f : Ev → Ev} (hf : (f (Ev.of r.st true)).st.within l) : (r.event f).st.within l :=
  Ev.finish_within hf

theorem State.expireChannels_within (h : s.within l) (g : GenIx) : (s.expireChannels g).within l := by
  have hcounted : ((s.attached g).foldl State.countExpiry s).within l := State.foldl_within h fun s c h => State.countExpiry_within h c
  have hrun : ∀ (xs : List Chan) (f : Ev → Chan → Ev) (r : ExpiryRun), (∀ (e : Ev) (c : Chan), e.st.within l → (f e c).st.within l) →
      r.st.within l → (xs.foldl (fun r c => r.event fun e => f e c) r).st.within l := fun xs f r hf hr =>
    List.foldlRecOn (motive := fun r : ExpiryRun => r.st.within l) xs _ hr fun r hr c _ => ExpiryRun.event_within (hf _ c hr)
  unfold State.expireChannels
  refine State.foldl_within (State.foldl_within ?_ fun s d h => State.event_within (Ev.offerLeaderStart_within h d _)) fun s d h =>
    State.event_within (Ev.loseLeader_within h d _ _)
  exact hrun _ Ev.channelExpiry _ (fun e c h => Ev.channelExpiry_within h c)
    (hrun _ Ev.launchGroup _ (fun e c h => Ev.launchGroup_within h c) hcounted)

theorem State.expire_within (h : s.within l) (g : GenIx) : (s.expire g).within l := by
  unfold State.expire
  split
  · exact State.expireChannels_within (h.calm (s.modGen_calm g _)) g
  · exact h

theorem State.takeTick_within (h : s.within l) (t : TickEvent) : (s.takeTick t).within l := by
  cases t with
  | expiry g => exact State.expire_within h g
  | sample => exact State.sample_within h _

theorem State.takeTicks_within (m : Nat) (due : List TickEvent) (h : s.within l) : (State.takeTicks m due s).within l := by
  induction m generalizing due s with
  | zero => exact h
  | succ m ih =>
    match due with
    | [] => exact h
    | [t] => exact State.takeTick_within h t
    | t :: u :: rest =>
      have hchosen : State.within l { s with freeCount := s.freeCount + 1 } := h.calm (State.calm_of_eq rfl rfl rfl rfl)
      exact ih _ (State.takeTick_within hchosen _)

/-- A reference period passes (R115, R120). -/
theorem State.tick_within (h : s.within l) : s.tick.within l := by
  unfold State.tick
  exact State.takeTicks_within _ _ (h.calm (State.calm_of_eq rfl rfl rfl rfl))

end Events

end Sys2Proof.Machine

namespace Sys2Proof.Machine

/-! ## The ledger of a state -/

/-- A CONFIGURE is in execution (R137). -/
def State.configuring (s : State) : Prop := ∃ h ∈ s.orders.inHand, s.orders.state = .executing ∧ h.order = .configure

/-- The purges that the one order the unit can take may bring to a channel: an arming's and a stop's (R132). -/
def State.orderAhead (s : State) : Nat :=
  if s.online = true ∧ (s.orders.state = .standby ∨ s.orders.state = .reading) then 2 else 0

/-- The ledger of a state: no channel plays while a CONFIGURE is in execution (R137). -/
def State.ledger (s : State) (ph : PortPhase) (w : Option Chan) (slack : Nat) : Ledger :=
  ⟨ph, s.engine, s.orders, w, slack, ¬s.configuring⟩

/-- The state is in order by its own ledger. -/
def State.inOrder (ph : PortPhase) (w : Option Chan) (slack : Nat) (s : State) : Prop := s.within (s.ledger ph w slack)

section Ledgers

variable {l l' : Ledger} {s t : State} {e : Ev} {hand : Option Chan} {n : Nat} {live : Prop} {c d : Chan} {ph : PortPhase}
  {w : Option Chan} {a a' : Nat} {order : Order} {edition : BitVec 32}

theorem State.orderAhead_le (s : State) : s.orderAhead ≤ 2 := by
  unfold State.orderAhead
  split <;> omega

theorem State.orderAhead_congr (he : t.engine.state = s.engine.state) (ho : t.orders.state = s.orders.state) :
    t.orderAhead = s.orderAhead := by
  have honline : t.online = s.online := by rw [State.online, State.online, he]
  rw [State.orderAhead, State.orderAhead, honline, ho]

/-- A channel in order under one ledger is so under another that has its capacity, or while it does not play. -/
theorem Channel.inOrder.relabel {ch : Channel} {p : Port} (h : ch.inOrder l hand n live c p)
    (hcap : l'.engine.config = l.engine.config ∨ ch.play.state.counts = false) (hs : l'.slack ≤ l.slack)
    (hp : ch.play.state.counts = true → l'.playing) : ch.inOrder l' hand n live c p := by
  refine ⟨h.fetch, ?_, h.port.mono le_rfl le_rfl (Nat.add_le_add_left hs n), h.ahead, h.silent, hp, h.live⟩
  rcases hcap with hcap | hcap
  · have hsame : l'.capacity c = l.capacity c := by
      unfold Ledger.capacity
      rw [hcap]
    rw [hsame]
    exact h.fill
  · obtain ⟨⟨-, -, -, -, hqueue, hreserve⟩, -⟩ := h.silent hcap
    rw [hqueue, hreserve]
    exact Nat.zero_le _

/-- The state under another ledger: Engine Control or the Order Unit has changed, or a purge that an order could bring is spent. -/
theorem State.within.relabel (h : s.within l) (hchans : t.chans = s.chans) (hport : t.port = s.port) (hph : l'.phase = l.phase)
    (hw : l'.watched = l.watched) (he : t.engine = l'.engine) (ho : t.orders = l'.orders) (hs : l'.slack ≤ l.slack)
    (hcap : ∀ c, l.watches c → t.engine.config = s.engine.config ∨ (s.chan c).play.state.counts = false)
    (hp : ∀ c, l.watches c → (s.chan c).play.state.counts = true → l'.playing) : t.within l' := by
  obtain ⟨n, h⟩ := h
  refine ⟨n, by rw [hport, hph]; exact h.phase, he, ho, fun c hc => ?_⟩
  have hc : l.watches c := (hw.symm.trans hc : l.watched = some c)
  have hchan : t.chan c = s.chan c := by rw [State.chan, State.chan, hchans]
  rw [hchan, hport]
  refine (h.chan c hc).relabel ((hcap c hc).imp_left fun hcap => ?_) hs (hp c hc)
  rw [← he, hcap, h.engine]

theorem State.within.lessSlack (h : s.within l) (ha : a ≤ l.slack) : s.within { l with slack := a } := by
  obtain ⟨n, h⟩ := h
  exact ⟨n, h.phase, h.engine, h.orders, fun c hc => (h.chan c hc).relabel (Or.inl rfl) ha (h.chan c hc).playing⟩

theorem State.within.engine (h : s.within l) : s.engine = l.engine := h.elim fun _ h => State.meets.engine h

theorem State.within.orders (h : s.within l) : s.orders = l.orders := h.elim fun _ h => State.meets.orders h

theorem State.configuring_congr (h : t.orders = s.orders) : t.configuring ↔ s.configuring := by simp only [State.configuring, h]

/-- What stays within the ledger of a state is in order. -/
theorem State.within.inOrder (h : t.within (s.ledger ph w a)) : t.inOrder ph w a := by
  have hledger : t.ledger ph w a = s.ledger ph w a := by
    unfold State.ledger
    rw [h.engine, h.orders, propext (State.configuring_congr h.orders)]
    rfl
  rw [State.inOrder, hledger]
  exact h

theorem State.inOrder.calm (h : s.inOrder ph w a) (g : s.calm t) : t.inOrder ph w a := (State.within.calm h g).inOrder

theorem State.inOrder.less (h : s.inOrder ph w a) (ha : a' ≤ a) : s.inOrder ph w a' :=
  State.within.relabel h rfl rfl rfl rfl rfl rfl ha (fun _ _ => Or.inl rfl) fun _ hc => (h.elim fun _ h => (h.chan _ hc).playing)

/-- The state is in order by its own ledger once no channel plays that may not. -/
theorem State.within.settle (h : s.within l) (hp : ∀ c, l.watches c → (s.chan c).play.state.counts = true → ¬s.configuring) :
    s.inOrder l.phase l.watched l.slack :=
  h.relabel rfl rfl rfl rfl rfl rfl le_rfl (fun _ _ => Or.inl rfl) hp

theorem State.not_configuring (h : s.orders.state ≠ .executing) : ¬s.configuring := fun ⟨_, _, hs, _⟩ => h hs

/-- The Order Unit changes, and no CONFIGURE is in execution then. -/
theorem State.within.modOrders {f : OrderUnit → OrderUnit} (h : s.within l) (hf : ¬(s.modOrders f).configuring) :
    (s.modOrders f).inOrder l.phase l.watched l.slack :=
  h.relabel rfl rfl rfl rfl rfl rfl le_rfl (fun _ _ => Or.inl rfl) fun _ _ _ => hf

theorem State.inOrder.modEngine {f : EngineControl → EngineControl} (h : s.inOrder ph w a)
    (hf : (f s.engine).config = s.engine.config) : (s.modEngine f).inOrder ph w a :=
  State.within.relabel h rfl rfl rfl rfl rfl rfl le_rfl (fun _ _ => Or.inl hf) fun _ hc => (h.elim fun _ h => (h.chan _ hc).playing)

/-! ### The Order Unit (R132 to R136) -/

/-- The order has been taken: the unit executes or closes it, and it brings no more purges. -/
def State.orderTaken (ph : PortPhase) (w : Option Chan) (s : State) : Prop :=
  s.inOrder ph w 0 ∧ (s.orders.state = .executing ∨ s.orders.state = .closing)

theorem State.within.closeOrder (h : s.within l) (r : OrderResult) : (s.closeOrder r).orderTaken l.phase l.watched := by
  have hclosing := (h.modOrders (f := fun o => { o with state := .closing, result := some r })
    (State.not_configuring (by exact fun h => by cases h))).less (Nat.zero_le _)
  have hraise := State.raise_calm (s.modOrders fun o => { o with state := .closing, result := some r })
    (r := ⟨.orderResult, s.orderAddr 8, (resultWordBytes r).length, resultWordBytes r⟩) rfl
  exact ⟨hclosing.calm hraise, Or.inr (congrArg OrderUnit.state hraise.orders)⟩

theorem State.readOrderSlot_inOrder (h : s.within l) : s.readOrderSlot.inOrder l.phase l.watched l.slack :=
  (h.modOrders (f := fun o => { o with state := .reading, recheck := false })
    (State.not_configuring (by exact fun h => by cases h))).calm (State.raise_calm _ rfl)

theorem State.nudgeOrders_inOrder (h : s.inOrder ph w a) : s.nudgeOrders.inOrder ph w a := by
  unfold State.nudgeOrders
  split
  · exact State.readOrderSlot_inOrder h
  · exact State.within.relabel h rfl rfl rfl rfl rfl rfl le_rfl (fun _ _ => Or.inl rfl)
      fun _ hc => (h.elim fun _ h => (h.chan _ hc).playing)

/-- The ledger with an order in hand: until it is carried out every channel may play. -/
def Ledger.holding (l : Ledger) (o : OrderUnit) : Ledger := { l with orders := o, playing := True }

theorem State.within.holdOrder (h : s.within l) (order : Order) (edition : BitVec 32) :
    (s.holdOrder order edition).within (l.holding (s.holdOrder order edition).orders) :=
  h.relabel rfl rfl rfl rfl h.engine rfl le_rfl (fun _ _ => Or.inl rfl) fun _ _ _ => trivial

/-- A channel that a START may take does not play (R140). -/
theorem State.atRest_of_memberRefusal {generators : Vector Byte 8} {first : Byte} (h : s.memberRefusal generators first c = none) :
    (s.chan c).play.state.counts = false := by
  by_contra hc
  have hbusy : s.busyChannel c = true := by simpa [State.busyChannel, State.chan] using hc
  unfold State.memberRefusal at h
  split at h
  · cases h
  · simp at h

/-! #### START (R139 to R142) -/

theorem State.meets.lessSlack (h : s.meets l hand n live) (ha : a ≤ l.slack) : s.meets { l with slack := a } hand n live :=
  ⟨h.phase, h.engine, h.orders, fun c hc => (h.chan c hc).relabel (Or.inl rfl) ha (h.chan c hc).playing⟩

theorem State.meets.startFetch_other (h : s.meets l none n live) (hc : ¬l.watches c) (slot : Nat) :
    (s.startFetch c slot).meets l none n live := by
  have hfetch := h.modChan_keep (c := c) (f := fun ch => { ch with fetch :=
    { ch.fetch with map := [], epoch := ch.fetch.epoch + 1, cursor := slot } }) fun hw => (hc hw).elim
  exact hfetch.readSlot (Or.inl rfl) (fun hw => (hc hw).elim) (fun hw => (hc hw).elim) (fun hw => (hc hw).elim) false

/-- The playout of a channel as a START arms it (R141, R142). -/
def Play.arming (p : Play) (m : Membership) (slot : Nat) : Play :=
  { p with
    state := .armed
    wait := .none
    sampleCount := 0
    group := some m
    faultCause := .none
    generator := m.generator
    startSlot := slot
    lastRetired := none }

theorem State.modPlay_modPlay (s : State) (c : Chan) (f g : Play → Play) :
    (s.modPlay c f).modPlay c g = s.modPlay c fun p => g (f p) := by
  simp [State.modPlay, State.modChan]

theorem Ev.armMember_st (e : Ev) (c : Chan) (m : Membership) (slots : Vector (BitVec 16) 8) : (e.armMember m slots c).st =
    ((e.st.modPlay c (·.arming m (slots[c.val]'c.isLt).toNat)).showIdle c).startFetch c (slots[c.val]'c.isLt).toNat := by
  unfold Ev.armMember
  dsimp only [Ev.mod, Ev.modPlay]
  rw [Ev.setState_st, State.modPlay_modPlay]
  rfl

theorem Ev.armMember_other (h : e.st.within l) (hc : ¬l.watches c) (m : Membership) (slots : Vector (BitVec 16) 8) :
    (e.armMember m slots c).st.within l := by
  obtain ⟨n, h⟩ := h
  have harmed : (e.st.modPlay c (·.arming m (slots[c.val]'c.isLt).toNat)).meets l none n False := h.modChan_keep fun hw => (hc hw).elim
  rw [Ev.armMember_st]
  exact ⟨n, State.meets.startFetch_other (harmed.calm (State.showIdle_calm _ c)) hc _⟩

/-- The watched channel is armed: of the purges an order may bring to it, the arming is spent and its stop is the channel's own. -/
theorem Ev.armMember_self (h : e.st.within l) (hw : l.watches c) (hrest : (e.st.chan c).play.state.counts = false) (hs : 2 ≤ l.slack)
    (hplaying : l.playing) (m : Membership) (slots : Vector (BitVec 16) 8) :
    (e.armMember m slots c).st.within { l with slack := 0 } := by
  obtain ⟨n, h⟩ := h
  have ho := h.chan c hw
  obtain ⟨⟨hreader, hwindow, hheld, hdata, hqueue, hreserve⟩, hclear⟩ := ho.silent hrest
  have hwaiting : ∀ r ∈ e.st.port.waiting, r.kind.chan? ≠ some c := fun r hr hc =>
    hclear r (List.mem_append_right _ hr) hc (ho.port.waiting r hr hc)
  have harmed : (e.st.modPlay c (·.arming m (slots[c.val]'c.isLt).toNat)).meets { l with slack := 1 } none (n + 1) True := by
    refine (h.lessSlack (a := 1) (by omega)).modChan (fun _ _ => ?_) (fun hno => (hno hw).elim) fun _ _ => Iff.rfl
    refine ⟨ho.fetch, ho.fill, ho.port.mono le_rfl le_rfl (by dsimp only; omega), ?_, (fun hno => by cases hno), (fun _ => hplaying),
      fun _ => rfl⟩
    simp only [Channel.purgesAhead, hwindow]
    split <;> simp
  have hshown := harmed.calm (State.showIdle_calm _ c)
  obtain ⟨t, ht⟩ : ∃ t, t = (e.st.modPlay c (·.arming m (slots[c.val]'c.isLt).toNat)).showIdle c := ⟨_, rfl⟩
  have hcalm : (e.st.modPlay c (·.arming m (slots[c.val]'c.isLt).toNat)).calm t := ht ▸ State.showIdle_calm _ c
  have hfetch : (t.chan c).fetch = (e.st.chan c).fetch := by
    rw [hcalm.fetch, State.modPlay, State.chan_modChan_same]
  have hnone : ∀ r ∈ t.port.waiting, r.kind.chan? ≠ some c := fun r hr hc => hwaiting r ((hcalm.port c).waiting r hr hc) hc
  rw [Ev.armMember_st, ← ht]
  rw [← ht] at hshown
  have hstarted : (t.modFetch c fun f => { f with map := [], epoch := f.epoch + 1, cursor := (slots[c.val]'c.isLt).toNat }).meets
      { l with slack := 0 } none (n + 1) True := by
    refine (hshown.lessSlack (a := 0) (Nat.zero_le _)).modChan_keep fun _ hzero => ?_
    have hserves : t.port.serves c (t.chan c).fetch.epoch _ 1 _ (n + 1 + 1) := (hshown.chan c hw).port
    refine ⟨⟨hzero.fetch.window, hzero.fetch.room, Nat.zero_le _, List.nodup_nil, ?_, hzero.fetch.owed, hzero.fetch.settled⟩,
      hzero.fill, (hserves.advance hnone _).mono (Nat.zero_le _) (Nat.zero_le _) le_rfl, hzero.ahead,
      (fun hno => absurd ((hzero.live trivial).symm.trans hno) Bool.noConfusion), hzero.playing, hzero.live⟩
    intro ctx hctx
    dsimp only at hctx
    rw [hfetch, hheld] at hctx
    cases hctx
  refine (hstarted.readSlot (Or.inl rfl) (fun _ => trivial) (fun _ => ?_) (fun hw => hstarted.noReads hw ?_) false).toWithin
  · rw [State.chan_modFetch, hfetch, hwindow]
    exact Nat.zero_le _
  · rw [Fetch.readerFor_none, State.chan_modFetch, hfetch, hreader]
    rfl

/-- The members of an accepted START are armed, none of which plays (R141, R142). -/
theorem Ev.armMembers_within {xs : List Chan} (hxs : xs.Nodup) (h : e.st.within l)
    (hrest : ∀ c ∈ xs, (e.st.chan c).play.state.counts = false) (hs : 2 ≤ l.slack) (hplaying : l.playing) (m : Membership)
    (slots : Vector (BitVec 16) 8) : (e.forEach xs (Ev.armMember m slots)).st.within { l with slack := 0 } := by
  have hothers : ∀ (l : Ledger) (ys : List Chan) (e : Ev), (∀ c ∈ ys, ¬l.watches c) → e.st.within l →
      (e.forEach ys (Ev.armMember m slots)).st.within l := fun l ys e hys he =>
    List.foldlRecOn (motive := fun e : Ev => e.st.within l) ys _ he fun e he c hc => Ev.armMember_other he (hys c hc) m slots
  by_cases hmem : ∃ c ∈ xs, l.watches c
  · obtain ⟨c, hc, hw⟩ := hmem
    obtain ⟨as, bs, rfl⟩ := List.append_of_mem hc
    have hne : ∀ d, d ∈ as ∨ d ∈ bs → ¬l.watches d := fun d hd hd' => by
      obtain rfl := hw.unique hd'
      rcases hd with hd | hd
      · exact (List.nodup_append.1 hxs).2.2 c hd c (List.mem_cons_self ..) rfl
      · exact (List.nodup_cons.1 (List.nodup_append.1 hxs).2.1).1 hd
    have hbefore : e.st.within { l with playing := False } := by
      obtain ⟨n, h⟩ := h
      refine ⟨n, h.phase, h.engine, h.orders, fun d hd => (h.chan d hd).relabel (Or.inl rfl) le_rfl fun hplays => ?_⟩
      obtain rfl : c = d := hw.unique hd
      exact absurd ((hrest c hc).symm.trans hplays) Bool.noConfusion
    have has := hothers { l with playing := False } as e (fun d hd => hne d (Or.inl hd)) hbefore
    have hidle : ((e.forEach as (Ev.armMember m slots)).st.chan c).play.state.counts = false := by
      obtain ⟨n, has⟩ := has
      exact Bool.eq_false_iff.2 fun hplays => (has.chan c hw).playing hplays
    have hplain : (e.forEach as (Ev.armMember m slots)).st.within l := by
      obtain ⟨n, has⟩ := has
      exact ⟨n, has.phase, has.engine, has.orders, fun d hd => (has.chan d hd).relabel (Or.inl rfl) le_rfl fun _ => hplaying⟩
    have hself := Ev.armMember_self hplain hw hidle hs hplaying m slots
    have hall := hothers { l with slack := 0 } bs _ (fun d hd => hne d (Or.inr hd)) hself
    rw [Ev.forEach, List.foldl_append, List.foldl_cons]
    exact hall
  · exact (hothers l xs e (fun c hc hw => hmem ⟨c, hc, hw⟩) h).lessSlack (Nat.zero_le _)

end Ledgers

end Sys2Proof.Machine

namespace Sys2Proof.Machine

/-! ## Orders, halts and GO keep the watched channel in order (chapters 7 and 10) -/

section Taken

variable {l : Ledger} {s t : State} {e : Ev} {n : Nat} {live : Prop} {c d : Chan} {ph : PortPhase} {w : Option Chan} {a : Nat}
  {order : Order} {edition : BitVec 32}

/-! ### The orders (R137 to R152) -/

theorem State.runStart_taken (h : s.within l) (hs : 2 ≤ l.slack) (hp : l.playing) (mask condition : Byte) (generators : Vector Byte 8)
    (slots : Vector (BitVec 16) 8) : (s.runStart mask condition generators slots).orderTaken l.phase l.watched := by
  unfold State.runStart
  split
  · exact h.closeOrder _
  · exact h.closeOrder _
  · split
    · exact h.closeOrder _
    · split
      · exact h.closeOrder _
      · rename_i hrefusal
        have hrest : ∀ c ∈ members mask, (s.chan c).play.state.counts = false := fun c hc =>
          State.atRest_of_memberRefusal (List.findSome?_eq_none_iff.1 hrefusal c hc)
        have harmed := fun m => Ev.armMembers_within (e := Ev.of s false) (members_nodup mask) h hrest hs hp m slots
        have hclosed := fun m => State.within.closeOrder (State.event_within (s := s)
          (f := fun e => e.forEach (members mask) (Ev.armMember m slots)) (harmed m)) .done
        exact hclosed _

theorem State.runStop_taken (h : s.within l) (mask mode : Byte) : (s.runStop mask mode).orderTaken l.phase l.watched := by
  unfold State.runStop
  split
  · exact h.closeOrder _
  · exact (State.event_within (Ev.forEach_within (e := Ev.of s false) h fun e c h => Ev.stopReaches_within h _ c)).closeOrder _

theorem State.runSetRate_taken (h : s.within l) (generator action : Byte) (divisor : BitVec 16) :
    (s.runSetRate generator action divisor).orderTaken l.phase l.watched := by
  unfold State.runSetRate
  split
  · exact h.closeOrder _
  · exact h.closeOrder _
  · exact (h.calm (s.modGen_calm _ _)).closeOrder _

theorem State.setLevels_calm (s : State) (flags : Nat) (gain offset idle : Int) (c : Chan) :
    s.calm (s.setLevels flags gain offset idle c) := by
  unfold State.setLevels
  exact s.modLevel_calm c _

theorem State.runSetLevels_taken (h : s.within l) (mask flags : Byte) (gain offset idle : BitVec 16) :
    (s.runSetLevels mask flags gain offset idle).orderTaken l.phase l.watched :=
  (h.calm (State.foldl_calm _ fun t c => t.setLevels_calm _ _ _ _ c)).closeOrder _

theorem State.runTriggerSetup_taken (h : s.within l) (line mode qualifier capture : Byte) (delay : BitVec 32) :
    (s.runTriggerSetup line mode qualifier capture delay).orderTaken l.phase l.watched := by
  unfold State.runTriggerSetup
  split
  · exact h.closeOrder _
  · exact h.closeOrder _
  · exact (h.calm (s.modLine_calm _ _)).closeOrder _

theorem Ev.leaveMirror_within (h : e.st.within l) (hc : (e.chan c).play.state.counts = false) : (e.leaveMirror c).st.within l :=
  State.within.calm (Ev.setState_within (c := c) (st := .idle) (w := .none) h (fun _ => hc) rfl) (State.endMirror_calm _ c)

theorem Ev.enterMirror_within (h : e.st.within l) (hc : (e.chan c).play.state.counts = false) (source : Chan) (gain offset : Int)
    (copy : Bool) : (e.enterMirror c source gain offset copy).st.within l := by
  have hcleared : e.st.calm (if (e.chan c).play.state = .mirroring then e else e.mod (·.clearOneShots c)).st := by
    split
    · exact e.st.calm_refl
    · exact Ev.mod_calm (g := (·.clearOneShots c)) e (State.modLevel_calm _ c _)
  unfold Ev.enterMirror
  dsimp only
  refine State.within.calm ?_ (Ev.mod_calm (g := (·.setMirror c source gain offset copy)) _ (State.setMirror_calm _ c source gain offset copy))
  refine State.within.calm ?_ (Ev.modPlay_calm _ c (by intro; rfl))
  refine Ev.setState_within (h.calm hcleared) (fun _ => ?_) rfl
  have hstate := congrArg ChannelState.counts (hcleared.state c)
  exact hstate.trans hc

theorem State.runMirrorSetup_taken (h : s.within l) (channel source : Byte) (gain offset : BitVec 16) (copy : Byte) :
    (s.runMirrorSetup channel source gain offset copy).orderTaken l.phase l.watched := by
  unfold State.runMirrorSetup
  split
  · exact h.closeOrder _
  · exact h.closeOrder _
  · split
    · exact h.closeOrder _
    · split
      · rename_i hbusy _
        refine State.within.closeOrder (State.event_within ?_) _
        exact Ev.leaveMirror_within (e := Ev.of s false) h (Bool.eq_false_iff.2 hbusy)
      · exact h.closeOrder _
  · split
    · exact h.closeOrder _
    · split
      · exact h.closeOrder _
      · split
        · exact h.closeOrder _
        · split
          · exact h.closeOrder _
          · rename_i hbusy _ _ _
            refine State.within.closeOrder (State.event_within ?_) _
            exact Ev.enterMirror_within (e := Ev.of s false) h (Bool.eq_false_iff.2 hbusy) _ _ _ _

theorem Ev.clearAccumulated_calm (e : Ev) (c : Chan) : e.st.calm (e.clearAccumulated c).st := by
  rw [Ev.clearAccumulated, Ev.ask_st]
  exact State.modChan_calm (f := fun ch => { ch with accumulated := 0 }) rfl rfl rfl

theorem State.runClearConditions_taken (h : s.within l) (mask flag : Byte) :
    (s.runClearConditions mask flag).orderTaken l.phase l.watched := by
  have hcleared : (s.event fun e => e.forEach (members mask) Ev.clearAccumulated).within l :=
    State.event_within (State.within.calm h (Ev.forEach_calm (e := Ev.of s false) _ Ev.clearAccumulated_calm))
  unfold State.runClearConditions
  dsimp only
  split
  · exact State.within.closeOrder (State.within.calm hcleared ((State.modReport_calm _ _).trans (State.raise_calm _ rfl))) _
  · exact hcleared.closeOrder _

theorem State.runSnapshot_taken (h : s.within l) (hexec : s.orders.state = .executing) (hconf : ¬s.configuring) (address : BitVec 64) :
    (s.runSnapshot address).orderTaken l.phase l.watched := by
  unfold State.runSnapshot
  split
  · exact h.closeOrder _
  · have hraise := State.raise_calm s (r := ⟨.snapshotWrite, address.toNat, (snapshotBytes s).length, snapshotBytes s⟩) rfl
    exact ⟨((h.settle fun _ _ _ => hconf).less (Nat.zero_le _)).calm hraise, Or.inl ((congrArg OrderUnit.state hraise.orders).trans hexec)⟩

/-- A CONFIGURE finds a channel that plays, or reads the Configuration Record with none playing (R137). -/
theorem State.runConfigure_taken (h : s.within l) (hexec : s.orders.state = .executing) :
    s.runConfigure.orderTaken l.phase l.watched := by
  unfold State.runConfigure
  split
  · exact h.closeOrder _
  · rename_i hnone
    have hraise := State.raise_calm s (r := ⟨.configReadOrder, s.pageAddr 0, 256, []⟩) rfl
    refine ⟨((h.settle fun c _ hplays => ?_).less (Nat.zero_le _)).calm hraise,
      Or.inl ((congrArg OrderUnit.state hraise.orders).trans hexec)⟩
    exact (List.find?_eq_none.1 hnone c (mem_allChans c) hplays).elim

/-- An order that is taken is carried out with every channel kept in order (R134). -/
theorem State.takeOrder_taken (h : s.within l) (hs : 2 ≤ l.slack) (order : Order) (edition : BitVec 32) :
    (s.takeOrder order edition).orderTaken l.phase l.watched := by
  have hheld := h.holdOrder order edition
  have hconf : order ≠ .configure → ¬(s.holdOrder order edition).configuring := fun hne ⟨o, ho, _, hc⟩ =>
    hne ((congrArg OrderInHand.order (Option.some.inj ho)).trans hc)
  unfold State.takeOrder State.runOrder
  cases order with
  | configure => exact (State.runConfigure_taken hheld rfl :)
  | start mask condition generators slots => exact (State.runStart_taken hheld hs trivial mask condition generators slots :)
  | stop mask mode => exact (State.runStop_taken hheld mask mode :)
  | setRate generator action divisor => exact (State.runSetRate_taken hheld generator action divisor :)
  | setLevels mask flags gain offset idle => exact (State.runSetLevels_taken hheld mask flags gain offset idle :)
  | triggerSetup line mode qualifier capture delay => exact (State.runTriggerSetup_taken hheld line mode qualifier capture delay :)
  | mirrorSetup channel source gain offset copy => exact (State.runMirrorSetup_taken hheld channel source gain offset copy :)
  | clearConditions mask flag => exact (State.runClearConditions_taken hheld mask flag :)
  | snapshot address => exact (State.runSnapshot_taken hheld rfl (hconf nofun) address :)
  | unknown kind => exact (hheld.closeOrder _ :)

/-! ### Halts (R187, R188) -/

theorem Ev.haltActive_within (h : e.st.within l) (hc : (e.chan c).play.state.counts = true) : (e.haltActive c).st.within l := by
  obtain ⟨n, h⟩ := h
  have hpurged : ((e.mod (·.purge c false)).setState c .idle .none).st.within l :=
    Ev.purgeTo_within h (Or.inl rfl) rfl (h.pos fun _ => hc)
  exact hpurged.calm (Ev.modPlay_calm _ c (f := fun p => { p with pendingStop := .none, lastStop := .halt, episode := 0 }) fun _ => rfl)

theorem Ev.haltChannel_within (h : e.st.within l) (c : Chan) : (e.haltChannel c).st.within l := by
  have hplays : ∀ st, st.counts = true → (e.chan c).play.state = st → (e.haltActive c).st.within l :=
    fun st hst hstate => Ev.haltActive_within h ((congrArg ChannelState.counts hstate).trans hst)
  have hrests : ∀ st, st.counts = false → (e.chan c).play.state = st → (e.setState c .idle .none).st.within l :=
    fun st hst hstate => Ev.setState_within h (fun _ => (congrArg ChannelState.counts hstate).trans hst) rfl
  unfold Ev.haltChannel
  split
  case h_1 hstate => exact hplays _ rfl hstate
  case h_2 hstate => exact hplays _ rfl hstate
  case h_3 hstate => exact hplays _ rfl hstate
  case h_4 hstate => exact hplays _ rfl hstate
  case h_5 hstate => exact hrests _ rfl hstate
  case h_6 hstate => exact hrests _ rfl hstate
  case h_7 => exact h

theorem State.settleChannel_calm (s : State) (c : Chan) : s.calm (s.settleChannel c) := by
  unfold State.settleChannel
  refine State.calm.trans ?_ (State.showIdle_calm _ c)
  refine State.calm.trans ?_ (State.modLevel_calm _ c _)
  exact s.modPlay_calm c (by intro; rfl)

theorem State.haltOrders_inOrder (h : s.inOrder ph w a) : s.haltOrders.inOrder ph w a := by
  unfold State.haltOrders
  split
  · rename_i hclosing
    exact State.within.modOrders h (State.not_configuring (by
      show s.orders.state ≠ _
      rw [hclosing]
      exact nofun))
  · exact State.within.modOrders (State.within.calm h (s.withdraw_calm _)) (State.not_configuring (by exact fun h => by cases h))

theorem State.enterHalted_inOrder (h : s.inOrder ph w a) (cause : HaltCause) (detail : HaltDetail) :
    (s.enterHalted cause detail).inOrder ph w a :=
  (h.modEngine (f := fun e => { e with state := .halted, starting := false, cause, detail }) rfl).calm (State.modReport_calm _ _)

theorem State.enterHalted_online (s : State) (cause : HaltCause) (detail : HaltDetail) : (s.enterHalted cause detail).online = false := rfl

theorem State.haltClocks_calm (s : State) : s.calm s.haltClocks := State.calm_of_eq rfl rfl rfl rfl

/-- A halt purges every channel that plays and leaves the engine off ONLINE (R187). -/
theorem Ev.halt_inOrder (h : e.st.inOrder ph w a) (cause : HaltCause) (detail : HaltDetail) :
    (e.halt cause detail).st.inOrder ph w a ∧ (e.halt cause detail).st.online = false := by
  have hchannels : (((e.mod State.haltOrders).forEach allChans Ev.haltChannel)).st.inOrder ph w a :=
    State.within.inOrder (Ev.forEach_within (State.haltOrders_inOrder h) fun e c h => Ev.haltChannel_within h c)
  have hsettled := hchannels.calm (State.foldl_calm allChans State.settleChannel_calm)
  unfold Ev.halt
  dsimp only [Ev.mod]
  exact ⟨State.enterHalted_inOrder (hsettled.calm (State.haltClocks_calm _)) cause detail, State.enterHalted_online _ _ _⟩

theorem State.haltEngine_inOrder (h : s.inOrder ph w a) (cause : HaltCause) (detail : HaltDetail) :
    (s.haltEngine cause detail).inOrder ph w a ∧ (s.haltEngine cause detail).online = false := by
  obtain ⟨hhalt, hoff⟩ := Ev.halt_inOrder (e := Ev.of s false) h cause detail
  have hfinish := ((Ev.of s false).halt cause detail).finish_calm
  refine ⟨hhalt.calm hfinish, ?_⟩
  rw [State.online] at hoff ⊢
  exact (congrArg (fun g : EngineControl => decide (g.state = .online)) hfinish.engine).trans hoff

theorem State.writeFailed_inOrder (h : s.inOrder ph w a) (r : Requester) : (s.writeFailed r).inOrder ph w a := by
  unfold State.writeFailed
  split
  · exact (State.haltEngine_inOrder h _ _).1
  · exact h

/-! ### Nudges and GO (R183 to R190) -/

theorem State.nudgeRoom_calm (s : State) : s.calm s.nudgeRoom := by
  unfold State.nudgeRoom
  split
  · exact s.raiseTakenRead_calm
  · exact s.calm_refl

theorem State.handNudges_inOrder (h : s.inOrder ph w a) (channels : BitVec 8) (orders room : Bool) :
    (s.handNudges channels orders room).inOrder ph w a := by
  have hchannels : ((members channels).foldl State.nudgeChannel s).inOrder ph w a :=
    State.within.inOrder (State.foldl_within h fun s c h => State.within.nudgeChannel h c)
  have horders : (if orders then ((members channels).foldl State.nudgeChannel s).nudgeOrders
      else (members channels).foldl State.nudgeChannel s).inOrder ph w a := by
    split
    · exact State.nudgeOrders_inOrder hchannels
    · exact hchannels
  unfold State.handNudges
  dsimp only
  split
  · exact horders.calm (State.nudgeRoom_calm _)
  · exact horders

theorem State.goFails_inOrder (h : s.inOrder ph w a) (cause : HaltCause) (detail : HaltDetail) :
    (s.goFails cause detail).inOrder ph w a :=
  State.enterHalted_inOrder (h.modEngine (f := fun e => { e.clearNudges with goBase := none }) rfl) cause detail

/-- A GO that succeeds puts a new configuration in force, with no channel playing (R185). -/
theorem State.goSucceeds_inOrder (h : s.inOrder ph w a) (hrest : ∀ c, w = some c → (s.chan c).play.state.counts = false)
    (r : ConfigRecord) : (s.goSucceeds r).inOrder ph w a := by
  unfold State.goSucceeds
  refine State.handNudges_inOrder (State.inOrder.calm ?_ (State.raise_calm _ rfl)) _ _ _
  exact State.within.relabel h rfl rfl rfl rfl rfl rfl le_rfl (fun c hc => Or.inr (hrest c hc))
    fun c hc hplays => absurd ((hrest c hc).symm.trans hplays) Bool.noConfusion

theorem State.goDone_inOrder (h : s.inOrder ph w a)
    (hrest : s.engine.starting = true → ∀ c, w = some c → (s.chan c).play.state.counts = false) (answer : ReadAnswer) :
    (s.goDone answer).inOrder ph w a := by
  unfold State.goDone
  split
  · rename_i hstarting
    cases answer with
    | error => exact State.goFails_inOrder h _ _
    | data bytes =>
      cases hrefusal : firstRefusal (configRecordOf bytes) with
      | some k =>
        simp only [State.goAnswered, hrefusal]
        exact State.goFails_inOrder h _ _
      | none =>
        simp only [State.goAnswered, hrefusal]
        exact State.goSucceeds_inOrder h (hrest hstarting) _
  · exact h

end Taken

end Sys2Proof.Machine

namespace Sys2Proof.Machine

/-! ## Completions keep the watched channel in order (chapters 2, 3, 7, 9 and 10) -/

/-- The phase of the port while a completion is being handled (R156). -/
def PortPhase.inHand : PortPhase → PortPhase
  | .between => .handling
  | .handling => .handling
  | .unwatched => .unwatched

/-- The state is in order with the purges that an order may still bring allowed for. -/
def State.stands (ph : PortPhase) (w : Option Chan) (s : State) : Prop := s.inOrder ph w s.orderAhead

section Completing

variable {l : Ledger} {s t : State} {e : Ev} {n : Nat} {live : Prop} {c d : Chan} {ph : PortPhase} {w : Option Chan} {a : Nat}
  {r : Request}

theorem State.inOrder.stands (h : s.inOrder ph w 2) : s.stands ph w := h.less s.orderAhead_le

theorem State.orderTaken.stands (h : s.orderTaken ph w) : s.stands ph w := by
  obtain ⟨h, hstate⟩ := h
  have hzero : s.orderAhead = 0 := by
    refine if_neg fun ⟨_, hidle⟩ => ?_
    rcases hstate with hs | hs <;> rw [hs] at hidle <;> simp at hidle
  rw [State.stands, hzero]
  exact h

/-! ### The end of a transfer (R154, R156) -/

theorem State.live_mem (hr : s.live = some r) : s.port.live = [r] ∧ s.port.inFlight = some r := by
  unfold State.live at hr
  split at hr
  · cases hr
  · rename_i hd
    rw [Port.live, if_neg hd, hr]
    exact ⟨rfl, rfl⟩

theorem Port.ended_inPhase {p : Port} (h : p.inPhase ph) (hf : p.inFlight ≠ none) :
    Port.inPhase { p with inFlight := none, discard := false } ph.inHand := by
  cases ph with
  | between =>
    refine ⟨h.1.trans ?_, rfl⟩
    obtain ⟨r, hr⟩ := Option.ne_none_iff_exists'.1 hf
    rw [hr]
    rfl
  | handling => exact ⟨h.1, rfl⟩
  | unwatched => trivial

/-- With no transfer in flight every purge that can come is allowed for (R39). -/
theorem State.portEnd_meets (h : s.inOrder ph w a) (hf : s.port.inFlight ≠ none) :
    s.portEnd.meets (s.ledger ph.inHand w 2) none 2 False := by
  obtain ⟨n, h⟩ := h
  refine ⟨Port.ended_inPhase h.phase hf, rfl, rfl, fun c hc => ?_⟩
  have ho := (h.chan c hc).fewer (s.port.ended_fewer c)
  obtain ⟨hwaiting, -, hreads, hsamples, hreserved, -⟩ := ho.port
  exact ⟨ho.fetch, ho.fill, ⟨hwaiting, (fun r hr => by cases hr), hreads, hsamples, hreserved, le_rfl⟩, Channel.purgesAhead_le _,
    ho.silent, ho.playing, ho.live⟩

theorem State.portDone_stands (h : s.stands ph.inHand w) (hph : ph ≠ .handling) : s.portDone.stands ph w := by
  obtain ⟨n, h⟩ := h
  have hidle : ∀ c, s.port.fewer c { s.port with busy := false } :=
    fun c => ⟨fun _ hr _ => hr, fun _ hr _ => Or.inl hr, fun _ _ => le_rfl⟩
  have hfewer : ∀ c, s.port.fewer c s.portDone.port :=
    fun c => (hidle c).trans (State.arbitrate_fewer { s with port := { s.port with busy := false } } c)
  have hphase : s.portDone.port.inPhase ph := by
    have hphase := h.phase
    cases ph with
    | between => exact State.arbitrate_wf _ (by rw [show s.port.inFlight = none from hphase.2]; rfl)
    | handling => exact (hph rfl).elim
    | unwatched => trivial
  obtain ⟨p, hp⟩ := s.portDone_port
  rw [hp] at hfewer hphase ⊢
  have hsame : State.within (s.ledger ph w s.orderAhead) { s with port := p } :=
    ⟨n, hphase, rfl, rfl, fun c hc => ((h.chan c hc).relabel (l' := s.ledger ph w s.orderAhead) (Or.inl rfl) le_rfl
      (h.chan c hc).playing).fewer (hfewer c)⟩
  exact hsame

/-- A completion keeps the state in order if its handling does. -/
theorem State.completion_stands {f : State → State} (hph : ph ≠ .handling) (hf : (f s.portEnd).stands ph.inHand w) :
    (s.completion f).stands ph w := State.portDone_stands hf hph

theorem State.completeRead_stands (h : s.stands ph w) (hph : ph ≠ .handling) {answer : ReadAnswer}
    {handle : Transfer → Option (State → State)} (hf : ∀ r f, s.live = some r → handle r.kind = some f → answerFits answer r = true →
      (f s.portEnd).stands ph.inHand w) : (s.completeRead answer handle).stands ph w := by
  unfold State.completeRead
  split
  · exact h
  · split
    · exact h
    · split
      · exact State.completion_stands hph (hf _ _ ‹_› ‹_› ‹_›)
      · exact h

theorem State.completeWrite_stands (h : s.stands ph w) (hph : ph ≠ .handling) {handle : Transfer → Option (State → State)}
    (hf : ∀ r f, s.live = some r → handle r.kind = some f → (f s.portEnd).stands ph.inHand w) :
    (s.completeWrite handle).stands ph w := by
  unfold State.completeWrite
  split
  · exact h
  · split
    · exact h
    · exact State.completion_stands hph (hf _ _ ‹_› ‹_›)

theorem State.portEnd_inOrder (h : s.inOrder ph w a) (hr : s.live = some r) : s.portEnd.inOrder ph.inHand w 2 :=
  State.within.inOrder (s := s) ⟨2, State.portEnd_meets h (by rw [(State.live_mem hr).2]; exact nofun)⟩

/-! ### Step Fetch (R27, R36) -/

/-- A step read that has come back is in hand: no other stands, the channel plays and its window has room (R26, R27). -/
theorem State.readEnds (h : s.inOrder ph w a) (hr : s.live = some r) (hk : r.kind.isStepReadOf c (s.chan c).fetch.epoch = true) :
    s.portEnd.meets (s.ledger ph.inHand w 2) (some c) 2 (w = some c)
      ∧ (w = some c → (s.chan c).fetch.window.length ≤ 3) := by
  obtain ⟨hlive, hflight⟩ := State.live_mem hr
  have hended := State.portEnd_meets h (by rw [hflight]; exact nofun)
  obtain ⟨n, h⟩ := h
  have hcount : w = some c → (s.chan c).fetch.reader.reads = 1 ∧ s.portEnd.stepReads c = 0 := fun hc => by
    have hreads := (h.chan c hc).port.reads
    rw [Port.stands, hlive, Fetch.readerFor_none, List.countP_append, List.countP_singleton, if_pos hk] at hreads
    have hle : (s.chan c).fetch.reader.reads ≤ 1 := by
      unfold ReaderState.reads
      split <;> omega
    have hrest : s.portEnd.stepReads c = s.port.waiting.countP fun r => r.kind.isStepReadOf c (s.chan c).fetch.epoch := rfl
    omega
  have hreader : w = some c → (s.chan c).fetch.reader = .slotRead ∨ (s.chan c).fetch.reader = .entryRead := fun hc => by
    by_contra hno
    have := (hcount hc).1
    rw [ReaderState.reads, if_neg hno] at this
    cases this
  have hplays : w = some c → (s.portEnd.chan c).play.state.counts = true := fun hc =>
    (h.chan c hc).counts_of_reader (by rcases hreader hc with hr | hr <;> rw [hr] <;> exact nofun)
  refine ⟨(hended.go hplays).inHand fun hc => (hcount hc).2, fun hc => (h.chan c hc).fetch.room ?_⟩
  rw [Fetch.readerFor_none]
  exact (hreader hc).elim Or.inl fun hr => Or.inr (Or.inl hr)

/-- A read in hand is laid down with nothing come of it. -/
theorem State.meets.layDown (h : s.meets l (some c) n live) (hw : l.watches c → (s.chan c).fetch.window.length ≤ 3) :
    s.meets l none n live := by
  refine ⟨h.phase, h.engine, h.orders, fun d hd => ?_⟩
  by_cases hcd : c = d
  · subst hcd
    have ho := h.chan c hd
    have hnone := h.noReads hd (by rw [Fetch.readerFor_hand]; rfl)
    obtain ⟨hwaiting, hlive, -, hsamples, hreserved, hfew⟩ := ho.port
    exact ⟨⟨ho.fetch.window, fun _ => hw hd, ho.fetch.loops, ho.fetch.keys, ho.fetch.held, ho.fetch.owed, ho.fetch.settled⟩, ho.fill,
      ⟨hwaiting, hlive, hnone.le.trans (Nat.zero_le _), hsamples, hreserved, hfew⟩, ho.ahead, ho.silent, ho.playing, ho.live⟩
  · exact (h.chan d hd).rehand (by simp [hcd]) id

theorem State.placeMarker_meets (h : s.meets l (some c) n live) (hl : l.watches c → live) (hn : l.watches c → 2 ≤ n)
    (hw : l.watches c → (s.chan c).fetch.window.length ≤ 3) (slot : Nat) (sub : SubCode) :
    (s.placeMarker c slot sub).meets l none n live := by
  unfold State.placeMarker State.modFetch
  refine h.modChan (fun hc ho => ?_) (fun _ => ⟨rfl, id⟩) fun _ => hand_other (Or.inr rfl)
  have hnone := h.noReads hc (by rw [Fetch.readerFor_hand]; rfl)
  refine ho.withFetch (ho.live (hl hc)) ⟨?_, fun hr => ?_, ho.fetch.loops, ho.fetch.keys, ho.fetch.held, ho.fetch.owed, fun hd => ?_⟩ rfl
    (hnone.le.trans (Nat.zero_le _)) (Or.inr (Or.inr (hn hc)))
  · simpa using Nat.lt_succ_of_le (hw hc)
  · rw [Fetch.readerFor_none] at hr
    rcases hr with hr | hr | hr | hr <;> cases hr
  · dsimp only at hd
    split at hd <;> cases hd

theorem State.markInvalid_within (h : s.meets l (some c) n live) (hl : l.watches c → live) (hn : l.watches c → 2 ≤ n)
    (hw : l.watches c → (s.chan c).fetch.window.length ≤ 3) (slot : Nat) (sub : SubCode) :
    (s.markInvalid c slot sub).within l := by
  have hplaced := State.placeMarker_meets h hl hn hw slot sub
  refine State.event_within ?_
  dsimp only
  split
  · exact Ev.faultChannel_within (e := Ev.mod (Ev.of s false) (·.placeMarker c slot sub)) hplaced.toWithin
      (fun hc => hplaced.counts hc (hl hc)) _
  · exact hplaced.toWithin

theorem State.slotNotReady_within (h : s.meets l (some c) n live) (hl : l.watches c → live)
    (hw : l.watches c → (s.chan c).fetch.window.length ≤ 3) (nudged : Bool) : (s.slotNotReady c nudged).within l := by
  have hstood : (s.modFetch c fun f => { f with frontier := true, reader := .atFrontier, poll := 0 }).meets l none n live :=
    h.setReader (Or.inr rfl) hl (fun _ => rfl) (fun hc => Or.inl (hw hc))
      fun hc => (h.noReads hc (by rw [Fetch.readerFor_hand]; rfl)).le
  unfold State.slotNotReady
  dsimp only
  split
  · obtain ⟨_, hread⟩ := hstood.reread (c := c) (by rw [State.chan_modFetch])
    exact hread.toWithin
  · exact hstood.toWithin

theorem State.slotAccepted_within (h : s.meets l (some c) n live) (hl : l.watches c → live) (hn : l.watches c → 2 ≤ n)
    (hw : l.watches c → (s.chan c).fetch.window.length ≤ 3) (accepted : AcceptedSlot) : (s.slotAccepted c accepted).within l := by
  have hnoted := h.note (c := c) (g := fun f => { f with frontier := false, accepted := some accepted }) fun _ => rfl
  have hroom : l.watches c → ((s.modFetch c fun f => { f with frontier := false, accepted := some accepted }).chan c).fetch.window.length
      ≤ 3 := fun hc => by
    rw [State.chan_modFetch]
    exact hw hc
  have hnone : l.watches c → (s.modFetch c fun f => { f with frontier := false, accepted := some accepted }).stepReads c = 0 :=
    fun hc => hnoted.noReads hc (by rw [Fetch.readerFor_hand]; rfl)
  unfold State.slotAccepted
  dsimp only
  split
  · exact State.markInvalid_within hnoted hl hn hroom _ _
  · have hset := hnoted.setReader (c := c) (g := fun f => { f with reader := .entryRead }) (Or.inr rfl) hl (fun _ => rfl)
      (fun hc => Or.inl (hroom hc)) fun hc => (hnone hc).le.trans (Nat.zero_le _)
    refine State.meets.toWithin (hset.raise _ fun d hd hk => ?_)
    obtain rfl : c = d := Option.some.inj hk
    refine ⟨hset.counts hd (hl hd), ?_⟩
    obtain ⟨hwaiting, hlive, -, hsamples, hreserved, hfew⟩ := (hnoted.chan c hd).port
    rw [State.chan_modFetch]
    exact Port.serves.plus_read ⟨hwaiting, hlive, (hnone hd).le, hsamples, hreserved, hfew⟩ (by simp [Transfer.isStepReadOf, State.chan])

theorem State.slotReadDone_within (h : s.meets l (some c) n live) (hl : l.watches c → live) (hn : l.watches c → 2 ≤ n)
    (hw : l.watches c → (s.chan c).fetch.window.length ≤ 3) (data : Option (List Byte)) : (s.slotReadDone c data).within l := by
  have hnoted := h.note (c := c) (g := fun f => { f with nudge := false }) fun _ => rfl
  have hroom : l.watches c → ((s.modFetch c fun f => { f with nudge := false }).chan c).fetch.window.length ≤ 3 := fun hc => by
    rw [State.chan_modFetch]
    exact hw hc
  unfold State.slotReadDone
  dsimp only
  split
  · refine State.markInvalid_within (hnoted.note fun _ => rfl) hl hn (fun hc => ?_) _ _
    rw [State.chan_modFetch]
    exact hroom hc
  · split
    · exact State.slotAccepted_within hnoted hl hn hroom _
    · exact State.slotNotReady_within hnoted hl hroom _

/-- A step that passed every check has room for its map change (R20, check 11). -/
theorem mapHasRoom_of_firstFailure {slot : Nat} {accepted : AcceptedSlot} {seg : SegEntry}
    (h : firstFailure s c slot accepted.body seg = none) : mapHasRoom (contextOf s c slot accepted seg) (s.chan c).fetch.map := by
  intro hjump hpasses hnew
  by_contra hfull
  have hnone : (stepChecks s c slot accepted.body seg).find? (·.1) = none := by simpa [firstFailure] using h
  have hlast := List.find?_eq_none.1 hnone (decide (accepted.body.nextKind = some .jump) && decide (2 ≤ accepted.body.passes)
    && decide (mapEntry (s.chan c).fetch.map slot = none) && decide (8 ≤ (s.chan c).fetch.map.length), .loopDepth)
      (by iterate 8 apply List.mem_cons_of_mem
          exact List.mem_cons_self ..)
  have hj : accepted.body.nextKind = some .jump := hjump
  have hp : 2 ≤ accepted.body.passes := hpasses
  have hm : mapEntry (s.chan c).fetch.map slot = none := hnew
  simp [hj, hp, hm] at hlast
  omega

theorem State.admitStep_within {ctx : StepContext} (h : s.meets l (some c) n live) (hl : l.watches c → live) (hn : l.watches c → 2 ≤ n)
    (hw : l.watches c → (s.chan c).fetch.window.length ≤ 3) (hroom : l.watches c → mapHasRoom ctx (s.chan c).fetch.map) :
    (s.admitStep c ctx).within l := by
  have hnoted := h.note (c := c) (g := fun f => { f with nextOcc := f.nextOcc + 1 }) fun _ => rfl
  have hwindow : l.watches c → ((s.modFetch c fun f => { f with nextOcc := f.nextOcc + 1 }).chan c).fetch.window.length ≤ 3 :=
    fun hc => by rw [State.chan_modFetch]; exact hw hc
  have hmap : l.watches c → mapHasRoom ctx ((s.modFetch c fun f => { f with nextOcc := f.nextOcc + 1 }).chan c).fetch.map :=
    fun hc => by rw [State.chan_modFetch]; exact hroom hc
  unfold State.admitStep
  dsimp only
  split
  · split
    · exact (hnoted.placeResident hl hn hwindow hmap _).toWithin
    · refine State.meets.toWithin (live := live) (n := n) (hnoted.modChan (fun hc ho => ?_) (fun _ => ⟨rfl, id⟩)
        fun _ => hand_other (Or.inr rfl))
      have hnone := hnoted.noReads hc (by rw [Fetch.readerFor_hand]; rfl)
      refine ho.withFetch (ho.live (hl hc)) ⟨ho.fetch.window, fun _ => hwindow hc, ho.fetch.loops, ho.fetch.keys, fun held hheld => ?_,
        ho.fetch.owed, ho.fetch.settled⟩ rfl (hnone.le.trans (Nat.zero_le _)) (Or.inr (Or.inr (hn hc)))
      rw [← Option.some.inj hheld]
      exact hmap hc
  · exact (hnoted.placeContext hl hn hwindow hmap).toWithin

theorem State.entryReadDone_within (h : s.meets l (some c) n live) (hl : l.watches c → live) (hn : l.watches c → 2 ≤ n)
    (hw : l.watches c → (s.chan c).fetch.window.length ≤ 3) (data : Option (List Byte)) : (s.entryReadDone c data).within l := by
  unfold State.entryReadDone
  dsimp only
  split
  · exact State.markInvalid_within h hl hn hw _ _
  · exact (h.layDown hw).toWithin
  · split
    · exact State.markInvalid_within h hl hn hw _ _
    · rename_i hpassed
      exact State.admitStep_within h hl hn hw fun _ => mapHasRoom_of_firstFailure hpassed

end Completing

end Sys2Proof.Machine

namespace Sys2Proof.Machine

section Completing

variable {l : Ledger} {s t : State} {e : Ev} {n m : Nat} {live : Prop} {c d : Chan} {ph : PortPhase} {w : Option Chan} {a : Nat}
  {r : Request}

/-! ### The Sample Pool (R53, R57, R61) -/

theorem State.memoryFault_within (h : s.within l) (c : Chan) : (s.memoryFault c).within l := by
  unfold State.memoryFault
  split
  · rename_i hbusy
    exact State.event_within (Ev.faultChannel_within (e := Ev.of s false) h (fun _ => hbusy) _)
  · exact h

theorem widenSamples_length (format : SampleFormat) (n : Nat) (bytes : List Byte) : (widenSamples format n bytes).length = n := by
  simp [widenSamples]

/-- An arrival of at most the reserve fits the stream capacity (R51, R53). -/
theorem State.streamDone_within (h : s.meets l none n live) (hc : l.watches c → (s.chan c).play.state.counts = true)
    (hsamples : l.watches c → s.port.stands.countP (fun r => r.kind.isSampleOf c (s.chan c).fetch.epoch) = 0)
    (hreserve : l.watches c → m ≤ (s.chan c).pool.reserve) (format : SampleFormat) (data : Option (List Byte)) :
    (s.streamDone c format m data).within l := by
  cases data with
  | none => exact State.memoryFault_within h.toWithin c
  | some bytes =>
    refine State.meets.toWithin (n := n) (live := live) (State.meets.feed (h.modChan_keep fun hw ho => ?_) c)
    obtain ⟨hwaiting, hlive, hreads, -, -, hfew⟩ := ho.port
    have hnone : ∀ x ∈ s.port.stands, x.kind.isSampleOf c (s.chan c).fetch.epoch ≠ true := by
      simpa [List.countP_eq_zero] using hsamples hw
    refine ⟨ho.fetch, ?_, ⟨hwaiting, hlive, hreads, (hsamples hw).le.trans (Nat.zero_le _), fun r hr k f hk => ?_, hfew⟩, ho.ahead,
      fun hno => absurd ((hc hw).symm.trans hno) Bool.noConfusion, ho.playing, ho.live⟩
    · have hfill := ho.fill
      have hroom := hreserve hw
      simp only [Pool.arrive, List.length_append, List.length_drop, widenSamples_length]
      omega
    · exact (hnone r hr (by rw [hk]; simp [Transfer.isSampleOf])).elim

theorem State.bankDone_within (h : s.within l) (c : Chan) (occ : Nat) (format : SampleFormat) (m : Nat) (data : Option (List Byte)) :
    (s.bankDone c occ format m data).within l := by
  obtain ⟨k, hk⟩ := h
  have hfed : (s.feed c).within l := (hk.feed c).toWithin
  unfold State.bankDone
  split
  · split
    · exact State.memoryFault_within hk.toWithin c
    · refine State.meets.toWithin (n := k) (live := False) (State.meets.feed (hk.modBanks ?_ ?_) c)
      · exact fun _ => rfl
      · exact fun _ => rfl
    · exact hfed
  · exact hfed

/-- A sample request that has come back: no other of its channel stands, and a stream request was within the reserve (R32, R52). -/
theorem State.sampleEnds (h : s.inOrder ph w a) (hr : s.live = some r) (hk : r.kind.isSampleOf c (s.chan c).fetch.epoch = true)
    (hw : w = some c) : (s.chan c).play.state.counts = true
      ∧ s.portEnd.port.stands.countP (fun r => r.kind.isSampleOf c (s.chan c).fetch.epoch) = 0
      ∧ ∀ m format, r.kind = .streamRequest c (s.chan c).fetch.epoch m format → m ≤ (s.chan c).pool.reserve := by
  obtain ⟨hlive, -⟩ := State.live_mem hr
  obtain ⟨n, h⟩ := h
  have hmem : r ∈ s.port.stands := List.mem_append_left _ (by rw [hlive]; exact List.mem_singleton_self r)
  have ho := h.chan c hw
  refine ⟨?_, ?_, fun m format hkind => ho.port.reserved r hmem m format hkind⟩
  · by_contra hno
    exact (ho.silent (Bool.eq_false_iff.2 hno)).2 r hmem (Transfer.chan?_of_isSampleOf hk) (Transfer.epoch?_of_isSampleOf hk)
  · have hsamples := ho.port.samples
    rw [Port.stands, hlive, List.countP_append, List.countP_singleton, if_pos hk] at hsamples
    have hrest : s.portEnd.port.stands.countP (fun r => r.kind.isSampleOf c (s.chan c).fetch.epoch)
        = s.port.waiting.countP fun r => r.kind.isSampleOf c (s.chan c).fetch.epoch := rfl
    omega

/-! ### The Report Unit (R167, R171, R178, R179) -/

theorem State.event_inOrder {f : Ev → Ev} (hf : (f (Ev.of s false)).st.inOrder ph w a) : (s.event f).inOrder ph w a :=
  hf.calm (Ev.finish_calm _)

theorem State.takenFailed_inOrder (h : s.inOrder ph w a) : s.takenFailed.inOrder ph w a := by
  have hnone := h.calm (s.modReport_calm fun r => { r with taken := .none })
  unfold State.takenFailed
  dsimp only
  split
  · have hhalt := (Ev.halt_inOrder (e := Ev.of (s.modReport fun r => { r with taken := .none }) false) hnone .pageReadError .taken).1
    refine State.event_inOrder ?_
    exact hhalt.calm (Ev.mod_calm (g := State.placeWaiting) _ (State.placeWaiting_calm _))
  · exact hnone.calm (State.placeWaiting_calm _)

theorem State.takenDone_inOrder (h : s.inOrder ph w a) (data : Option (List Byte)) : (s.takenDone data).inOrder ph w a := by
  unfold State.takenDone
  split
  · unfold State.staleTaken
    split
    · exact h.calm (s.modReport_calm _)
    · exact h.calm s.raiseTakenRead_calm
  · split
    · exact State.takenFailed_inOrder h
    · exact h.calm ((s.modReport_calm _).trans (State.placeWaiting_calm _))

theorem State.noticed_calm (s : State) (kind : RecordKind) : s.calm (s.noticed kind) := by
  unfold State.noticed
  split
  · split
    · exact s.modReport_calm _
    · exact s.calm_refl
  · exact s.calm_refl

/-- Voiding a notice concerns no channel's requests (R178). -/
theorem State.voidNotice_calm (s : State) : s.calm s.voidNotice := by
  have hfewer : ∀ c, s.port.fewer c s.voidNotice.port := fun c => by
    rcases voidCounted_cases s.port.waiting with ⟨before, later, x, k, hw, hx, -, hv⟩ | ⟨-, hv⟩
    · refine ⟨fun r hr hc => ?_, fun r hr _ => Or.inl hr, fun f hf => ?_⟩
      · have hr : r ∈ before ++ { x with kind := .reportsWritten none } :: later := hv ▸ hr
        rw [hw]
        rcases List.mem_append.1 hr with hr | hr
        · exact List.mem_append_left _ hr
        · rcases List.mem_cons.1 hr with rfl | hr
          · cases hc
          · exact List.mem_append_right _ (List.mem_cons_of_mem _ hr)
      · have hno : ∀ k, f (.reportsWritten k) = false := fun k => Bool.eq_false_iff.2 fun h => by cases hf _ h
        show ((s.port.live ++ voidCounted s.port.waiting).countP fun r => f r.kind) ≤ (s.port.live ++ s.port.waiting).countP _
        rw [hv, hw]
        simp [List.countP_append, hx, hno]
    · have hport : s.voidNotice.port = s.port := by rw [State.voidNotice, hv]
      rw [hport]
      exact Port.fewer_refl c _
  refine ⟨fun _ => rfl, fun _ => rfl, fun _ => rfl, rfl, rfl, fun ph h => ?_, hfewer⟩
  cases ph with
  | between =>
    refine ⟨h.1, fun hb => ?_⟩
    have hempty : s.port.waiting = [] := h.2 hb
    show voidCounted s.port.waiting = []
    rw [hempty]
    rfl
  | handling => exact h
  | unwatched => trivial

theorem State.writeDone_inOrder (h : s.inOrder ph w a) (answer : WriteAnswer) (r : Requester) {ok : State → State}
    (hok : s.calm (ok s)) : (s.writeDone answer r ok).inOrder ph w a := by
  cases answer with
  | error => exact State.writeFailed_inOrder h r
  | confirmed => exact h.calm hok

theorem State.recordDone_inOrder (h : s.inOrder ph w a) (answer : WriteAnswer) (kind : RecordKind) (overwrite : Bool) :
    (s.recordDone answer kind overwrite).inOrder ph w a := by
  unfold State.recordDone
  cases answer with
  | confirmed =>
    dsimp only
    split
    · exact h.calm (s.noticed_calm kind)
    · exact h
  | error =>
    refine State.writeFailed_inOrder ?_ _
    split
    · exact h
    · exact h.calm s.voidNotice_calm

/-! ### The Order Unit (R134, R135, R137, R152) -/

theorem State.orderNotTaken_inOrder (h : s.inOrder ph w a) : s.orderNotTaken.inOrder ph w a := by
  unfold State.orderNotTaken
  split
  · exact State.readOrderSlot_inOrder h
  · exact State.within.modOrders h (State.not_configuring (by exact fun h => by cases h))

theorem State.orderSlotDone_stands (h : s.inOrder ph w 2) (data : Option (List Byte)) : (s.orderSlotDone data).stands ph w := by
  unfold State.orderSlotDone
  split
  · split
    · refine State.inOrder.stands (State.event_inOrder ?_)
      exact State.orderNotTaken_inOrder h
    · split
      · exact (State.takeOrder_taken h le_rfl _ _).stands
      · exact (State.orderNotTaken_inOrder h).stands
  · exact h.stands

theorem State.dropOrder_inOrder (h : s.inOrder ph w a) : s.dropOrder.inOrder ph w a :=
  State.within.modOrders h (State.not_configuring (by exact fun h => by cases h))

theorem State.orderResultDone_inOrder (h : s.inOrder ph w a) (answer : WriteAnswer) : (s.orderResultDone answer).inOrder ph w a := by
  unfold State.orderResultDone
  cases answer with
  | error => exact State.writeFailed_inOrder (State.dropOrder_inOrder h) _
  | confirmed =>
    dsimp only
    split
    · unfold State.raiseOrderHead
      split
      · exact h.calm (s.raise_calm rfl)
      · exact h
    · exact h

theorem State.orderHeadDone_inOrder (h : s.inOrder ph w a) (answer : WriteAnswer) : (s.orderHeadDone answer).inOrder ph w a := by
  unfold State.orderHeadDone
  cases answer with
  | error => exact State.writeFailed_inOrder (State.dropOrder_inOrder h) _
  | confirmed =>
    dsimp only
    split
    · have hnext : (s.dropOrder.modOrders fun o => { o with next := o.next + 1 }).inOrder ph w a :=
        State.within.modOrders (State.dropOrder_inOrder h) (State.not_configuring (by exact fun h => by cases h))
      unfold State.finishOrder
      dsimp only
      split
      · exact State.readOrderSlot_inOrder hnext
      · exact hnext
    · exact h

/-- While a CONFIGURE is in execution no channel plays (R137). -/
theorem State.executing_configure (h : s.executing Order.isConfigure = true) : s.configuring := by
  unfold State.executing at h
  rw [Bool.and_eq_true, decide_eq_true_eq] at h
  obtain ⟨hstate, hkind⟩ := h
  cases hhand : s.orders.inHand with
  | none => simp [hhand] at hkind
  | some o =>
    refine ⟨o, hhand, hstate, ?_⟩
    rw [hhand] at hkind
    cases hconf : o.order <;> simp [hconf, Order.isConfigure] at hkind ⊢

theorem State.configureDone_stands (h : s.inOrder ph w 2) (data : Option (List Byte)) : (s.configureDone data).stands ph w := by
  unfold State.configureDone
  split
  · rename_i hexec
    have hrest : ∀ c, w = some c → (s.chan c).play.state.counts = false := fun c hc => by
      obtain ⟨n, h⟩ := h
      exact Bool.eq_false_iff.2 fun hplays => (h.chan c hc).playing hplays (State.executing_configure hexec)
    split
    · exact (State.within.closeOrder h _).stands
    · split
      · exact (State.within.closeOrder h _).stands
      · have htaken : ∀ r, (s.takeConfigure r).inOrder ph w 2 := fun r =>
          State.within.relabel h rfl rfl rfl rfl rfl rfl le_rfl (fun c hc => Or.inr (hrest c hc))
            fun c hc hplays => absurd ((hrest c hc).symm.trans hplays) Bool.noConfusion
        exact (State.within.closeOrder (htaken _) _).stands
  · exact h.stands

theorem State.snapshotDone_stands (h : s.inOrder ph w 2) (answer : WriteAnswer) : (s.snapshotDone answer).stands ph w := by
  unfold State.snapshotDone
  cases answer with
  | error => exact (State.writeFailed_inOrder h _).stands
  | confirmed =>
    dsimp only
    split
    · exact (State.within.closeOrder h _).stands
    · exact h.stands

end Completing

end Sys2Proof.Machine

namespace Sys2Proof.Machine

/-! ## Every command keeps the watched channel in order -/

section Commands

variable {s t : State} {n : Nat} {c : Chan} {ph : PortPhase} {w : Option Chan} {a : Nat} {r : Request}

/-- Every state an outcome goes on to is in order. -/
def standsNext (ph : PortPhase) (w : Option Chan) (o : Host.Outcome State Fault Refusal) : Prop := ∀ t, o = .next t → t.stands ph w

theorem State.stands.next (h : t.stands ph w) : standsNext ph w (.next t) := fun _ ht => Host.Outcome.next.inj ht ▸ h

theorem State.stands.within (_h : s.stands ph w) (ht : t.within (s.ledger ph w s.orderAhead)) : t.stands ph w := by
  have hahead : t.orderAhead = s.orderAhead := State.orderAhead_congr (by rw [ht.engine]; rfl) (by rw [ht.orders]; rfl)
  rw [State.stands, hahead]
  exact ht.inOrder

theorem State.stands.calm (h : s.stands ph w) (g : s.calm t) : t.stands ph w := h.within (State.within.calm h g)

theorem State.stands.modEngine (h : s.stands ph w) {f : EngineControl → EngineControl} (hc : (f s.engine).config = s.engine.config)
    (hs : (f s.engine).state = s.engine.state) : (s.modEngine f).stands ph w := by
  have hahead : (s.modEngine f).orderAhead = s.orderAhead := State.orderAhead_congr hs rfl
  rw [State.stands, hahead]
  exact State.inOrder.modEngine h hc

theorem State.orderAhead_offline (h : s.online = false) : s.orderAhead = 0 := if_neg fun hon => by simp [h] at hon

/-! ### Engine Control (R181 to R190) -/

theorem execHalt_stands (h : s.stands ph w) : standsNext ph w (execHalt s) := by
  refine State.stands.next ?_
  split
  · obtain ⟨hhalt, hoff⟩ := State.haltEngine_inOrder h .hostHalt .none
    rw [State.stands, State.orderAhead_offline hoff]
    exact hhalt.less (Nat.zero_le _)
  · exact h

theorem execGo_stands (h : s.stands ph w) : standsNext ph w (execGo s) := by
  refine State.stands.next ?_
  split
  · exact h
  · exact (h.modEngine (f := fun e => { e with starting := true, goBase := some (s.engine.page.toNat * 4096) }) rfl rfl).calm
      (State.raise_calm _ rfl)

theorem execPage_stands (h : s.stands ph w) (value : BitVec 32) : standsNext ph w (execPage value s) := by
  refine State.stands.next ?_
  split
  · exact h
  · exact h.modEngine rfl rfl

theorem execAttn_stands (h : s.stands ph w) (value : BitVec 32) : standsNext ph w (execAttn value s) := by
  refine State.stands.next ?_
  split
  · exact h.calm (s.modReport_calm _)
  · exact h

theorem State.nudgeOrders_orderAhead (s : State) (h : s.online = true) : s.nudgeOrders.orderAhead ≤ s.orderAhead := by
  unfold State.nudgeOrders
  split
  · rename_i hstandby
    rw [show s.orderAhead = 2 from if_pos ⟨h, Or.inl hstandby⟩]
    exact State.orderAhead_le _
  · exact (State.orderAhead_congr rfl rfl).le

theorem State.nudge_stands (h : s.stands ph w) (channels : BitVec 8) (orders room : Bool) :
    (s.nudge channels orders room).stands ph w := by
  unfold State.nudge
  split
  · rename_i honline
    have hchannels := h.within (State.foldl_within (xs := members channels) h fun s c h => State.within.nudgeChannel h c)
    have hsame : ((members channels).foldl State.nudgeChannel s).online = true := by
      obtain ⟨n, hn⟩ := State.foldl_within (xs := members channels) h fun s c h => State.within.nudgeChannel h c
      rw [State.online, hn.engine]
      exact honline
    have horders : (if orders then ((members channels).foldl State.nudgeChannel s).nudgeOrders
        else (members channels).foldl State.nudgeChannel s).stands ph w := by
      split
      · exact (State.nudgeOrders_inOrder hchannels).less (State.nudgeOrders_orderAhead _ hsame)
      · exact hchannels
    unfold State.handNudges
    dsimp only
    split
    · exact horders.calm (State.nudgeRoom_calm _)
    · exact horders
  · split
    · exact h.modEngine rfl rfl
    · exact h

/-! ### Power-on and RESET (R189) -/

/-- The purges ahead of a channel: those of its play and those an order may bring (R39, R132). -/
theorem State.epochsAhead_le (s : State) (c : Chan) : s.epochsAhead c ≤ (s.chan c).purgesAhead + s.orderAhead := by
  unfold State.epochsAhead State.orderAhead
  split
  · rename_i honline
    simp only [honline, true_and]
    exact le_rfl
  · exact Nat.zero_le _

theorem State.epochsAhead_eq (hq : s.quietOffline) (c : Chan) : s.epochsAhead c = (s.chan c).purgesAhead + s.orderAhead := by
  refine le_antisymm (s.epochsAhead_le c) ?_
  by_cases honline : s.online = true
  · unfold State.epochsAhead State.orderAhead
    simp only [honline, true_and]
    exact le_rfl
  · have hoff := Bool.eq_false_iff.2 honline
    have hidle : (s.chan c).play.state = .idle := (hq.1 hoff).1 c
    simp [State.orderAhead, hoff, Channel.purgesAhead, hidle, ChannelState.counts]

theorem Port.mem_live {p : Port} : r ∈ p.live ↔ r ∈ p.inFlight ∧ p.discard = false := by
  unfold Port.live
  cases p.discard <;> simp

theorem State.chan_inOrder (hq : s.quietOffline) (hf : s.fetchesOrdered) (c : Chan) :
    (s.chan c).inOrder (s.ledger ph w s.orderAhead) none (s.chan c).purgesAhead False c s.port := by
  obtain ⟨hwindow, hroom, hloops, hkeys, hheld, hfill, hwaiting, hflight, hreads, hsamples, hreserved, howed, hsettled, hsilent⟩ := hf.1 c
  have htwo := (s.chan c).purgesAhead_le
  have hahead := s.orderAhead_le
  refine ⟨⟨hwindow, by rw [Fetch.readerFor_none]; exact hroom, hloops, hkeys, hheld, howed, hsettled⟩,
    (State.capacity_eq (l := s.ledger ph w s.orderAhead) rfl c).symm ▸ hfill, ⟨hwaiting, fun r hr hc e he => ?_, ?_, ?_, hreserved, ?_⟩, le_rfl, fun hrest => ?_,
    fun hplays hconf => ?_, False.elim⟩
  · obtain ⟨hr, hd⟩ := Port.mem_live.1 hr
    have hdiff := hflight r hr hd hc e he
    rw [State.epochsAhead_eq hq] at hdiff
    exact hdiff
  · rw [Fetch.readerFor_none, List.countP_eq_length_filter]
    exact hreads
  · rw [List.countP_eq_length_filter]
    exact hsamples
  · exact (Nat.add_le_add htwo hahead).trans le_rfl
  · obtain ⟨hreader, hempty, hno, hdata, hqueue, hreserve, hclear⟩ := hsilent hrest
    exact ⟨⟨hreader, hempty, hno, hdata, hqueue, hreserve⟩, hclear⟩
  · obtain ⟨o, ho, hexec, hkind⟩ := hconf
    exact absurd ((hf.2 o ho hexec hkind c).symm.trans hplays) Bool.noConfusion

/-- A state whose fetch contexts are in order stands. -/
theorem State.stands_of (hph : s.port.inPhase ph) (hq : ∀ c, w = some c → s.quietOffline ∧ s.fetchesOrdered) : s.stands ph w := by
  cases w with
  | none => exact ⟨0, hph, rfl, rfl, fun c hc => by cases hc⟩
  | some d =>
    refine ⟨(s.chan d).purgesAhead, hph, rfl, rfl, fun c hc => ?_⟩
    obtain rfl : d = c := Option.some.inj hc
    obtain ⟨hquiet, hordered⟩ := hq d rfl
    exact State.chan_inOrder hquiet hordered d

/-- The fetch contexts of a state are in order if it stands with each channel watched in turn. -/
theorem State.fetchesOrdered_of (h : ∀ c, s.stands .unwatched (some c)) : s.fetchesOrdered := by
  refine ⟨fun c => ?_, fun o ho hexec hkind c => ?_⟩
  · obtain ⟨n, hn⟩ := h c
    have ho := hn.chan c rfl
    obtain ⟨hwaiting, hlive, hreads, hsamples, hreserved, -⟩ := ho.port
    rw [List.countP_eq_length_filter] at hreads hsamples
    rw [Fetch.readerFor_none] at hreads
    refine ⟨ho.fetch.window, fun hr => ho.fetch.room (by rw [Fetch.readerFor_none]; exact hr), ho.fetch.loops, ho.fetch.keys,
      ho.fetch.held, (State.capacity_eq (l := s.ledger .unwatched (some c) s.orderAhead) rfl c) ▸ ho.fill, hwaiting, fun r hr hd hc e he => ?_, hreads, hsamples, hreserved,
      ho.fetch.owed, ho.fetch.settled, fun hrest => ?_⟩
    · have hdiff := hlive r (Port.mem_live.2 ⟨hr, hd⟩) hc e he
      have hle := s.epochsAhead_le c
      have hahead := ho.ahead
      have hslack : (s.ledger .unwatched (some c) s.orderAhead).slack = s.orderAhead := rfl
      have hsame : (s.chan c).fetch.epoch = (s.chans[c.val]'c.isLt).fetch.epoch := rfl
      rw [hslack] at hdiff
      rw [Fin.getElem_fin, ← hsame]
      omega
    · obtain ⟨⟨hreader, hempty, hno, hdata, hqueue, hreserve⟩, hclear⟩ := ho.silent hrest
      exact ⟨hreader, hempty, hno, hdata, hqueue, hreserve, hclear⟩
  · obtain ⟨n, hn⟩ := h c
    exact Bool.eq_false_iff.2 fun hplays => (hn.chan c rfl).playing hplays ⟨o, ho, hexec, hkind⟩

theorem State.powerOn_stands (s : State) (hph : ph ≠ .handling) : s.powerOn.stands ph w := by
  obtain ⟨-, hwf, -, -, hquiet, -, -, -, -, hordered⟩ := invariantsHoldAfterPowerOn
  refine State.stands_of ?_ fun c _ => ⟨hquiet, hordered⟩
  cases ph with
  | between => exact hwf
  | handling => exact (hph rfl).elim
  | unwatched => trivial

theorem State.resetCommand_stands (s : State) (hph : ph ≠ .handling) : s.resetCommand.stands ph w := by
  obtain ⟨n, h⟩ := s.powerOn_stands (w := w) hph
  have hnone : s.port.atReset.stands = [] := by
    unfold Port.stands Port.live Port.atReset
    cases s.port.inFlight <;> rfl
  have hmem : ∀ r, r ∉ s.port.atReset.stands := fun r hr => by rw [hnone] at hr; cases hr
  have hfewer : ∀ c, s.powerOn.port.fewer c s.resetCommand.port := fun c =>
    ⟨fun r hr _ => (hmem r (List.mem_append_right _ hr)).elim, fun r hr _ => (hmem r (List.mem_append_left _ hr)).elim,
      fun k _ => by rw [show s.resetCommand.port.stands = [] from hnone]; exact Nat.zero_le _⟩
  refine ⟨n, ?_, rfl, rfl, fun c hc => ((h.chan c hc).relabel (l' := s.resetCommand.ledger ph w s.resetCommand.orderAhead) (Or.inl rfl)
    le_rfl (h.chan c hc).playing).fewer (hfewer c)⟩
  cases ph with
  | between => exact ⟨rfl, fun _ => rfl⟩
  | handling => exact (hph rfl).elim
  | unwatched => trivial

/-! ### Orders as commands (R134; log 7) -/

theorem State.orderCommand_stands (h : s.stands ph w) (hph : ph ≠ .handling) (order : Order) (edition : BitVec 32) :
    (s.orderCommand order edition).stands ph w := by
  unfold State.orderCommand
  split
  · rename_i honline
    have htwo : ∀ st, (st = .standby ∨ st = .reading) → s.orders.state = st → s.inOrder ph w 2 := fun st hst hstate => by
      have hahead : s.orderAhead = 2 := if_pos ⟨honline, hstate ▸ hst⟩
      rw [State.stands, hahead] at h
      exact h
    split
    · rename_i hstate
      exact (State.takeOrder_taken (htwo _ (Or.inl rfl) hstate) le_rfl order edition).stands
    · rename_i hstate
      split
      · rename_i hread
        have hlive : ∃ r, s.live = some r := by
          unfold State.orderReadInFlight at hread
          rw [Bool.and_eq_true, Bool.not_eq_true', decide_eq_true_eq] at hread
          obtain ⟨hd, hkind⟩ := hread
          obtain ⟨r, hr, -⟩ := Option.map_eq_some_iff.1 hkind
          exact ⟨r, by rw [State.live, hd, hr]; rfl⟩
        obtain ⟨r, hr⟩ := hlive
        exact State.completion_stands hph (State.takeOrder_taken (State.portEnd_inOrder h hr) le_rfl order edition).stands
      · exact (State.takeOrder_taken (State.within.calm (htwo _ (Or.inr rfl) hstate) (s.withdraw_calm _)) le_rfl order edition).stands
    · exact h
    · exact h
  · exact h

/-! ### Expiries and samples (R66, R120, R123) -/

theorem State.stands.event (h : s.stands ph w) {f : Ev → Ev} (hf : ∀ n, s.meets (s.ledger ph w s.orderAhead) none n False →
    (f (Ev.of s false)).st.within (s.ledger ph w s.orderAhead)) : (s.event f).stands ph w := by
  obtain ⟨n, hn⟩ := h
  exact State.stands.within ⟨n, hn⟩ (State.event_within (hf n hn))

theorem execPassEnd_stands (h : s.stands ph w) (c : Chan) : standsNext ph w (execPassEnd c s) := by
  refine State.stands.next ?_
  split
  · rename_i hstate hstep
    split
    · have hc : (s.chan c).play.state.counts = true := congrArg ChannelState.counts hstate
      exact h.event fun n hn => Ev.endPass_within (hn.go fun _ => hc) id (hn.two (fun _ => hc) (Channel.head_ne_none hstep)) _
    · exact h
  · exact h

theorem execStepBoundary_stands (h : s.stands ph w) (c : Chan) : standsNext ph w (execStepBoundary c s) := by
  refine State.stands.next ?_
  split
  · rename_i hstate hstep
    split
    · have hc : (s.chan c).play.state.counts = true := congrArg ChannelState.counts hstate
      exact h.event fun n hn => Ev.boundary_within (hn.go fun _ => hc) id (hn.two (fun _ => hc) (Channel.head_ne_none hstep)) _
    · exact h
  · exact h

theorem Play.counts_of_inEntryWait {p : Play} (h : p.inEntryWait = true) : p.state.counts = true := by
  unfold Play.inEntryWait at h
  split at h
  · rename_i hstate _
    rw [hstate]
    rfl
  · rename_i hstate _
    rw [hstate]
    rfl
  · cases h

theorem execWaitTimeout_stands (h : s.stands ph w) (c : Chan) : standsNext ph w (execWaitTimeout c s) := by
  refine State.stands.next ?_
  split
  · rename_i hstep
    split
    · rename_i hdue
      have hc : (s.chan c).play.state.counts = true := Play.counts_of_inEntryWait hdue.1
      exact h.event fun n hn => Ev.timeOut_within (hn.go fun _ => hc) id (hn.two (fun _ => hc) (Channel.head_ne_none hstep)) _
    · exact h
  · exact h

theorem execFrontierPoll_stands (h : s.stands ph w) (c : Chan) : standsNext ph w (execFrontierPoll c s) := by
  refine State.stands.next ?_
  split
  · rename_i hdue
    obtain ⟨n, hn⟩ := h
    unfold State.pollDue at hdue
    simp only [Bool.and_eq_true, decide_eq_true_eq] at hdue
    obtain ⟨_, hread⟩ := hn.reread hdue.1.1.1
    exact State.stands.within ⟨n, hn⟩ hread.toWithin
  · exact h

theorem execStrike_stands (h : s.stands ph w) (value : BitVec 32) : standsNext ph w (execStrike value s) := by
  refine State.stands.next ?_
  split
  · exact h.within (State.foldl_within h fun s k h => State.edge_within h k)
  · exact h

theorem execQualifiedEdge_stands (h : s.stands ph w) (k : LineIx) : standsNext ph w (execQualifiedEdge k s) := by
  refine State.stands.next ?_
  split
  · exact h.within (State.acceptLevel_within h k)
  · exact h

theorem execTriggerEvent_stands (h : s.stands ph w) (k : LineIx) : standsNext ph w (execTriggerEvent k s) := by
  refine State.stands.next ?_
  split
  · exact h.within (State.delayEnds_within h k)
  · exact h

theorem execMarkerDelayElapsed_stands (h : s.stands ph w) (c : Chan) (m : MarkIx) :
    standsNext ph w (execMarkerDelayElapsed c m s) := by
  refine State.stands.next ?_
  split
  · exact h.calm (s.modLevel_calm c _)
  · exact h

theorem execMarkerWidthElapsed_stands (h : s.stands ph w) (c : Chan) (m : MarkIx) :
    standsNext ph w (execMarkerWidthElapsed c m s) := by
  refine State.stands.next ?_
  split
  · exact h.calm (s.modLevel_calm c _)
  · exact h

end Commands

end Sys2Proof.Machine

namespace Sys2Proof.Machine

/-! ## One step keeps the port and the fetch contexts well formed -/

section Stepping

variable {s t : State} {n : Nat} {c : Chan} {ph : PortPhase} {w : Option Chan} {r : Request}

/-! ### Completions as commands (R27, R39, R159) -/

theorem execStepSlotReadComplete_stands (h : s.stands ph w) (hph : ph ≠ .handling) (answer : ReadAnswer) :
    standsNext ph w (execStepSlotReadComplete answer s) := by
  refine State.stands.next (State.completeRead_stands h hph fun r f hlive hf _ => ?_)
  split at hf
  · rename_i c epoch _ hk
    obtain rfl := Option.some.inj hf
    unfold underEpoch
    split
    · rename_i hepoch
      obtain ⟨hread, hroom⟩ := State.readEnds (c := c) h hlive (by rw [hk]; simp [Transfer.isStepReadOf, ← hepoch]; rfl)
      exact (State.within.inOrder (State.slotReadDone_within hread id (fun _ => le_rfl) hroom _)).stands
    · exact (State.portEnd_inOrder h hlive).stands
  · cases hf

theorem execSegmentEntryReadComplete_stands (h : s.stands ph w) (hph : ph ≠ .handling) (answer : ReadAnswer) :
    standsNext ph w (execSegmentEntryReadComplete answer s) := by
  refine State.stands.next (State.completeRead_stands h hph fun r f hlive hf _ => ?_)
  split at hf
  · rename_i c epoch hk
    obtain rfl := Option.some.inj hf
    unfold underEpoch
    split
    · rename_i hepoch
      obtain ⟨hread, hroom⟩ := State.readEnds (c := c) h hlive (by rw [hk]; simp [Transfer.isStepReadOf, ← hepoch]; rfl)
      exact (State.within.inOrder (State.entryReadDone_within hread id (fun _ => le_rfl) hroom _)).stands
    · exact (State.portEnd_inOrder h hlive).stands
  · cases hf

theorem execStreamRequestComplete_stands (h : s.stands ph w) (hph : ph ≠ .handling) (answer : ReadAnswer) :
    standsNext ph w (execStreamRequestComplete answer s) := by
  refine State.stands.next (State.completeRead_stands h hph fun r f hlive hf _ => ?_)
  split at hf
  · rename_i c epoch m format hk
    obtain rfl := Option.some.inj hf
    unfold underEpoch
    split
    · rename_i hepoch
      have hepoch : (s.chan c).fetch.epoch = epoch := hepoch
      have hsample : r.kind.isSampleOf c (s.chan c).fetch.epoch = true := by rw [hk, hepoch]; simp [Transfer.isSampleOf]
      have hends := fun hw => State.sampleEnds h hlive hsample (c := c) hw
      have hended := State.portEnd_meets h (by rw [(State.live_mem hlive).2]; exact nofun)
      exact (State.within.inOrder (State.streamDone_within hended (fun hw => (hends hw).1) (fun hw => (hends hw).2.1)
        (fun hw => (hends hw).2.2 m format (by rw [hk, hepoch])) format _)).stands
    · exact (State.portEnd_inOrder h hlive).stands
  · cases hf

theorem execBankLoadComplete_stands (h : s.stands ph w) (hph : ph ≠ .handling) (answer : ReadAnswer) :
    standsNext ph w (execBankLoadComplete answer s) := by
  refine State.stands.next (State.completeRead_stands h hph fun r f hlive hf _ => ?_)
  have hended := State.portEnd_inOrder h hlive
  split at hf
  · obtain rfl := Option.some.inj hf
    unfold underEpoch
    split
    · exact (State.within.inOrder (State.bankDone_within hended _ _ _ _ _)).stands
    · exact hended.stands
  · cases hf

theorem execOrderSlotReadComplete_stands (h : s.stands ph w) (hph : ph ≠ .handling) (answer : ReadAnswer) :
    standsNext ph w (execOrderSlotReadComplete answer s) := by
  refine State.stands.next (State.completeRead_stands h hph fun r f hlive hf _ => ?_)
  split at hf
  · obtain rfl := Option.some.inj hf
    exact State.orderSlotDone_stands (State.portEnd_inOrder h hlive) _
  · cases hf

theorem execConfigureReadComplete_stands (h : s.stands ph w) (hph : ph ≠ .handling) (answer : ReadAnswer) :
    standsNext ph w (execConfigureReadComplete answer s) := by
  refine State.stands.next (State.completeRead_stands h hph fun r f hlive hf _ => ?_)
  split at hf
  · obtain rfl := Option.some.inj hf
    exact State.configureDone_stands (State.portEnd_inOrder h hlive) _
  · cases hf

/-- While a GO is starting the engine is off ONLINE and no channel plays (R180). -/
theorem State.quietOffline.atRest (hq : s.quietOffline) (h : s.engine.starting = true) (c : Chan) :
    (s.chan c).play.state.counts = false := by
  have hoff : s.online = false := by
    by_contra hno
    exact absurd ((hq.2 (Bool.not_eq_false _ ▸ hno)).symm.trans h) Bool.noConfusion
  exact congrArg ChannelState.counts ((hq.1 hoff).1 c)

theorem execGoConfigReadComplete_stands (h : s.stands ph w) (hph : ph ≠ .handling) (hq : ∀ c, w = some c → s.quietOffline)
    (answer : ReadAnswer) : standsNext ph w (execGoConfigReadComplete answer s) := by
  refine State.stands.next (State.completeRead_stands h hph fun r f hlive hf _ => ?_)
  split at hf
  · obtain rfl := Option.some.inj hf
    exact (State.goDone_inOrder (State.portEnd_inOrder h hlive) (fun hstarting c hc => (hq c hc).atRest hstarting c) _).stands
  · cases hf

theorem execReportsTakenReadComplete_stands (h : s.stands ph w) (hph : ph ≠ .handling) (answer : ReadAnswer) :
    standsNext ph w (execReportsTakenReadComplete answer s) := by
  refine State.stands.next (State.completeRead_stands h hph fun r f hlive hf _ => ?_)
  split at hf
  · obtain rfl := Option.some.inj hf
    exact (State.takenDone_inOrder (State.portEnd_inOrder h hlive) _).stands
  · cases hf

/-- The completion of a write whose handling keeps the state in order. -/
theorem State.completeWrite_next (h : s.stands ph w) (hph : ph ≠ .handling) {handle : Transfer → Option (State → State)}
    (hf : ∀ k f, handle k = some f → ∀ ph t, State.inOrder ph w 2 t → (f t).stands ph w) :
    standsNext ph w (.next (s.completeWrite handle)) :=
  State.stands.next (State.completeWrite_stands h hph fun _ f hlive hk => hf _ f hk _ _ (State.portEnd_inOrder h hlive))

theorem execWrites_stands (h : s.stands ph w) (hph : ph ≠ .handling) (answer : WriteAnswer) :
    standsNext ph w (execSnapshotWriteComplete answer s) ∧ standsNext ph w (execOrderResultWriteComplete answer s)
      ∧ standsNext ph w (execOrderHeadWriteComplete answer s) ∧ standsNext ph w (execSlotRetireWriteComplete answer s)
      ∧ standsNext ph w (execReportRecordWriteComplete answer s) ∧ standsNext ph w (execReportsWrittenWriteComplete answer s)
      ∧ standsNext ph w (execStatusBlockWriteComplete answer s) ∧ standsNext ph w (execEngineConditionsWriteComplete answer s) := by
  have hdone : ∀ (q : Requester) ph t, State.inOrder ph w 2 t → (t.writeDone answer q id).stands ph w :=
    fun q ph t ht => (State.writeDone_inOrder ht answer q t.calm_refl).stands
  refine ⟨?_, ?_, ?_, ?_, ?_, ?_, ?_, ?_⟩ <;> refine State.completeWrite_next h hph fun k f hf ph t ht => ?_ <;>
    split at hf <;> cases hf
  · exact State.snapshotDone_stands ht answer
  · exact (State.orderResultDone_inOrder ht answer).stands
  · exact (State.orderHeadDone_inOrder ht answer).stands
  · exact hdone _ _ _ ht
  · exact (State.recordDone_inOrder ht answer _ _).stands
  · refine (State.writeDone_inOrder ht answer .report ?_).stands
    split
    · exact t.noticed_calm _
    · exact t.calm_refl
  · exact hdone _ _ _ ht
  · exact hdone _ _ _ ht

theorem execCompletionAfterReset_stands (h : s.stands ph w) (hph : ph ≠ .handling) :
    standsNext ph w (execCompletionAfterReset s) := by
  refine State.stands.next ?_
  split
  · rename_i horphan
    have hflight : s.port.inFlight ≠ none := fun hno => by simp [hno] at horphan
    exact State.completion_stands hph (State.within.inOrder (s := s) ⟨2, State.portEnd_meets h hflight⟩).stands
  · exact h

/-! ### One step -/

theorem exec_stands (h : s.stands ph w) (hph : ph ≠ .handling) (hq : ∀ c, w = some c → s.quietOffline) (i : Instr) :
    standsNext ph w (exec i s) := by
  cases i with
  | powerOn => exact (s.powerOn_stands hph).next
  | reset => exact (s.resetCommand_stands hph).next
  | go => exact execGo_stands h
  | halt => exact execHalt_stands h
  | page value => exact execPage_stands h value
  | channelNudge channels => exact (State.nudge_stands h channels false false).next
  | orderNudge => exact (State.nudge_stands h 0 true false).next
  | reportRoomNudge => exact (State.nudge_stands h 0 false true).next
  | strike value => exact execStrike_stands h value
  | attn value => exact execAttn_stands h value
  | registerWriteIgnored offset value => exact h.next
  | goConfigReadComplete answer => exact execGoConfigReadComplete_stands h hph hq answer
  | orderSlotReadComplete answer => exact execOrderSlotReadComplete_stands h hph answer
  | unknownOrderKind edition kind => exact (State.orderCommand_stands h hph _ edition).next
  | configure edition => exact (State.orderCommand_stands h hph _ edition).next
  | configureReadComplete answer => exact execConfigureReadComplete_stands h hph answer
  | start edition mask condition generators slots => exact (State.orderCommand_stands h hph _ edition).next
  | stop edition mask mode => exact (State.orderCommand_stands h hph _ edition).next
  | setRate edition generator action divisor => exact (State.orderCommand_stands h hph _ edition).next
  | setLevels edition mask flags gain offset idle => exact (State.orderCommand_stands h hph _ edition).next
  | triggerSetup edition line mode qualifier capture delay => exact (State.orderCommand_stands h hph _ edition).next
  | mirrorSetup edition channel source gain offset copy => exact (State.orderCommand_stands h hph _ edition).next
  | clearConditions edition mask flag => exact (State.orderCommand_stands h hph _ edition).next
  | snapshot edition address => exact (State.orderCommand_stands h hph _ edition).next
  | snapshotWriteComplete answer => exact (execWrites_stands h hph answer).1
  | orderResultWriteComplete answer => exact (execWrites_stands h hph answer).2.1
  | orderHeadWriteComplete answer => exact (execWrites_stands h hph answer).2.2.1
  | stepSlotReadComplete answer => exact execStepSlotReadComplete_stands h hph answer
  | segmentEntryReadComplete answer => exact execSegmentEntryReadComplete_stands h hph answer
  | streamRequestComplete answer => exact execStreamRequestComplete_stands h hph answer
  | bankLoadComplete answer => exact execBankLoadComplete_stands h hph answer
  | slotRetireWriteComplete answer => exact (execWrites_stands h hph answer).2.2.2.1
  | reportRecordWriteComplete answer => exact (execWrites_stands h hph answer).2.2.2.2.1
  | reportsWrittenWriteComplete answer => exact (execWrites_stands h hph answer).2.2.2.2.2.1
  | statusBlockWriteComplete answer => exact (execWrites_stands h hph answer).2.2.2.2.2.2.1
  | engineConditionsWriteComplete answer => exact (execWrites_stands h hph answer).2.2.2.2.2.2.2
  | reportsTakenReadComplete answer => exact execReportsTakenReadComplete_stands h hph answer
  | completionAfterReset => exact execCompletionAfterReset_stands h hph
  | expiry generator => exact (h.within (State.expire_within h generator)).next
  | passEnd channel => exact execPassEnd_stands h channel
  | stepBoundary channel => exact execStepBoundary_stands h channel
  | waitTimeout channel => exact execWaitTimeout_stands h channel
  | frontierPoll channel => exact execFrontierPoll_stands h channel
  | markerDelayElapsed channel marker => exact execMarkerDelayElapsed_stands h channel marker
  | markerWidthElapsed channel marker => exact execMarkerWidthElapsed_stands h channel marker
  | qualifiedEdge line => exact execQualifiedEdge_stands h line
  | triggerEvent line => exact execTriggerEvent_stands h line
  | triggerSample levels => exact (h.within (State.sample_within h levels)).next

/-- One step keeps the port and the watched channel in order. -/
theorem step_stands (h : s.stands ph w) (hph : ph ≠ .handling) (hq : ∀ c, w = some c → s.quietOffline) : standsNext ph w (step s) := by
  unfold step
  split
  · exact (h.within (State.tick_within h)).next
  · rename_i i rest _
    exact exec_stands (s := { s with pending := rest }) (h.calm (State.calm_of_eq rfl rfl rfl rfl)) hph hq i

end Stepping

/-- Settles O56: every operation of a step keeps a watched channel in order by a ledger of the purges it may still meet, and the port
well formed. -/
theorem portStaysWellFormed : Obligations.PortStaysWellFormed := by
  refine ⟨fun s t hwf hstep => ?_, fun s t hquiet hordered hstep => State.fetchesOrdered_of fun c => ?_⟩
  · have hstands : s.stands .between none := State.stands_of hwf fun _ hc => by cases hc
    exact (step_stands hstands nofun (fun _ hc => by cases hc) t hstep).elim fun _ h => h.phase
  · have hstands : s.stands .unwatched (some c) := State.stands_of trivial fun _ _ => ⟨hquiet, hordered⟩
    exact step_stands hstands nofun (fun _ _ => hquiet) t hstep

end Sys2Proof.Machine

namespace Sys2Proof.Machine

/-! ## A channel's operations raise no request of another channel (R156, R157) -/

section Others

variable {s : State} {c d : Chan} {ctx : StepContext}

theorem State.readSlot_fewer (s : State) (h : d ≠ c) (reread : Bool) : s.port.fewer c (s.readSlot d reread).port :=
  State.raise_fewer (s.modFetch d _) fun hk => h (Option.some.inj hk)

theorem State.readerTo_fewer (s : State) (h : d ≠ c) (slot : Nat) : s.port.fewer c (s.readerTo d slot).port := by
  unfold State.readerTo
  dsimp only
  split
  · exact State.readSlot_fewer (s.modFetch d fun f => { f with cursor := slot }) h false
  · exact Port.fewer_refl c _

theorem State.readerOn_fewer (s : State) (h : d ≠ c) (successor : Option Nat) : s.port.fewer c (s.readerOn d successor).port := by
  cases successor with
  | some slot => exact s.readerTo_fewer h slot
  | none => exact Port.fewer_refl c _

theorem State.feed_fewer (s : State) (h : d ≠ c) : s.port.fewer c (s.feed d).port := by
  unfold State.feed
  dsimp only
  split
  · split
    · exact Port.fewer_refl c _
    · split
      · exact State.raise_fewer (s.modFetch d _) fun hk => h (Option.some.inj hk)
      · split
        · exact State.raise_fewer ((s.modFetch d _).modPool d _) fun hk => h (Option.some.inj hk)
        · exact Port.fewer_refl c _
  · exact Port.fewer_refl c _

theorem State.placeResident_fewer (s : State) (h : d ≠ c) (ctx : StepContext) (id : BankId) :
    s.port.fewer c (s.placeResident d ctx id).port := by
  have hfed := fun (s : State) (ctx : StepContext) => State.feed_fewer (s.modFetch d (·.joined ctx)) h
  unfold State.placeResident
  rw [State.placeContext_eq, State.readsOn_eq]
  split
  · exact hfed (s.modPool d _) _
  · exact (hfed (s.modPool d _) _).trans (State.readerOn_fewer _ h _)

theorem State.releaseBank_fewer (s : State) (h : d ≠ c) (occ : Nat) : s.port.fewer c (s.releaseBank d occ).port := by
  have hreleased : s.port.fewer c (s.released d occ).port := by
    unfold State.released
    refine Port.fewer.trans ?_ (State.feed_fewer _ h)
    exact ⟨fun _ hr _ => (List.mem_filter.1 hr).1, fun _ hr _ => Or.inl hr,
      fun _ _ => (List.Sublist.append (List.Sublist.refl _) List.filter_sublist).countP_le⟩
  rw [State.releaseBank_eq]
  split
  · exact hreleased.trans (State.placeResident_fewer _ h _ _)
  · exact hreleased

theorem State.retiredPort_fewer (s : State) (h : d ≠ c) (ctx : StepContext) : s.port.fewer c (s.retiredPort d ctx) := by
  have hwrite := (s.retireWrite_calm d ctx).port c
  unfold State.retiredPort State.dropHead
  dsimp only
  split
  · exact hwrite.trans (State.readSlot_fewer ((s.retireWrite d ctx).modFetch d fun f => f.withoutHead ctx) h false)
  · exact hwrite

theorem State.retiredBy_fewer (s : State) (h : d ≠ c) (ctx : StepContext) : s.port.fewer c (s.retiredBy d ctx).port := by
  refine (s.retiredPort_fewer h ctx).trans ?_
  unfold State.retiredBy
  dsimp only
  split
  · exact State.releaseBank_fewer (s.put d (retiredChannel (s.chans[d]'d.isLt) ctx (s.chans[d]'d.isLt).play.offset) (s.retiredPort d ctx)) h ctx.occ
  · exact Port.fewer_refl c _

theorem Port.purgedOf_fewer (p : Port) (c d : Chan) : p.fewer c (p.purgedOf d) := Port.without_fewer c p fun t => decide (t.chan? = some d)

end Others

/-! ## What the stops of other channels do to a channel (R83, R88, R93) -/

/-- The channel stands but for its membership, and but for its lane and markers where it is a mirror (R93, R105, R144). -/
structure Channel.stood (ch ch' : Channel) : Prop where
  play : ∃ g, ch'.play = { ch.play with group := g }
  fetch : ch'.fetch = ch.fetch
  pool : ch'.pool = ch.pool
  level : ch.play.state ≠ .mirroring → ch'.level = ch.level

/-- The channel has stopped between expiries, `retired` steps counted with `last` the last (R88). -/
structure Channel.stoppedBy (ch ch' : Channel) (reason : StopReason) (retired : Nat) (last : Option Nat) : Prop where
  state : ch'.play.state = .idle
  pending : ch'.play.pendingStop = .none
  wait : ch'.play.wait = .none
  reason : ch'.play.lastStop = reason
  window : ch'.fetch.window = []
  reader : ch'.fetch.reader = .off
  pool : ch'.pool = emptyShare
  lane : ch'.level.lane = ch.level.idle
  retired : ch'.play.retired = retired
  last : ch'.play.lastRetired = last

/-- No fetch or sample request of the channel waits (R160). -/
def Port.quietOf (p : Port) (c : Chan) : Prop := ∀ r ∈ p.waiting, r.kind.chan? ≠ some c

/-- From `s` to `t` other channels have stopped: channel `c` stands, or it was WAITING for a leader that stopped, and has stopped with
LEADER_GONE. -/
structure State.bystands (s t : State) (c : Chan) : Prop where
  chan : (s.chans[c]'c.isLt).stood (t.chans[c]'c.isLt) ∨ (s.chans[c]'c.isLt).play.state = .waiting ∧ (s.chans[c]'c.isLt).play.wait = .leader
    ∧ (s.chans[c]'c.isLt).stoppedBy (t.chans[c]'c.isLt) .leaderGone (s.chans[c]'c.isLt).play.retired (s.chans[c]'c.isLt).play.lastRetired ∧ t.port.quietOf c
  rest : s.sameRest t
  grows : s.port.grows (fun k => k.chan? = none) t.port
  fewer : s.port.fewer c t.port

section Bystanders

variable {s t u : State} {c d : Chan} {ch ch' ch'' : Channel} {e : Ev} {p : Port} {reason : StopReason} {n : Nat} {last : Option Nat}

theorem Channel.stood_refl (ch : Channel) : ch.stood ch := ⟨⟨_, rfl⟩, rfl, rfl, fun _ => rfl⟩

theorem Channel.stood.state (h : ch.stood ch') : ch'.play.state = ch.play.state := by
  obtain ⟨g, hg⟩ := h.play
  rw [hg]

theorem Channel.stood.wait (h : ch.stood ch') : ch'.play.wait = ch.play.wait := by
  obtain ⟨g, hg⟩ := h.play
  rw [hg]

theorem Channel.stood.trans (h : ch.stood ch') (k : ch'.stood ch'') : ch.stood ch'' := by
  obtain ⟨g, hg⟩ := h.play
  obtain ⟨g', hg'⟩ := k.play
  refine ⟨⟨g', by rw [hg', hg]⟩, k.fetch.trans h.fetch, k.pool.trans h.pool, fun hm => (k.level ?_).trans (h.level hm)⟩
  rwa [h.state]

/-- A channel that stands and then stops. -/
theorem Channel.stood.stoppedBy (h : ch.stood ch') (hm : ch.play.state ≠ .mirroring) (k : ch'.stoppedBy ch'' reason n last) :
    ch.stoppedBy ch'' reason n last :=
  { k with lane := by rw [k.lane, h.level hm] }

/-- A channel that has stopped and then stands. -/
theorem Channel.stoppedBy.stood (h : ch.stoppedBy ch' reason n last) (k : ch'.stood ch'') : ch.stoppedBy ch'' reason n last := by
  obtain ⟨⟨g, hg⟩, hfetch, hpool, hlevel⟩ := k
  have hlevel := hlevel (by rw [h.state]; decide)
  constructor <;> simp only [hg, hfetch, hpool, hlevel, h.state, h.pending, h.wait, h.reason, h.window, h.reader, h.pool, h.lane,
    h.retired, h.last]

theorem Port.quietOf.fewer {q : Port} (h : p.quietOf c) (g : p.fewer c q) : q.quietOf c := fun r hr hc => h r (g.waiting r hr hc) hc

theorem State.sameRest_refl (s : State) : s.sameRest s := ⟨rfl, rfl, rfl, rfl, rfl, rfl, rfl, rfl⟩

theorem State.bystands_refl (s : State) (c : Chan) : s.bystands s c :=
  ⟨Or.inl (Channel.stood_refl _), s.sameRest_refl, Port.grows_refl _ _, Port.fewer_refl c _⟩

theorem State.bystands.trans (h : s.bystands t c) (g : t.bystands u c) : s.bystands u c := by
  refine ⟨?_, h.rest.trans g.rest, h.grows.trans g.grows, h.fewer.trans g.fewer⟩
  rcases h.chan with h' | ⟨hs, hw, hstop, hquiet⟩
  · refine g.chan.imp h'.trans fun ⟨hs, hw, hstop, hquiet⟩ => ?_
    have hs' : (s.chans[c]'c.isLt).play.state = .waiting := h'.state.symm.trans hs
    obtain ⟨x, hx⟩ := h'.play
    refine ⟨hs', h'.wait.symm.trans hw, ?_, hquiet⟩
    have := h'.stoppedBy (by rw [hs']; decide) hstop
    rwa [hx] at this
  · refine Or.inr ⟨hs, hw, ?_, hquiet.fewer g.fewer⟩
    rcases g.chan with g' | ⟨hs', -⟩
    · exact hstop.stood g'
    · cases hstop.state.symm.trans hs'

theorem State.bystands.quiet (h : s.bystands t c) (hq : s.port.quietOf c) : t.port.quietOf c := hq.fewer h.fewer

/-! ### Changes of another channel -/

theorem State.put_bystands (s : State) (ch : Channel) (h : d ≠ c) (hg : s.port.grows (fun k => k.chan? = none) p)
    (hf : s.port.fewer c p) : s.bystands (s.put d ch p) c := by
  refine ⟨Or.inl ?_, (State.put_sameButChannels ..).sameRest, hg, hf⟩
  rw [Fin.getElem_fin, Fin.getElem_fin, State.put_other _ _ _ h]
  exact Channel.stood_refl _

theorem State.put_level_bystands (s : State) (ch : Channel) (h : d ≠ c) : s.bystands (s.put d ch s.port) c :=
  s.put_bystands ch h (Port.grows_refl _ _) (Port.fewer_refl c _)

/-- A change of memberships alone. -/
theorem State.modGroup_bystands (s : State) (d : Chan) (f : Play → Play) (hf : ∀ p, ∃ g, f p = { p with group := g }) :
    s.bystands (s.modPlay d f) c := by
  refine ⟨Or.inl ?_, (State.put_sameButChannels ..).sameRest, Port.grows_refl _ _, Port.fewer_refl c _⟩
  rw [Fin.getElem_fin, Fin.getElem_fin, State.modPlay_put, State.put_get]
  split
  · rename_i hd
    subst hd
    obtain ⟨g, hg⟩ := hf (s.chans[d]'d.isLt).play
    exact ⟨⟨g, hg⟩, rfl, rfl, fun _ => rfl⟩
  · exact Channel.stood_refl _

theorem mirrorTurned_level (x : Bool) (source m : Channel) : ∃ l, mirrorTurned x source m = { m with level := l } := by
  unfold mirrorTurned mirrorAtIdle mirrorLines
  split <;> exact ⟨_, rfl⟩

/-- The mirrors of a channel turn to their idle level (R105). -/
theorem State.mirrorsMoved_bystands (s : State) (d : Chan) (x : Bool) (source : Channel) :
    s.bystands (s.mirrorsMoved d (mirrorTurned x source)) c := by
  refine ⟨Or.inl ?_, (State.mirrorsMoved_sameButChannels ..).sameRest, Port.grows_refl _ _, Port.fewer_refl c _⟩
  rw [Fin.getElem_fin, Fin.getElem_fin, State.mirrorsMoved_get]
  split
  · rename_i hm
    obtain ⟨l, hl⟩ := mirrorTurned_level x source (s.chans[c]'c.isLt)
    rw [Fin.getElem_fin] at hl
    rw [hl]
    exact ⟨⟨_, rfl⟩, rfl, rfl, fun hno => (hno (mem_mirrorsOf.1 hm).1).elim⟩
  · exact Channel.stood_refl _

theorem Ev.forEach_bystands {xs : List Chan} {f : Ev → Chan → Ev} (h : ∀ (e : Ev), ∀ d ∈ xs, e.st.bystands (f e d).st c) :
    e.st.bystands (e.forEach xs f).st c :=
  List.foldlRecOn (motive := fun e' : Ev => e.st.bystands e'.st c) xs f (e.st.bystands_refl c) fun e' he d hd => he.trans (h e' d hd)

theorem Port.purgedOf_grows_none (p : Port) (d : Chan) : p.grows (fun k => k.chan? = none) (p.purgedOf d) :=
  Port.purgedOf_grows (fun k hk => by rw [hk]; exact nofun) p

theorem Ev.stopFrom_bystands (e : Ev) (h : d ≠ c) (reason : StopReason) (x : Bool) : e.st.bystands (e.stopFrom d reason x).st c := by
  rw [Ev.stopFrom_act]
  exact (State.mirrorsMoved_bystands e.st d x _).trans
    (State.put_bystands _ _ h (Port.purgedOf_grows_none _ d) (Port.purgedOf_fewer _ c d))

theorem Ev.closeEpisode_bystands (e : Ev) (h : d ≠ c) : e.st.bystands (e.closeEpisode d).st c := by
  rw [Ev.closeEpisode_act]
  exact e.st.put_level_bystands _ h

theorem Ev.retirePlaying_bystands (e : Ev) (h : d ≠ c) (ctx : StepContext) : e.st.bystands (e.retirePlaying d ctx).st c := by
  rw [Ev.retirePlaying_act]
  exact e.st.put_bystands _ h ((e.st.retiredBy_grows d ctx).mono fun k hk => by rw [hk]; exact nofun) (e.st.retiredBy_fewer h ctx)

/-- A stop retires the playing step first where it is a CUT of a RUNNING channel, and no step otherwise (R84). -/
theorem Ev.stopCore_cases (e : Ev) (c : Chan) (reason : StopReason) (x : Bool) :
    (∃ ctx, (e.st.chans[c]'c.isLt).plays ctx ∧ reason = .cut
        ∧ e.stopCore c reason x = ((e.closeEpisode c).retirePlaying c ctx).stopFrom c reason x)
      ∨ (∀ ctx, (e.st.chans[c]'c.isLt).plays ctx → reason ≠ .cut) ∧ e.stopCore c reason x = (e.closeEpisode c).stopFrom c reason x := by
  by_cases hcut : reason = .cut ∧ ∃ ctx, (e.st.chans[c]'c.isLt).plays ctx
  · obtain ⟨rfl, ctx, hplays⟩ := hcut
    exact Or.inl ⟨ctx, hplays, rfl, Ev.stopCore_cut e c x hplays⟩
  · have hno : ∀ ctx, (e.st.chans[c]'c.isLt).plays ctx → reason ≠ .cut := fun ctx h hr => hcut ⟨hr, ctx, h⟩
    refine Or.inr ⟨hno, Ev.stopCore_eq e c reason x ?_⟩
    by_cases hr : reason = .cut
    · by_cases hs : (e.st.chans[c]'c.isLt).play.state = .running
      · refine Or.inr (Or.inr (by_contra fun hstep => ?_))
        obtain ⟨ctx, hstep⟩ := Option.ne_none_iff_exists'.1 hstep
        exact hno ctx ⟨hs, hstep⟩ hr
      · exact Or.inl hs
    · exact Or.inr (Or.inl hr)

theorem Ev.stopCore_bystands (e : Ev) (h : d ≠ c) (reason : StopReason) (x : Bool) : e.st.bystands (e.stopCore d reason x).st c := by
  have hclosed := e.closeEpisode_bystands h
  rcases e.stopCore_cases d reason x with ⟨ctx, -, -, heq⟩ | ⟨-, heq⟩
  · rw [heq]
    exact (hclosed.trans (Ev.retirePlaying_bystands _ h ctx)).trans (Ev.stopFrom_bystands _ h reason x)
  · rw [heq]
    exact hclosed.trans (Ev.stopFrom_bystands _ h reason x)

end Bystanders

end Sys2Proof.Machine

namespace Sys2Proof.Machine

/-! ## A channel's own stop, and the losses of leaders (R84, R88, R93, R144) -/

/-- From `s` to `t` channel `c` has stopped between expiries: a RUNNING one's playing step is retired with its retire write, and no
other's (R84, R88, R160). -/
structure State.stops (s t : State) (c : Chan) (reason : StopReason) : Prop where
  chan : ∃ n last, (s.chans[c]'c.isLt).stoppedBy (t.chans[c]'c.isLt) reason n last
    ∧ ((s.chans[c]'c.isLt).play.state ≠ .running → n = (s.chans[c]'c.isLt).play.retired ∧ last = (s.chans[c]'c.isLt).play.lastRetired)
    ∧ ∀ ctx : StepContext, (s.chans[c]'c.isLt).plays ctx → n = ((s.chans[c]'c.isLt).play.retired + 1) % 4294967296 ∧ last = some ctx.slot
  quiet : t.port.quietOf c
  write : ∀ ctx : StepContext, (s.chans[c]'c.isLt).plays ctx → ctx.body.consume = true → t.port.holds (s.retireOf c ctx)
  rest : s.sameRest t
  grows : s.port.grows (fun k => k.chan? = none) t.port

section OwnStop

variable {s t u : State} {c d : Chan} {e : Ev} {reason : StopReason} {n : Nat} {last : Option Nat}

theorem Port.purgedOf_quiet (p : Port) (c : Chan) : (p.purgedOf c).quietOf c := fun r hr => by
  simpa using (List.mem_filter.1 hr).2

theorem stoppedChannel_stoppedBy (ch closed : Channel) (reason : StopReason) (h : closed.level.idle = ch.level.idle) :
    ch.stoppedBy ((stoppedChannel closed reason).turned false) reason closed.play.retired closed.play.lastRetired :=
  ⟨rfl, rfl, rfl, rfl, rfl, rfl, rfl, h, rfl, rfl⟩

theorem State.stops.trans (h : s.stops t c reason) (g : t.bystands u c) : s.stops u c reason := by
  obtain ⟨n, last, hstop, hkept, hretired⟩ := h.chan
  refine ⟨⟨n, last, ?_, hkept, hretired⟩, g.quiet h.quiet, fun ctx hp hc => g.grows.holds rfl (h.write ctx hp hc),
    h.rest.trans g.rest, h.grows.trans g.grows⟩
  rcases g.chan with g' | ⟨hs, -⟩
  · exact hstop.stood g'
  · cases hstop.state.symm.trans hs

theorem Ev.stopFrom_st (e : Ev) (c : Chan) (reason : StopReason) :
    (e.stopFrom c reason false).st.chans[c]'c.isLt = (stoppedChannel (e.st.chans[c]'c.isLt) reason).turned false
      ∧ (e.stopFrom c reason false).st.port = e.st.port.purgedOf c ∧ e.st.sameRest (e.stopFrom c reason false).st := by
  rw [Ev.stopFrom_act]
  exact ⟨State.put_chan .., rfl,
    ((State.mirrorsMoved_sameButChannels ..).sameRest).trans (State.put_sameButChannels ..).sameRest⟩

/-- The end of a stop of a channel whose episode is ended and whose cut step, if any, is retired. -/
theorem Ev.stopFrom_stops {e' : Ev} (hidle : (e'.st.chans[c]'c.isLt).level.idle = (e.st.chans[c]'c.isLt).level.idle)
    (hkept : (e.st.chans[c]'c.isLt).play.state ≠ .running → (e'.st.chans[c]'c.isLt).play.retired = (e.st.chans[c]'c.isLt).play.retired
      ∧ (e'.st.chans[c]'c.isLt).play.lastRetired = (e.st.chans[c]'c.isLt).play.lastRetired)
    (hretired : ∀ ctx : StepContext, (e.st.chans[c]'c.isLt).plays ctx →
      (e'.st.chans[c]'c.isLt).play.retired = ((e.st.chans[c]'c.isLt).play.retired + 1) % 4294967296
      ∧ (e'.st.chans[c]'c.isLt).play.lastRetired = some ctx.slot
      ∧ (ctx.body.consume = true → e'.st.port.holds (e.st.retireOf c ctx)))
    (hrest : e.st.sameRest e'.st) (hgrows : e.st.port.grows (fun k => k.chan? = none) e'.st.port) (reason : StopReason) :
    e.st.stops (e'.stopFrom c reason false).st c reason := by
  obtain ⟨hchan, hport, hsame⟩ := e'.stopFrom_st c reason
  have hpurged := Port.purgedOf_grows_none e'.st.port c
  refine ⟨⟨_, _, hchan ▸ stoppedChannel_stoppedBy _ _ reason hidle, hkept, fun ctx hp => ?_⟩, hport ▸ Port.purgedOf_quiet _ c,
    fun ctx hp hc => ?_, hrest.trans hsame, hport ▸ hgrows.trans hpurged⟩
  · obtain ⟨h, h', -⟩ := hretired ctx hp
    exact ⟨h, h'⟩
  · rw [hport]
    exact hpurged.holds rfl ((hretired ctx hp).2.2 hc)

theorem Ev.closeEpisode_chan (e : Ev) (c : Chan) : (e.closeEpisode c).st.chans[c]'c.isLt = ((e.st.chans[c]'c.isLt).closing c).1 := by
  rw [Ev.closeEpisode_act]
  exact State.put_chan ..

/-- A stop outside an expiry; a playing step is only left by a CUT (R84, R88). -/
theorem Ev.stopCore_stops (e : Ev) (c : Chan) (reason : StopReason)
    (hcut : ∀ ctx : StepContext, (e.st.chans[c]'c.isLt).plays ctx → reason = .cut) : e.st.stops (e.stopCore c reason false).st c reason := by
  obtain ⟨held, episode, hplay⟩ := (e.st.chans[c]'c.isLt).closing_play c
  have hlevel := (e.st.chans[c]'c.isLt).closing_level c
  have hclosed := e.closeEpisode_chan c
  have hrest : e.st.sameRest (e.closeEpisode c).st := by
    rw [Ev.closeEpisode_act]
    exact (State.put_sameButChannels ..).sameRest
  have hport : (e.closeEpisode c).st.port = e.st.port := by
    rw [Ev.closeEpisode_act]
    rfl
  rcases e.stopCore_cases c reason false with ⟨ctx, hplays, -, heq⟩ | ⟨hno, heq⟩
  · rw [heq]
    have hchan : ((e.closeEpisode c).retirePlaying c ctx).st.chans[c]'c.isLt = ((e.closeEpisode c).st.retiredBy c ctx).chans[c]'c.isLt := by
      rw [Ev.retirePlaying_act]
      exact State.put_chan ..
    have hwas := (e.closeEpisode c).st.retiredBy_chan c ctx
    rw [← Fin.getElem_fin, ← Fin.getElem_fin, hclosed] at hwas
    have hgrows := (e.closeEpisode c).st.retiredBy_grows c ctx
    have hholds := fun h => (e.closeEpisode c).st.retiredBy_holds c (ctx := ctx) h
    refine Ev.stopFrom_stops ?_ (fun hs => (hs hplays.1).elim) (fun ctx' hp => ?_) ?_ ?_ reason
    · rw [hchan, hwas]
      show ((e.st.chans[c]'c.isLt).closing c).1.level.idle = _
      rw [hlevel]
    · obtain rfl : ctx' = ctx := Option.some.inj (hp.2.symm.trans hplays.2)
      rw [hchan, hwas]
      refine ⟨?_, rfl, fun hc => ?_⟩
      · show (((e.st.chans[c]'c.isLt).closing c).1.play.retired + 1) % _ = _
        rw [hplay]
      · rw [Ev.retirePlaying_act]
        have := hholds hc
        rwa [State.retireOf, State.slotAddr, State.settings, hrest.1] at this
    · rw [Ev.retirePlaying_act]
      exact hrest.trans (State.put_sameButChannels ..).sameRest
    · rw [Ev.retirePlaying_act]
      exact hport ▸ hgrows.mono fun k hk => by rw [hk]; exact nofun
  · rw [heq]
    refine Ev.stopFrom_stops ?_ (fun hs => ?_) (fun ctx hp => (hno ctx hp (hcut ctx hp)).elim) hrest (hport ▸ Port.grows_refl _ _) reason
    · rw [hclosed, hlevel]
    · rw [hclosed, hplay]
      exact ⟨rfl, rfl⟩

/-- The stop of a channel that waits for its leader, as a bystander of the leader's stop. -/
theorem State.stops.bystands (h : s.stops t c .leaderGone) (hs : (s.chans[c]'c.isLt).play.state = .waiting) (hw : (s.chans[c]'c.isLt).play.wait = .leader)
    (hf : s.port.fewer c t.port) : s.bystands t c := by
  obtain ⟨n, last, hstop, hkept, -⟩ := h.chan
  obtain ⟨rfl, rfl⟩ := hkept (by rw [hs]; decide)
  exact ⟨Or.inr ⟨hs, hw, hstop, h.quiet⟩, h.rest, h.grows, hf⟩

theorem Ev.loseLeader_bystands (e : Ev) (leader : Chan) : e.st.bystands (e.loseLeader leader false 0).st c := by
  refine Ev.forEach_bystands fun e f _ => ?_
  dsimp only
  split
  · have hlost : e.st.bystands (e.modPlay f fun p => p.modGroup fun g => { g with leaderLost := true }).st c :=
      State.modGroup_bystands e.st f _ fun p => ⟨_, rfl⟩
    split
    · rename_i hwait
      obtain ⟨hs, hw⟩ := hwait
      refine hlost.trans ?_
      by_cases hfc : f = c
      · subst hfc
        refine State.stops.bystands (Ev.stopCore_stops _ f .leaderGone fun ctx hp => ?_) hs hw ?_
        · cases hs.symm.trans hp.1
        · rw [Ev.stopCore_eq _ _ _ _ (Or.inr (Or.inl (by decide))), Ev.closeEpisode_act, Bool.false_and, (Ev.stopFrom_st _ _ _).2.1]
          exact Port.purgedOf_fewer _ f f
      · exact Ev.stopCore_bystands _ hfc .leaderGone _
    · exact hlost
  · exact e.st.bystands_refl c

theorem Ev.leaveArmedGroup_bystands (e : Ev) (d : Chan) : e.st.bystands (e.leaveArmedGroup d).st c := by
  unfold Ev.leaveArmedGroup
  split
  · exact e.st.bystands_refl c
  · exact State.bystands.trans (Ev.forEach_bystands fun e f _ => State.modGroup_bystands e.st f _ fun p => ⟨_, rfl⟩)
      (State.modGroup_bystands _ d _ fun p => ⟨_, rfl⟩)

/-- Action 6 of a stop: its group, or its followers (R93, R144). -/
theorem Ev.groupAfter_bystands (e : Ev) (d : Chan) (wasArmed : Bool) : e.st.bystands (e.groupAfter d wasArmed).st c := by
  unfold Ev.groupAfter
  split
  · exact e.leaveArmedGroup_bystands d
  · split
    · split
      · exact e.st.bystands_refl c
      · exact e.loseLeader_bystands d
    · exact e.st.bystands_refl c

end OwnStop

end Sys2Proof.Machine

namespace Sys2Proof.Machine

/-! ## A STOP reaches the channels of its mask (R83) -/

section StopReaches

variable {s t u : State} {c d : Chan} {e : Ev} {reason : StopReason} {m : StopMode} {mask mode : Byte}

/-- A STOP that reaches a channel stops it, is left pending, or leaves it (R83). -/
theorem Ev.stopReaches_cases (e : Ev) (m : StopMode) (c : Chan) :
    (∃ reason, (∀ ctx : StepContext, (e.st.chans[c]'c.isLt).plays ctx → reason = .cut)
        ∧ e.stopReaches m c = e.stopChannel c reason false)
      ∨ e.stopReaches m c = e.modPlay c (fun p => { p with pendingStop := p.pendingStop.join m })
      ∨ e.stopReaches m c = e := by
  have hstopped : ∀ reason, (e.st.chans[c]'c.isLt).play.state ≠ .running →
      ∀ ctx : StepContext, (e.st.chans[c]'c.isLt).plays ctx → reason = StopReason.cut := fun _ hs ctx hp => (hs hp.1).elim
  unfold Ev.stopReaches
  simp only [Ev.chan_eq, Fin.getElem_fin] at hstopped ⊢
  split
  case h_1 | h_2 | h_3 => exact Or.inr (Or.inr rfl)
  case h_4 hs => exact Or.inl ⟨.cut, fun _ _ => rfl, rfl⟩
  case h_5 hs => exact Or.inl ⟨.cut, fun _ _ => rfl, rfl⟩
  case h_6 | h_8 => exact Or.inr (Or.inl rfl)
  case h_7 hs _ | h_9 hs _ _ => exact Or.inl ⟨_, hstopped _ (by rw [hs]; decide), rfl⟩
  case h_10 hs => exact Or.inl ⟨_, hstopped _ (by rw [hs]; decide), rfl⟩

theorem Ev.stopChannel_stops (e : Ev) (c : Chan) (reason : StopReason)
    (hcut : ∀ ctx : StepContext, (e.st.chans[c]'c.isLt).plays ctx → reason = .cut) :
    e.st.stops (e.stopChannel c reason false).st c reason :=
  (e.stopCore_stops c reason hcut).trans (Ev.groupAfter_bystands _ c _)

/-- A STOP that reaches another channel. -/
theorem Ev.stopReaches_bystands (e : Ev) (m : StopMode) (h : d ≠ c) : e.st.bystands (e.stopReaches m d).st c := by
  rcases e.stopReaches_cases m d with ⟨reason, -, heq⟩ | heq | heq <;> rw [heq]
  · exact (Ev.stopCore_bystands e h reason false).trans (Ev.groupAfter_bystands _ d _)
  · exact e.st.put_level_bystands _ h
  · exact e.st.bystands_refl c

/-- What no STOP changes but the channels and the port. -/
theorem Ev.stopReaches_frame (e : Ev) (m : StopMode) (c : Chan) :
    e.st.sameRest (e.stopReaches m c).st ∧ e.st.port.grows (fun k => k.chan? = none) (e.stopReaches m c).st.port := by
  rcases e.stopReaches_cases m c with ⟨reason, hcut, heq⟩ | heq | heq <;> rw [heq]
  · have := e.stopChannel_stops c reason hcut
    exact ⟨this.rest, this.grows⟩
  · exact ⟨(State.put_sameButChannels ..).sameRest, Port.grows_refl _ _⟩
  · exact ⟨e.st.sameRest_refl, Port.grows_refl _ _⟩

theorem Ev.stopAll_frame (e : Ev) (m : StopMode) (xs : List Chan) : e.st.sameRest (e.forEach xs fun e c => e.stopReaches m c).st
    ∧ e.st.port.grows (fun k => k.chan? = none) (e.forEach xs fun e c => e.stopReaches m c).st.port :=
  List.foldlRecOn (motive := fun e' : Ev => e.st.sameRest e'.st ∧ e.st.port.grows (fun k => k.chan? = none) e'.st.port) xs _
    ⟨e.st.sameRest_refl, Port.grows_refl _ _⟩ fun e' ⟨hrest, hgrows⟩ d _ =>
      ⟨hrest.trans (e'.stopReaches_frame m d).1, hgrows.trans (e'.stopReaches_frame m d).2⟩

/-- A channel outside the mask (R83). -/
theorem Ev.stopAll_outside (e : Ev) (m : StopMode) (h : mask.getLsbD c.val = false) :
    e.st.bystands (e.forEach (members mask) fun e c => e.stopReaches m c).st c :=
  Ev.forEach_bystands fun e d hd => e.stopReaches_bystands m (by
    rintro rfl
    rw [mem_members, h] at hd
    cases hd)

/-- A channel of the mask has its own turn between the others' (R83). -/
theorem Ev.stopAll_inside (e : Ev) (m : StopMode) (h : mask.getLsbD c.val = true) :
    ∃ e' : Ev, e.st.bystands e'.st c
      ∧ (e'.stopReaches m c).st.bystands (e.forEach (members mask) fun e c => e.stopReaches m c).st c := by
  obtain ⟨before, after, hsplit⟩ := List.append_of_mem (mem_members.2 h)
  have hnodup := members_nodup mask
  rw [hsplit] at hnodup ⊢
  obtain ⟨-, hrest, hapart⟩ := List.nodup_append.1 hnodup
  obtain ⟨hafter, -⟩ := List.nodup_cons.1 hrest
  refine ⟨e.forEach before fun e c => e.stopReaches m c, Ev.forEach_bystands fun e d hd =>
    e.stopReaches_bystands m fun hdc => hapart d hd c (List.mem_cons_self ..) hdc, ?_⟩
  have hfold : e.forEach (before ++ c :: after) (fun e c => e.stopReaches m c)
      = Ev.forEach ((e.forEach before fun e c => e.stopReaches m c).stopReaches m c) after fun e c => e.stopReaches m c := by
    simp only [Ev.forEach, List.foldl_append, List.foldl_cons]
  rw [hfold]
  exact Ev.forEach_bystands fun e d hd => e.stopReaches_bystands m fun hdc => hafter (hdc ▸ hd)

theorem stopModeOf_eq (h : mode.toNat ≤ 2) : ∃ m, stopModeOf mode = some m := by
  rcases (by omega : mode.toNat = 0 ∨ mode.toNat = 1 ∨ mode.toNat = 2) with h | h | h
  · exact ⟨.cut, by rw [stopModeOf, h]; rfl⟩
  · exact ⟨.stepEnd, by rw [stopModeOf, h]; rfl⟩
  · exact ⟨.drain, by rw [stopModeOf, h]; rfl⟩

theorem stopModeOf_iff (hm : stopModeOf mode = some m) :
    (mode = 0 ↔ m = .cut) ∧ (mode = 1 ↔ m = .stepEnd) ∧ (mode = 2 ↔ m = .drain) := by
  have hnum : ∀ n : Nat, n < 256 → (mode.toNat = n ↔ mode = BitVec.ofNat 8 n) := fun n hn => by
    rw [← BitVec.toNat_inj, BitVec.toNat_ofNat, Nat.mod_eq_of_lt hn]
  unfold stopModeOf at hm
  split at hm
  · rename_i h
    cases hm
    rw [hnum 0 (by decide)] at h
    subst h
    decide
  · rename_i h
    cases hm
    rw [hnum 1 (by decide)] at h
    subst h
    decide
  · rename_i h
    cases hm
    rw [hnum 2 (by decide)] at h
    subst h
    decide
  · cases hm

/-- A STOP that stops a channel at once (R83, R87). -/
theorem Ev.stopReaches_stops (hm : stopModeOf mode = some m) (h : (e.st.chans[c]'c.isLt).stopsAtOnce mode reason) :
    e.stopReaches m c = e.stopChannel c reason false := by
  obtain ⟨hcut, hstep, hdrain⟩ := stopModeOf_iff hm
  unfold Channel.stopsAtOnce at h
  rw [hcut, hstep, hdrain] at h
  unfold Ev.stopReaches
  rw [Fin.getElem_fin] at h
  simp only [Ev.chan_eq]
  rcases h with ⟨hs, rfl⟩ | ⟨hs, rfl, rfl⟩ | ⟨hs | hs, ⟨rfl, rfl⟩ | ⟨rfl, rfl⟩ | ⟨rfl, hw, rfl⟩⟩
  · rw [hs]
  · rw [hs]
  · rw [hs]
    cases (e.st.chans[c.val]'c.isLt).play.wait <;> rfl
  · rw [hs]
    cases (e.st.chans[c.val]'c.isLt).play.wait <;> rfl
  · obtain ⟨late, hw⟩ := hw.resolve_left (by rw [hs]; decide)
    rw [hs, hw]
    rfl
  · rw [hs]
    rfl
  · rw [hs]
    rfl
  · rw [hs]
    rfl

/-- A STOP that is left pending (R83). -/
theorem Ev.stopReaches_pends (hm : stopModeOf mode = some m)
    (h : (e.st.chans[c]'c.isLt).play.state = .running ∧ mode ≠ 0 ∨ (e.st.chans[c]'c.isLt).play.inEntryWait = true ∧ mode = 2) :
    e.stopReaches m c = e.modPlay c fun p => { p with pendingStop := pendingAfter p.pendingStop mode } := by
  obtain ⟨hcut, hstep, hdrain⟩ := stopModeOf_iff hm
  have hpend : mode ≠ 0 → (fun p : Play => { p with pendingStop := p.pendingStop.join m })
      = fun p => { p with pendingStop := pendingAfter p.pendingStop mode } := by
    intro hno
    funext p
    congr 1
    unfold pendingAfter
    cases m with
    | cut => exact (hno (hcut.2 rfl)).elim
    | stepEnd => rw [if_pos (hstep.2 rfl)]; cases p.pendingStop <;> rfl
    | drain => rw [if_neg (by rw [hdrain.2 rfl]; decide)]; cases p.pendingStop <;> rfl
  unfold Ev.stopReaches
  rw [Fin.getElem_fin] at h
  simp only [Ev.chan_eq]
  rcases h with ⟨hs, hmode⟩ | ⟨hwait, hmode⟩
  · rw [← hpend hmode, hs]
    cases m with
    | cut => exact (hmode (hcut.2 rfl)).elim
    | stepEnd => rfl
    | drain => rfl
  · rw [← hpend (by rw [hmode]; decide), Play.inEntryWait_state hwait, hdrain.1 hmode]
    unfold Play.inEntryWait at hwait
    split at hwait
    · rename_i hw
      rw [hw]
    · rename_i hw
      rw [hw]
    · cases hwait

/-- A STOP leaves a channel that does not play (R83). -/
theorem Ev.stopReaches_stands (h : (e.st.chans[c]'c.isLt).play.state.counts = false) : e.stopReaches m c = e := by
  unfold Ev.stopReaches
  simp only [Ev.chan_eq]
  rw [Fin.getElem_fin] at h
  split
  case h_1 | h_2 | h_3 => rfl
  all_goals exact absurd h (by simp [*, ChannelState.counts])

end StopReaches

end Sys2Proof.Machine

namespace Sys2Proof.Machine

/-! ## A STOP in every mode and for every mask (R83, R146) -/

section StopAll

variable {s t u : State} {c d : Chan} {e : Ev} {reason : StopReason} {m : StopMode} {mask mode : Byte} {ch ch' : Channel}

theorem Channel.stood.plays {ctx : StepContext} (h : ch.stood ch') : ch'.plays ctx ↔ ch.plays ctx := by
  simp only [Channel.plays, Channel.headStep, Channel.head, h.state, h.fetch]

theorem Channel.stood.stopsAtOnce (h : ch.stood ch') : ch'.stopsAtOnce mode reason ↔ ch.stopsAtOnce mode reason := by
  simp only [Channel.stopsAtOnce, h.state, h.wait]

theorem Channel.stopsAtOnce.not_mirroring (h : ch.stopsAtOnce mode reason) : ch.play.state ≠ .mirroring := by
  rcases h with ⟨h, -⟩ | ⟨h, -⟩ | ⟨h | h, -⟩ <;> (rw [h]; decide)

theorem Channel.stopsAtOnce.cut {ctx : StepContext} (h : ch.stopsAtOnce mode reason) (hp : ch.plays ctx) : reason = .cut := by
  obtain ⟨hs, -⟩ := hp
  rcases h with ⟨-, h⟩ | ⟨-, -, h⟩ | ⟨h | h, -⟩
  · exact h
  · exact h
  · cases hs.symm.trans h
  · cases hs.symm.trans h

/-- A channel that stands through the stops before its own. -/
theorem State.bystands.stops (h : s.bystands t c) (hstood : (s.chans[c]'c.isLt).stood (t.chans[c]'c.isLt)) (hm : (s.chans[c]'c.isLt).play.state ≠ .mirroring)
    (g : t.stops u c reason) : s.stops u c reason := by
  obtain ⟨n, last, hstop, hkept, hretired⟩ := g.chan
  obtain ⟨x, hplay⟩ := hstood.play
  have hwrite : ∀ ctx, t.retireOf c ctx = s.retireOf c ctx := fun ctx => by
    simp only [State.retireOf, State.slotAddr, State.settings, h.rest.1]
  refine ⟨⟨n, last, hstood.stoppedBy hm hstop, ?_, fun ctx hp => ?_⟩, g.quiet, fun ctx hp hc => ?_, h.rest.trans g.rest,
    h.grows.trans g.grows⟩
  · rw [hplay] at hkept
    exact hkept
  · have := hretired ctx (hstood.plays.2 hp)
    rwa [hplay] at this
  · rw [← hwrite]
    exact g.write ctx (hstood.plays.2 hp) hc

/-- A channel that the STOP stops at once has stopped, or was stopped with LEADER_GONE before its turn or by it (R83, R93). -/
theorem Ev.stopAll_stops (e : Ev) (hm : stopModeOf mode = some m) (hc : mask.getLsbD c.val = true)
    (h : (e.st.chans[c]'c.isLt).stopsAtOnce mode reason) :
    e.st.stops (e.forEach (members mask) fun e c => e.stopReaches m c).st c reason
      ∨ (e.st.bystands (e.forEach (members mask) fun e c => e.stopReaches m c).st c
        ∧ ((e.forEach (members mask) fun e c => e.stopReaches m c).st.chans[c]'c.isLt).play.state = .idle) := by
  obtain ⟨e', hbefore, hafter⟩ := e.stopAll_inside m hc
  rcases hbefore.chan with hstood | ⟨-, -, hstop, -⟩
  · have h' := hstood.stopsAtOnce.2 h
    have hown := e'.stopChannel_stops c reason fun ctx hp => h'.cut hp
    rw [← Ev.stopReaches_stops hm h'] at hown
    exact Or.inl (hbefore.stops hstood h.not_mirroring (hown.trans hafter))
  · rw [Ev.stopReaches_stands (by rw [hstop.state]; rfl)] at hafter
    refine Or.inr ⟨hbefore.trans hafter, ?_⟩
    rcases hafter.chan with g | ⟨-, -, hstop', -⟩
    · exact g.state.trans hstop.state
    · exact hstop'.state

/-- A channel at which the STOP is left pending (R83). -/
theorem Ev.stopAll_pends (e : Ev) (hm : stopModeOf mode = some m) (hc : mask.getLsbD c.val = true)
    (h : (e.st.chans[c]'c.isLt).play.state = .running ∧ mode ≠ 0
      ∨ (e.st.chans[c]'c.isLt).play.inEntryWait = true ∧ mode = 2 ∧ (e.st.chans[c]'c.isLt).play.wait ≠ .leader) :
    ∃ ch, (e.st.chans[c]'c.isLt).stood ch ∧ Channel.stood { ch with play := { ch.play with
      pendingStop := pendingAfter ch.play.pendingStop mode } }
      ((e.forEach (members mask) fun e c => e.stopReaches m c).st.chans[c]'c.isLt) := by
  obtain ⟨e', hbefore, hafter⟩ := e.stopAll_inside m hc
  have hwait : ¬((e.st.chans[c]'c.isLt).play.state = .waiting ∧ (e.st.chans[c]'c.isLt).play.wait = .leader) := by
    rintro ⟨hs, hw⟩
    rcases h with ⟨h, -⟩ | ⟨-, -, h⟩
    · cases hs.symm.trans h
    · exact h hw
  have hstood : (e.st.chans[c]'c.isLt).stood (e'.st.chans[c]'c.isLt) := hbefore.chan.resolve_right fun ⟨hs, hw, _⟩ => hwait ⟨hs, hw⟩
  have hturn : e'.stopReaches m c = e'.modPlay c fun p => { p with pendingStop := pendingAfter p.pendingStop mode } := by
    refine Ev.stopReaches_pends hm (h.imp (fun ⟨hs, hmode⟩ => ⟨hstood.state.trans hs, hmode⟩) fun ⟨hs, hmode, _⟩ => ⟨?_, hmode⟩)
    rw [← hs, Play.inEntryWait, Play.inEntryWait, hstood.state, hstood.wait]
  rw [hturn] at hafter
  have hchan : (e'.modPlay c fun p => { p with pendingStop := pendingAfter p.pendingStop mode }).st.chans[c]'c.isLt =
      { e'.st.chans[c]'c.isLt with play := { (e'.st.chans[c]'c.isLt).play with
        pendingStop := pendingAfter (e'.st.chans[c]'c.isLt).play.pendingStop mode } } := State.put_chan ..
  refine ⟨e'.st.chans[c]'c.isLt, hstood, hchan ▸ hafter.chan.resolve_right fun ⟨hs, hw, _⟩ => ?_⟩
  rw [hchan] at hs hw
  exact hwait ⟨hstood.state.symm.trans hs, hstood.wait.symm.trans hw⟩

/-- A channel that does not play, or that the STOP does not name and no leader keeps waiting (R83, R93). -/
theorem Ev.stopAll_stands (e : Ev) (m : StopMode) (h : (e.st.chans[c]'c.isLt).play.state.counts = false
      ∨ mask.getLsbD c.val = false ∧ (e.st.chans[c]'c.isLt).play.wait ≠ .leader) :
    (e.st.chans[c]'c.isLt).stood ((e.forEach (members mask) fun e c => e.stopReaches m c).st.chans[c]'c.isLt) := by
  have hwait : ¬((e.st.chans[c]'c.isLt).play.state = .waiting ∧ (e.st.chans[c]'c.isLt).play.wait = .leader) := by
    rintro ⟨hs, hw⟩
    rcases h with h | ⟨-, h⟩
    · rw [hs] at h
      cases h
    · exact h hw
  have hbystands : e.st.bystands (e.forEach (members mask) fun e c => e.stopReaches m c).st c := by
    cases hc : mask.getLsbD c.val with
    | false => exact e.stopAll_outside m hc
    | true =>
      obtain ⟨e', hbefore, hafter⟩ := e.stopAll_inside m hc
      have hidle := h.resolve_right (by rw [hc]; exact fun h => Bool.noConfusion h.1)
      have hstood : (e.st.chans[c]'c.isLt).stood (e'.st.chans[c]'c.isLt) := hbefore.chan.resolve_right fun ⟨hs, hw, _⟩ => hwait ⟨hs, hw⟩
      rw [Ev.stopReaches_stands (by rw [hstood.state]; exact hidle)] at hafter
      exact hbefore.trans hafter
  exact hbystands.chan.resolve_right fun ⟨hs, hw, _⟩ => hwait ⟨hs, hw⟩

theorem Ev.finish_stood (e : Ev) (c : Chan) : (e.st.chans[c]'c.isLt).stood (e.finish.chans[c]'c.isLt) := by
  have h := e.finish_chan c
  rw [Fin.getElem_fin, Fin.getElem_fin, h]
  exact ⟨⟨_, rfl⟩, rfl, rfl, fun _ => rfl⟩

/-- The end of an event of stops (R165, R176). -/
theorem Ev.finish_bystands (e : Ev) (c : Chan) : e.st.bystands e.finish c :=
  ⟨Or.inl (e.finish_stood c), e.finish_records.sameRest, e.finish_grows, e.finish_calm.port c⟩

end StopAll

/-! ## The end of an order row (R135, R156) -/

/-- The order is closed, and where its slot read was in flight the port chooses its next grant: every request held stands still, and
none is new but the result word's write. -/
theorem State.settled_closeOrder {s u : State} (hwf : s.port.wf) (hu : s.freed.port.grows (fun k => k.chan? = none) u.port)
    (r : OrderResult) : ∃ p, s.settled (u.closeOrder r) = { u with
        orders := { u.orders with state := .closing, result := some r }
        port := p }
      ∧ (∀ c, u.port.fewer c p) ∧ ∀ q, u.port.holds q → q ∈ p.standing := by
  let closing := u.modOrders fun o => { o with state := .closing, result := some r }
  obtain ⟨q, hq⟩ : ∃ q, u.closeOrder r = closing.raise q ∧ q.kind = .orderResult := ⟨_, rfl, rfl⟩
  obtain ⟨heq, hkind⟩ := hq
  obtain ⟨p, hp⟩ := closing.raise_port q
  have hfewer : ∀ c, u.port.fewer c p := fun c => by
    have := closing.raise_fewer (c := c) (r := q) (by rw [hkind]; exact nofun)
    rwa [hp] at this
  have hgrows : u.port.grows (fun _ => True) p := by
    have := State.raise_grows (K := fun _ => True) closing q
    rwa [hp] at this
  rw [heq, hp, State.settled]
  split
  · rename_i hreading
    obtain ⟨hstate, hflight⟩ := hreading
    have hport : s.freed.port = { s.port with inFlight := none, discard := false } := by
      rw [State.freed, hstate]
      exact congrArg State.port (if_pos hflight)
    have hbusy : s.port.busy = true := by
      unfold State.orderReadInFlight at hflight
      cases hf : s.port.inFlight with
      | none => simp [hf] at hflight
      | some r => rw [hwf.1, hf]; rfl
    obtain ⟨hub, huf, -⟩ := hu.busy (by rw [hport]; exact hbusy)
    obtain ⟨-, hpf, -⟩ := hgrows.busy hub
    have hnone : p.inFlight = none := hpf.trans (huf.trans (by rw [hport]))
    obtain ⟨p', hp'⟩ := State.portDone_port { closing with port := p }
    have hdone := State.arbitrate_fewer { closing with port := { p with busy := false } }
    have hkeeps : ∀ x ∈ p.waiting, x ∈ (State.portDone { closing with port := p }).port.standing := by
      intro x hx
      unfold State.portDone State.arbitrate
      dsimp only
      split
      · exact List.mem_append_right _ hx
      · split
        · rename_i y hy
          obtain ⟨p'', hp'', -, hf'', -, hw''⟩ := State.grant_port { closing with port := { p with busy := false } } y
          rw [hp'']
          simp only [Port.standing, hf'', hw'', Option.toList, List.mem_append, List.mem_singleton]
          by_cases h : x = y
          · exact Or.inl h
          · exact Or.inr ((List.mem_erase_of_ne h).2 hx)
        · exact List.mem_append_right _ hx
    refine ⟨p', hp', fun c => (hfewer c).trans ?_, fun x hx => ?_⟩
    · have := hdone c
      rw [show State.arbitrate { closing with port := { p with busy := false } } = _ from hp'] at this
      exact ⟨this.waiting, this.live, this.count⟩
    · have hx' := (hgrows.holds trivial hx).2
      rw [Port.standing, hnone] at hx'
      have := hkeeps x hx'
      rwa [hp'] at this
  · exact ⟨p, rfl, hfewer, fun x hx => (hgrows.holds trivial hx).2⟩

end Sys2Proof.Machine

namespace Sys2Proof.Machine

/-! ## What a STOP leaves of every channel (R83, R84, R88, R93, R160) -/

section StopOrder

variable {s : State} {c : Chan} {mask mode : Byte} {edition : BitVec 32} {m : StopMode} {reason : StopReason}

/-- The state in which a STOP is carried out: its slot read is off the port and it is in hand (R134). -/
def State.stopping (s : State) (mask mode : Byte) (edition : BitVec 32) : State := s.freed.holdOrder (.stop mask mode) edition

/-- The event of a STOP (R146). -/
def State.stopEvent (s : State) (mask mode : Byte) (edition : BitVec 32) (m : StopMode) : Ev :=
  (Ev.of (s.stopping mask mode edition) false).forEach (members mask) fun e c => e.stopReaches m c

theorem exec_stop (htakes : s.takesOrders) (hm : stopModeOf mode = some m) :
    exec (.stop edition mask mode) s = .next (s.settled ((s.stopEvent mask mode edition m).finish.closeOrder .done)) := by
  rw [show Instr.stop edition mask mode = (Order.stop mask mode).row edition from rfl, exec_row_taken htakes]
  refine congrArg (Host.Outcome.next ∘ s.settled) ?_
  unfold State.takeOrder State.runOrder
  dsimp only
  unfold State.runStop
  rw [hm]
  rfl

theorem State.stopping_chan (s : State) (mask mode : Byte) (edition : BitVec 32) (c : Chan) :
    (s.stopping mask mode edition).chans[c]'c.isLt = s.chans[c]'c.isLt := by
  obtain ⟨p, hp, -⟩ := s.freed_port
  rw [State.stopping, hp]
  rfl

theorem State.stopping_engine (s : State) (mask mode : Byte) (edition : BitVec 32) :
    (s.stopping mask mode edition).engine = s.engine := by
  obtain ⟨p, hp, -⟩ := s.freed_port
  rw [State.stopping, hp]
  rfl

/-- What a STOP has left of a channel that it stopped at once. -/
structure Channel.stopLeft (ch after : Channel) (reason : StopReason) : Prop where
  stopped : ∃ last n slot, ch.stoppedBy after last n slot ∧ (last = reason ∨ last = .leaderGone ∧ ch.play.wait = .leader)
  kept : ch.play.state ≠ .running → after.play.retired = ch.play.retired ∧ after.play.lastRetired = ch.play.lastRetired
  retired : ∀ ctx : StepContext, ch.plays ctx →
    after.play.retired = (ch.play.retired + 1) % 4294967296 ∧ after.play.lastRetired = some ctx.slot

theorem State.stopEvent_stops (hm : stopModeOf mode = some m) (hc : mask.getLsbD c.val = true)
    (h : (s.chans[c]'c.isLt).stopsAtOnce mode reason) :
    (s.chans[c]'c.isLt).stopLeft ((s.stopEvent mask mode edition m).finish.chans[c]'c.isLt) reason
      ∧ (s.stopEvent mask mode edition m).finish.port.quietOf c
      ∧ ∀ ctx : StepContext, (s.chans[c]'c.isLt).plays ctx → ctx.body.consume = true →
        (s.stopEvent mask mode edition m).finish.port.holds (s.retireOf c ctx) := by
  let e := s.stopEvent mask mode edition m
  have hchan := s.stopping_chan mask mode edition c
  have hwrite : ∀ ctx, (s.stopping mask mode edition).retireOf c ctx = s.retireOf c ctx := fun ctx => by
    simp only [State.retireOf, State.slotAddr, State.settings, State.stopping_engine]
  rw [← hchan] at h ⊢
  rcases Ev.stopAll_stops (Ev.of (s.stopping mask mode edition) false) hm hc h with hstops | ⟨hbystands, hidle⟩
  · have hstops := hstops.trans (Ev.finish_bystands e c)
    obtain ⟨n, last, hstop, hkept, hretired⟩ := hstops.chan
    refine ⟨⟨⟨_, _, _, hstop, Or.inl rfl⟩, fun hs => ?_, fun ctx hp => ?_⟩, hstops.quiet, fun ctx hp hc => ?_⟩
    · rw [hstop.retired, hstop.last]
      exact hkept hs
    · rw [hstop.retired, hstop.last]
      exact hretired ctx hp
    · rw [← hwrite]
      exact hstops.write ctx hp hc
  · have hnot : ((s.stopping mask mode edition).chans[c]'c.isLt).play.state ≠ .idle := by
      rcases h with ⟨h, -⟩ | ⟨h, -⟩ | ⟨h | h, -⟩ <;> (rw [h]; decide)
    obtain ⟨hs, hw, hstop, hquiet⟩ := hbystands.chan.resolve_left fun hstood => hnot (hstood.state.symm.trans hidle)
    have hfinish := Ev.finish_bystands e c
    have hstop := hstop.stood (hfinish.chan.resolve_right fun ⟨hs', _⟩ => by cases hidle.symm.trans hs')
    have hrunning : ∀ ctx : StepContext, ¬((s.stopping mask mode edition).chans[c]'c.isLt).plays ctx := fun ctx hp => by
      cases hs.symm.trans hp.1
    exact ⟨⟨⟨_, _, _, hstop, Or.inr ⟨rfl, hw⟩⟩, fun _ => ⟨hstop.retired, hstop.last⟩, fun ctx hp => (hrunning ctx hp).elim⟩,
      hfinish.quiet hquiet, fun ctx hp => (hrunning ctx hp).elim⟩

theorem State.stopEvent_pends (hm : stopModeOf mode = some m) (hc : mask.getLsbD c.val = true)
    (h : (s.chans[c]'c.isLt).play.state = .running ∧ mode ≠ 0
      ∨ (s.chans[c]'c.isLt).play.inEntryWait = true ∧ mode = 2 ∧ (s.chans[c]'c.isLt).play.wait ≠ .leader) :
    Channel.stood { s.chans[c]'c.isLt with play := { (s.chans[c]'c.isLt).play with
        pendingStop := pendingAfter (s.chans[c]'c.isLt).play.pendingStop mode } }
      ((s.stopEvent mask mode edition m).finish.chans[c]'c.isLt) := by
  rw [← s.stopping_chan mask mode edition c] at h ⊢
  obtain ⟨ch, ⟨⟨g, hplay⟩, hfetch, hpool, hlevel⟩, hafter⟩ := Ev.stopAll_pends (Ev.of (s.stopping mask mode edition) false) hm hc h
  have hturn : Channel.stood { (s.stopping mask mode edition).chans[c]'c.isLt with play := { ((s.stopping mask mode edition).chans[c]'c.isLt).play with
        pendingStop := pendingAfter ((s.stopping mask mode edition).chans[c]'c.isLt).play.pendingStop mode } }
      { ch with play := { ch.play with pendingStop := pendingAfter ch.play.pendingStop mode } } := by
    refine ⟨⟨g, ?_⟩, hfetch, hpool, hlevel⟩
    dsimp only
    rw [hplay]
    rfl
  exact (hturn.trans hafter).trans (Ev.finish_stood _ c)

theorem State.stopEvent_stands (s : State) (mask mode : Byte) (edition : BitVec 32) (m : StopMode)
    (h : (s.chans[c]'c.isLt).play.state.counts = false ∨ mask.getLsbD c.val = false ∧ (s.chans[c]'c.isLt).play.wait ≠ .leader) :
    (s.chans[c]'c.isLt).stood ((s.stopEvent mask mode edition m).finish.chans[c]'c.isLt) := by
  rw [← s.stopping_chan mask mode edition c] at h ⊢
  exact (Ev.stopAll_stands (Ev.of (s.stopping mask mode edition) false) m h).trans (Ev.finish_stood _ c)

/-- What a STOP leaves but for the channels and the port, and that its port goes on from the freed one. -/
theorem State.stopEvent_frame (s : State) (mask mode : Byte) (edition : BitVec 32) (m : StopMode) :
    (s.stopping mask mode edition).sameRest (s.stopEvent mask mode edition m).finish
      ∧ s.freed.port.grows (fun k => k.chan? = none) (s.stopEvent mask mode edition m).finish.port := by
  obtain ⟨hrest, hgrows⟩ := Ev.stopAll_frame (Ev.of (s.stopping mask mode edition) false) m (members mask)
  exact ⟨hrest.trans (Ev.finish_records _).sameRest, hgrows.trans (Ev.finish_grows _)⟩

end StopOrder

end Sys2Proof.Machine

namespace Sys2Proof.Machine

/-! ## What the Report Unit does whatever order is in hand (R165 to R171) -/

section OrdersAside

variable (s : State) (f : OrderUnit → OrderUnit)

theorem State.raise_modOrders (q : Request) : (s.modOrders f).raise q = (s.raise q).modOrders f := by
  have hport : (s.modOrders f).raisedPort q = s.raisedPort q := 
    State.raisedPort_congr (s := s.modOrders f) (t := s) rfl ⟨rfl, fun d => Channel.alike_refl _⟩ q
  rw [State.raise_eq, State.raise_eq, hport]
  rfl

theorem State.raiseOverrun_modOrders : (s.modOrders f).raiseOverrun = s.raiseOverrun.modOrders f := by
  have hraise := State.raise_modOrders (s.modReport fun r => { r with overrun := true }) f
  unfold State.raiseOverrun
  by_cases h : s.report.overrun = true
  · rw [if_pos h, if_pos (by exact h)]
  · rw [if_neg h, if_neg (by exact h)]
    exact hraise _

theorem State.placeFresh_modOrders (q : QueuedRecord) : (s.modOrders f).placeFresh q = (s.placeFresh q).modOrders f := by
  have hraise := State.raise_modOrders
  unfold State.placeFresh State.writeReportsWritten State.raiseWrite
  dsimp only
  rw [hraise, hraise]
  rfl

theorem State.joinQueue_modOrders (r : Record) : (s.modOrders f).joinQueue r = (s.joinQueue r).modOrders f := by
  unfold State.joinQueue
  by_cases h : s.report.queue.length < 16
  · rw [if_pos h, if_pos (by exact h)]
    rfl
  · rw [if_neg h, if_neg (by exact h)]
    dsimp only
    rw [← State.raiseOverrun_modOrders]
    rfl

theorem State.handOver_modOrders (r : Record) : (s.modOrders f).handOver r = (s.handOver r).modOrders f := by
  have hjoin := s.joinQueue_modOrders f r
  have htaken := State.raise_modOrders ((s.joinQueue r).modReport fun r => { r with taken := .outstanding }) f
  unfold State.handOver
  dsimp only
  rw [hjoin]
  by_cases hqueue : s.report.queue ≠ []
  · rw [if_pos hqueue, if_pos (by exact hqueue)]
  · rw [if_neg hqueue, if_neg (by exact hqueue)]
    by_cases hroom : s.hasRoom = true
    · rw [if_pos hroom, if_pos (by exact hroom)]
      exact s.placeFresh_modOrders f _
    · rw [if_neg hroom, if_neg (by exact hroom)]
      by_cases honline : s.online = true
      · rw [if_pos honline, if_pos (by exact honline)]
        by_cases hnone : (s.joinQueue r).report.taken = .none
        · rw [if_pos hnone, if_pos (by exact hnone)]
          exact htaken _
        · rw [if_neg hnone, if_neg (by exact hnone)]
      · rw [if_neg honline, if_neg (by exact honline)]
        unfold State.loseRecord
        rw [← State.raiseOverrun_modOrders]
        rfl

theorem State.handOverAll_modOrders (rs : List Record) : State.handOverAll rs (s.modOrders f) = (State.handOverAll rs s).modOrders f := by
  induction rs generalizing s with
  | nil => rfl
  | cons r rest ih =>
    unfold State.handOverAll
    cases r.source with
    | channel c =>
      dsimp only
      rw [State.handOver_modOrders, State.handOver_modOrders, ih]
      by_cases h : (rest.any fun r => decide (r.source = .channel c)) = true
      · rw [if_pos h, if_pos h]
      · rw [if_neg h, if_neg h, ← ih]
        rfl
    | line k =>
      dsimp only
      rw [State.handOver_modOrders, ih]
    | engine =>
      dsimp only
      rw [State.handOver_modOrders, ih]

theorem State.writeStatusBlock_modOrders (c : Chan) : (s.modOrders f).writeStatusBlock c = (s.writeStatusBlock c).modOrders f :=
  s.raise_modOrders f _

end OrdersAside

end Sys2Proof.Machine

namespace Sys2Proof.Machine

/-! ## The stop of one channel that no other mirrors or follows (R84, R88, R144) -/

section WholeStop

variable {s : State} {e : Ev} {c d : Chan} {ctx : StepContext} {reason : StopReason} {closed left : Channel}

/-- A channel that has stopped between expiries (R88). -/
def quietedStop (closed : Channel) (reason : StopReason) : Channel :=
  { quietedChannel closed (decide (reason = .drain)) with
    play := { closed.play with state := .idle, wait := .none, pendingStop := .none, lastStop := reason, episode := 0 } }

theorem OneShot.quiet_endOfPlay_present (m : OneShot) : m.quiet.endOfPlay.present false = stoppedMarker true m := by
  by_cases h : m.mode = .endOfPlay <;>
    simp [OneShot.quiet, OneShot.endOfPlay, OneShot.present, OneShot.level, OneShot.active, stoppedMarker, h]

theorem stoppedChannel_atIdle (closed : Channel) (h : reason ≠ .leaderGone) (h' : reason ≠ .endStep) :
    (stoppedChannel closed reason).turned false = quietedStop closed reason := by
  by_cases hd : reason = .drain
  · subst hd
    simp [stoppedChannel, Channel.turned, Channel.atIdle, quietedStop, quietedChannel, bothMarkers, OneShot.quiet_endOfPlay_present]
  · simp [stoppedChannel, Channel.turned, Channel.atIdle, quietedStop, quietedChannel, bothMarkers, OneShot.quiet_present, h, h', hd]

theorem Channel.stopsAtOnce.reason_ne {ch : Channel} {mode : Byte} (h : ch.stopsAtOnce mode reason) :
    reason ≠ .leaderGone ∧ reason ≠ .endStep := by
  rcases h with ⟨-, rfl⟩ | ⟨-, -, rfl⟩ | ⟨-, ⟨-, rfl⟩ | ⟨-, rfl⟩ | ⟨-, -, rfl⟩⟩ <;> decide

theorem State.retiredBy_streamed_eq (hidle : s.port.idleEmpty) (hres : ctx.resident = false) : s.retiredBy c ctx =
    s.put c (retiredChannel (s.chans[c]'c.isLt) ctx (s.chans[c]'c.isLt).play.offset) (s.port.after (s.retireRequests c ctx)) := by
  unfold State.retiredBy
  dsimp only
  rw [if_neg (by rw [hres]; decide), State.retiredPort_after hidle]
  rfl

theorem State.retireRequests_put (s : State) {ch : Channel} (p : Port) (h : ch.fetch = (s.chans[c]'c.isLt).fetch) :
    (s.put c ch p).retireRequests c ctx = s.retireRequests c ctx := by
  unfold State.retireRequests State.retireOf
  simp only [Fin.getElem_fin, State.put_chan, State.put_slotAddr]
  rw [h]
  rfl

/-- A step's retirement is over with the stop that cuts it: what a retired channel keeps of the step, the purge and the idle level
undo. -/
theorem quietedStop_retired (left : Channel) (ctx : StepContext) (reason : StopReason) :
    quietedStop (retiredChannel left ctx left.play.offset) reason = quietedStop { left with play := { left.play with
      retired := (left.play.retired + 1) % 4294967296, lastRetired := some ctx.slot } } reason := rfl

/-- A channel that none mirrors moves no other, whatever it has become. -/
theorem Ev.act_moved_none (e : Ev) {ch : Channel} {p : Port} {rs : List Record} {a : Bool} {g : Channel → Channel}
    (hu : e.st.unmirrored c) (h : ch.play.state ≠ .mirroring) : (e.act c ch p rs a).moved c g = e.act c ch p rs a :=
  Ev.moved_none (e := e.act c ch p rs a) g (State.put_unmirrored hu h)

/-- The channel with its open episode ended and, where it runs, its streamed step retired by the cut, with the records and the requests
of that (R84). -/
def State.cutsOff (s : State) (c : Chan) (left closed : Channel) (starved records : List Record) (retire : List Request) : Prop :=
  (s.chans[c]'c.isLt).play.state ≠ .running ∧ closed = left ∧ records = starved ∧ retire = []
    ∨ ∃ ctx : StepContext, (s.chans[c]'c.isLt).plays ctx ∧ ctx.resident = false
      ∧ closed = { left with play := { left.play with
          retired := (left.play.retired + 1) % 4294967296, lastRetired := some ctx.slot } }
      ∧ records = starved ++ left.endRecords c ctx ∧ retire = s.retireRequests c ctx

/-- The stop of a channel that no other mirrors, its group still to be seen to (R84, R88). -/
theorem Ev.stopCore_whole {starved records : List Record} {retire : List Request} {mode : Byte} {ch : Channel}
    (hch : e.st.chans[c.val]'c.isLt = ch) (hidle : e.st.port.idleEmpty) (hu : e.st.unmirrored c) (hstops : ch.stopsAtOnce mode reason)
    (hclose : ch.closesEpisode c left starved) (h : e.st.cutsOff c left closed starved records retire) :
    e.stopCore c reason false = e.act c (quietedStop closed reason) ((e.st.port.after retire).purgedOf c)
      (records ++ [stopRecord c closed reason]) true := by
  obtain ⟨rfl, rfl⟩ := Channel.closesEpisode_iff.1 hclose
  obtain ⟨hgone, hend⟩ := hstops.reason_ne
  have hstate := ch.closing_state c
  have hmirror : (ch.closing c).1.play.state ≠ .mirroring := by
    rw [hstate]
    exact hstops.not_mirroring
  unfold State.cutsOff at h
  rw [Fin.getElem_fin, hch] at h
  rcases h with ⟨hs, rfl, rfl, rfl⟩ | ⟨ctx, hplays, hstream, rfl, rfl, rfl⟩
  · have hask : (!decide ((ch.closing c).1.play.state = .idle ∧ (ch.closing c).1.play.wait = .none)) = true := by
      rw [hstate]
      rcases hstops with ⟨h, -⟩ | ⟨h, -⟩ | ⟨h | h, -⟩ <;> simp [h]
    rw [Ev.stopCore_eq e c reason false (Or.inl (by rw [hch]; exact hs)), Ev.closeEpisode_act, hch, Ev.stopFrom_act]
    simp only [Ev.act_st, State.put_chan, State.put_port, stoppedChannel_atIdle _ hgone hend, hask]
    rw [e.act_moved_none hu hmirror, Ev.act_act]
    rfl
  · obtain rfl := hstops.cut hplays
    obtain ⟨retired, hretired⟩ : ∃ retired, retired = retiredChannel (ch.closing c).1 ctx (ch.closing c).1.play.offset := ⟨_, rfl⟩
    have hfetch := (ch.closing_fetch c).trans (congrArg Channel.fetch hch.symm)
    rw [Ev.stopCore_cut e c false (by rw [hch]; exact hplays), Ev.closeEpisode_act, hch, Ev.retirePlaying_act, Ev.act_st,
      State.retiredBy_streamed_eq (by exact hidle) hstream, State.retireRequests_put _ _ hfetch]
    simp only [Fin.getElem_fin, State.put_chan, State.put_port, Ev.act_act, State.put_put]
    rw [Ev.stopFrom_act]
    rw [← hretired]
    simp only [Ev.act_st, State.put_chan, State.put_port, stoppedChannel_atIdle _ hgone hend]
    rw [e.act_moved_none hu (by rw [hretired]; exact hmirror), Ev.act_act, hretired, quietedStop_retired]
    rfl

end WholeStop

end Sys2Proof.Machine

namespace Sys2Proof.Machine

/-! ## The group of a stopped channel (R93, R144) -/

section StoppedGroup

variable {s : State} {e : Ev} {c d : Chan} {reason : StopReason} {m : Membership}

theorem State.groupWithout_unarmed (h : (s.chans[c]'c.isLt).play.state ≠ .armed) : s.groupWithout c d = (s.chans[d]'d.isLt).play.group := by
  unfold State.groupWithout
  split
  · rename_i hs _
    exact (h hs).elim
  · rfl

theorem State.groupWithout_groupless (h : (s.chans[c]'c.isLt).play.group = none) : s.groupWithout c d = (s.chans[d]'d.isLt).play.group := by
  unfold State.groupWithout
  split
  · rename_i hg
    cases h.symm.trans hg
  · rfl

theorem State.groupWithout_member (hs : (s.chans[c]'c.isLt).play.state = .armed) (hg : (s.chans[c]'c.isLt).play.group = some m) :
    s.groupWithout c d = if d = c then none else if (maskDrop m.mask c).getLsbD d.val then
      (s.chans[d]'d.isLt).play.group.map fun g =>
        { g with mask := maskDrop m.mask c, leader := (lowest (maskDrop m.mask c)).getD g.leader }
      else (s.chans[d]'d.isLt).play.group := by
  unfold State.groupWithout
  rw [hs, hg]
  rfl

/-- A channel as its membership becomes another. -/
def Channel.grouped (ch : Channel) (g : Option Membership) : Channel := { ch with play := { ch.play with group := g } }

/-- A channel leaves an ARMED group (R144). -/
theorem Ev.leaveArmedGroup_eq (hg : (e.st.chans[c.val]'c.isLt).play.group = some m) : e.leaveArmedGroup c = { e with
    st := { e.st with chans := vec8 fun d => (e.st.chans[d.val]'d.isLt).grouped (if d = c then none
      else if (maskDrop m.mask c).getLsbD d.val then (e.st.chans[d.val]'d.isLt).play.group.map fun g =>
        { g with mask := maskDrop m.mask c, leader := (lowest (maskDrop m.mask c)).getD g.leader }
      else (e.st.chans[d.val]'d.isLt).play.group) } } := by
  have hothers := Ev.forEach_eachChan (e := e)
    (f := fun e d => e.modPlay d fun p => p.modGroup fun g =>
      { g with mask := maskDrop m.mask c, leader := (lowest (maskDrop m.mask c)).getD g.leader })
    (g := fun d => (e.st.chans[d.val]'d.isLt).grouped ((e.st.chans[d.val]'d.isLt).play.group.map fun g =>
      { g with mask := maskDrop m.mask c, leader := (lowest (maskDrop m.mask c)).getD g.leader }))
    (h := fun _ p => p) (r := fun _ => []) (a := fun _ => 0) (fun _ => True) (members_nodup (maskDrop m.mask c)) trivial
    (fun _ _ _ _ _ => trivial) fun t d _ _ hsame => by
      rw [Fin.getElem_fin, Fin.getElem_fin] at hsame
      rw [Ev.modPlay_act, hsame]
      simp [Ev.act, State.put, askedBit, Channel.grouped, Play.modGroup]
  unfold Ev.leaveArmedGroup
  rw [Ev.chan_eq, hg]
  dsimp only
  have hnone : (members (maskDrop m.mask c)).flatMap (fun _ => ([] : List Record)) = [] := by simp
  rw [hothers, Ev.modPlay_act, hnone]
  simp only [BitVec.ofNat_eq_ofNat, BitVec.or_zero, List.foldl_fixed, List.append_nil, Ev.act, askedBit, State.put, Bool.false_eq_true, if_false]
  congr 2
  refine chans_ext fun d => ?_
  have hc : c ∉ members (maskDrop m.mask c) := fun h => members_maskDrop h rfl
  rw [vec8_get, Vector.getElem_set]
  by_cases hd : d = c
  · subst hd
    simp only [vec8_get, hc, if_true, if_false]
    rfl
  · rw [if_neg (fun h => hd (Fin.ext h.symm)), vec8_get, vec8_get, if_neg hd]
    simp only [mem_members]
    split <;> rfl

/-- The stop of a channel that no other mirrors or follows: its own change, and the memberships of the group it leaves (R88, R144). -/
theorem Ev.stopChannel_whole {left closed : Channel} {starved records : List Record} {retire : List Request} {mode : Byte}
    (hin : e.inExpiry = false) (hidle : e.st.port.idleEmpty) (hu : e.st.unmirrored c) (hstops : (e.st.chans[c.val]'c.isLt).stopsAtOnce mode reason)
    (hf : ∀ d : Chan, (e.st.chans[d]'d.isLt).follows d c = false) (hclose : (e.st.chans[c.val]'c.isLt).closesEpisode c left starved)
    (h : e.st.cutsOff c left closed starved records retire) :
    e.stopChannel c reason false = { e with
      st := { e.st with
        chans := vec8 fun d => if d = c then (quietedStop closed reason).grouped (e.st.groupWithout c c)
          else (e.st.chans[d.val]'d.isLt).grouped (e.st.groupWithout c d)
        port := (e.st.port.after retire).purgedOf c }
      recs := e.recs ++ (records ++ [stopRecord c closed reason])
      asked := e.asked ||| maskOf c } := by
  have hgroup : (quietedStop closed reason).play.group = (e.st.chans[c.val]'c.isLt).play.group := by
    obtain ⟨rfl, -⟩ := Channel.closesEpisode_iff.1 hclose
    obtain ⟨held, episode, hplay⟩ := (e.st.chans[c.val]'c.isLt).closing_play c
    rcases h with ⟨-, rfl, -⟩ | ⟨ctx, -, -, rfl, -⟩ <;> simp [quietedStop, hplay]
  rw [Ev.stopChannel, Ev.stopCore_whole rfl hidle hu hstops hclose h, Ev.chan_eq]
  obtain ⟨e', he'⟩ : ∃ e', e' = e.act c (quietedStop closed reason) ((e.st.port.after retire).purgedOf c)
    (records ++ [stopRecord c closed reason]) true := ⟨_, rfl⟩
  have hgroups : ∀ d : Chan, (e'.st.chans[d.val]'d.isLt).play.group = (e.st.chans[d.val]'d.isLt).play.group := fun d => by
    rw [he', Ev.act_st, State.put_get]
    split
    · rename_i hcd
      rw [hgroup, hcd]
    · rfl
  have hsame : (∀ d : Chan, e.st.groupWithout c d = (e.st.chans[d.val]'d.isLt).play.group) → ({ e' with st := { e'.st with
      chans := vec8 fun d => (e'.st.chans[d.val]'d.isLt).grouped (e.st.groupWithout c d) } } : Ev) = e' := fun hno => by
    have hvec : (vec8 fun d => (e'.st.chans[d.val]'d.isLt).grouped (e.st.groupWithout c d)) = e'.st.chans := chans_ext fun d => by
      rw [vec8_get, hno, ← hgroups]
      rfl
    rw [hvec]
  have hleft : e'.groupAfter c (decide ((e.st.chans[c.val]'c.isLt).play.state = .armed)) = { e' with st := { e'.st with
      chans := vec8 fun d => (e'.st.chans[d.val]'d.isLt).grouped (e.st.groupWithout c d) } } := by
    by_cases harmed : (e.st.chans[c.val]'c.isLt).play.state = .armed
    · rw [decide_eq_true harmed, Ev.groupAfter, if_pos rfl]
      cases hg : (e.st.chans[c.val]'c.isLt).play.group with
      | none =>
        rw [hsame fun d => State.groupWithout_groupless hg, Ev.leaveArmedGroup, Ev.chan_eq, hgroups, hg]
      | some m =>
        rw [Ev.leaveArmedGroup_eq ((hgroups c).trans hg)]
        simp only [hgroups, State.groupWithout_member harmed hg, Fin.getElem_fin]
    · rw [decide_eq_false harmed, hsame fun d => State.groupWithout_unarmed harmed]
      have hfollows : ∀ d : Chan, (e'.st.chans[d]'d.isLt).follows d c = false := fun d => by
        rw [← hf d]
        unfold Channel.follows
        rw [Fin.getElem_fin, Fin.getElem_fin, hgroups]
      unfold Ev.groupAfter
      rw [if_neg (by decide)]
      split
      · rw [if_neg (by rw [he', Ev.act_inExpiry, hin]; decide), Ev.loseLeader_alone hfollows]
      · rfl
  rw [← he', hleft, he']
  have hvec : (vec8 fun d => ((e.act c (quietedStop closed reason) ((e.st.port.after retire).purgedOf c)
      (records ++ [stopRecord c closed reason]) true).st.chans[d.val]'d.isLt).grouped (e.st.groupWithout c d))
      = vec8 fun d => if d = c then (quietedStop closed reason).grouped (e.st.groupWithout c c)
        else (e.st.chans[d.val]'d.isLt).grouped (e.st.groupWithout c d) := chans_ext fun d => by
    rw [vec8_get, vec8_get, Ev.act_st, State.put_get]
    by_cases hd : c = d
    · subst hd
      rw [if_pos rfl, if_pos rfl]
    · rw [if_neg hd, if_neg (Ne.symm hd)]
  rw [hvec]
  rfl

end StoppedGroup

end Sys2Proof.Machine

namespace Sys2Proof.Machine

/-! ## A STOP of one channel, whole (R84, R88, R146) -/

section StopWhole

variable {s : State} {c : Chan} {mask mode : Byte} {edition : BitVec 32} {m : StopMode} {reason : StopReason} {left closed : Channel}
  {starved records : List Record} {retire : List Request}

/-- The state after the stop of one channel that no other mirrors or follows, its records still to be handed over. -/
def State.stopped (s : State) (c : Chan) (closed : Channel) (reason : StopReason) (retire : List Request) : State :=
  { s with
    chans := vec8 fun d => if d = c then (quietedStop closed reason).grouped (s.groupWithout c c)
      else (s.chans[d.val]'d.isLt).grouped (s.groupWithout c d)
    port := (s.port.after retire).purgedOf c }

theorem members_sole (h : ∀ d : Chan, mask.getLsbD d.val = true ↔ d = c) : members mask = [c] := by
  refine Eq.trans (List.filter_congr fun d _ => ?_) ((by decide : ∀ c : Chan, (allChans.filter fun d => decide (d = c)) = [c]) c)
  exact Bool.eq_iff_iff.2 ((h d).trans decide_eq_true_iff.symm)

/-- The event of a STOP of one channel, its records handed over and its status block written (R165, R176). -/
theorem Ev.stopOne_finish (hm : stopModeOf mode = some m) (hidle : s.port.idleEmpty) (hu : s.unmirrored c)
    (hstops : (s.chans[c]'c.isLt).stopsAtOnce mode reason) (hf : ∀ d : Chan, (s.chans[d]'d.isLt).follows d c = false)
    (hclose : (s.chans[c]'c.isLt).closesEpisode c left starved) (h : s.cutsOff c left closed starved records retire) :
    ((Ev.of s false).stopReaches m c).finish = State.writeStatusBlock
      (State.handOverAll (records ++ [stopRecord c closed reason]) (s.stopped c closed reason retire)) c := by
  rw [Ev.stopReaches_stops (e := Ev.of s false) hm hstops,
    Ev.stopChannel_whole (e := Ev.of s false) rfl hidle hu hstops hf hclose h]
  refine Ev.finish_eq (l := [c]) rfl rfl ?_
  exact members_askedBit c true

/-- An order in hand is closed at a BUSY port (R135). -/
theorem State.closeOrder_held (h : s.port.busy = true) (order : Order) (edition : BitVec 32) (r : OrderResult) :
    (s.holdOrder order edition).closeOrder r = s.closed order edition r := by
  have hidle : (s.holdOrder order edition).port.idleEmpty := fun hb => by cases h.symm.trans hb
  rw [State.closeOrder_after hidle]
  rfl

theorem State.writeStatusBlock_busy (s : State) (c : Chan) : (s.writeStatusBlock c).port.busy = true :=
  (s.raise_holds _).1

end StopWhole

/-- Settles O21: every channel's own stop stands between the other channels' stops, which leave it or, where it waits for a leader, stop
it; a single channel's stop is one event of that channel and its group. -/
theorem cutStopsEveryPlayingChannel : Obligations.CutStopsEveryPlayingChannel := by
  refine ⟨fun edition mask mode s htakes hwf hmode => ?every, fun edition mask mode s c reason left closed starved records retire
    htakes hidle hmode hmask hu hstops hf hclose h => ?whole⟩ <;> obtain ⟨m, hm⟩ := stopModeOf_eq hmode
  case every =>
    obtain ⟨hrest, hgrows⟩ := s.stopEvent_frame mask mode edition m
    obtain ⟨p, hclosed, hfewer, hholds⟩ := State.settled_closeOrder hwf hgrows .done
    obtain ⟨q, hq, -⟩ := s.freed_port
    rw [State.stopping, hq] at hrest
    obtain ⟨hengine, horders, hgens, htrig, hpins, hphase, hfree, hpending⟩ := hrest
    refine ⟨_, (exec_stop htakes hm).trans (congrArg Host.Outcome.next hclosed), fun c reason hc h => ?stops, fun c hc h => ?pends,
      fun c h => ?stands, ?orders, hengine, hgens, htrig, hpins, hphase, hfree, hpending⟩
    case stops =>
      obtain ⟨⟨⟨last, n, slot, hstop, hlast⟩, hkept, hretired⟩, hquiet, hwrite⟩ := s.stopEvent_stops (edition := edition) hm hc h
      refine ⟨hstop.state, hstop.pending, hstop.wait, ?_, hstop.window, hstop.reader, hstop.pool, hstop.lane,
        hquiet.fewer (hfewer c), hkept, fun ctx hp => ?_⟩
      · rw [hstop.reason]
        exact hlast
      · obtain ⟨hn, hslot⟩ := hretired ctx hp
        exact ⟨hn, hslot, fun hc => hholds _ (hwrite ctx hp hc)⟩
    case pends =>
      have hstood := s.stopEvent_pends (edition := edition) hm hc h
      obtain ⟨g, hplay⟩ := hstood.play
      exact ⟨hstood.state, hstood.wait, congrArg Play.pendingStop hplay, hstood.fetch, hstood.pool⟩
    case stands =>
      have hstood := s.stopEvent_stands mask mode edition m h
      exact ⟨hstood.state, hstood.fetch, hstood.pool⟩
    case orders =>
      rw [horders]
      rfl
  case whole =>
    obtain ⟨p, hp, -⟩ := s.freed_port
    have hfreed : s.freed.port.idleEmpty := State.freed_idleEmpty hidle
    have hevent : (s.stopEvent mask mode edition m).finish = State.holdOrder (State.writeStatusBlock
        (State.handOverAll (records ++ [stopRecord c closed reason]) (s.freed.stopped c closed reason retire)) c)
        (.stop mask mode) edition := by
      rw [State.stopEvent, members_sole hmask, State.stopping]
      rw [hp] at hfreed ⊢
      have hone := Ev.stopOne_finish (s := State.holdOrder { s with port := p } (.stop mask mode) edition) hm hfreed hu hstops hf hclose h
      have hheld := State.handOverAll_modOrders (State.stopped { s with port := p } c closed reason retire)
        (fun o => { o with state := .executing, inHand := some ⟨.stop mask mode, edition⟩ }) (records ++ [stopRecord c closed reason])
      refine Eq.trans hone ?_
      exact (congrArg (State.writeStatusBlock · c) hheld).trans (State.writeStatusBlock_modOrders _ _ c)
    rw [exec_stop htakes hm, hevent, State.closeOrder_held (State.writeStatusBlock_busy _ c)]
    rw [hp]
    rfl

end Sys2Proof.Machine

namespace Sys2Proof.Machine

/-! ## Ready first steps and present data (R60) -/

theorem Bank.isHeldBy_iff (occ : Nat) (b : Bank) : b.isHeldBy occ = true ↔ ∃ loaded, b = .held occ loaded := by
  cases b <;> simp [Bank.isHeldBy]

theorem Bank.hasFirst_iff (occ : Nat) (b : Bank) : b.hasFirst occ = true ↔
    ∃ loaded, b = .held occ loaded ∨ b = .loading occ loaded ∧ 1 ≤ loaded.length := by
  cases b with
  | free => simp [Bank.hasFirst]
  | held o l => simp [Bank.hasFirst]
  | loading o l => cases l <;> simp [Bank.hasFirst]

/-- One of a channel's two banks. -/
theorem Pool.exists_bank {P : Bank → Prop} (p : Pool) : (∃ id, P (p.bank id)) ↔ P p.bankA ∨ P p.bankB := by
  refine ⟨?_, fun h => h.elim (⟨.a, ·⟩) (⟨.b, ·⟩)⟩
  rintro ⟨id, h⟩
  cases id with
  | a => exact Or.inl h
  | b => exact Or.inr h

theorem firstStepReady_iff (settings : ChannelSettings) (ch : Channel) (ctx : StepContext) :
    firstStepReady settings ch ctx = true ↔
      ctx.resident = true ∧ (∃ id loaded, ch.pool.bank id = .held ctx.occ loaded)
        ∨ ctx.resident = false ∧ min settings.startLevel ctx.wEff ≤ ch.pool.queue.length := by
  rw [ch.pool.exists_bank (P := fun b => ∃ loaded, b = .held ctx.occ loaded), ← Bank.isHeldBy_iff, ← Bank.isHeldBy_iff,
    firstStepReady, Pool.bankHeld]
  cases ctx.resident <;> simp

theorem State.memberReady_iff (s : State) (c : Chan) : s.memberReady c = true ↔
    ∃ ctx, (s.chans[c.val]'c.isLt).headStep = some ctx ∧ firstStepReady (s.settings c) (s.chans[c.val]'c.isLt) ctx = true := by
  unfold State.memberReady
  rw [Fin.getElem_fin]
  cases (s.chans[c.val]'c.isLt).headStep <;> simp

theorem dataPresent_iff (ch : Channel) (ctx : StepContext) : ch.dataPresent ctx = true ↔
    ctx.resident = true ∧ (∃ id loaded, ch.pool.bank id = .held ctx.occ loaded
        ∨ ch.pool.bank id = .loading ctx.occ loaded ∧ 1 ≤ loaded.length)
      ∨ ctx.resident = false ∧ 1 ≤ ch.pool.queue.length := by
  rw [ch.pool.exists_bank (P := fun b => ∃ loaded, b = .held ctx.occ loaded ∨ b = .loading ctx.occ loaded ∧ 1 ≤ loaded.length),
    ← Bank.hasFirst_iff, ← Bank.hasFirst_iff, Channel.dataPresent]
  cases ctx.resident <;> simp [Nat.one_le_iff_ne_zero]

end Sys2Proof.Machine

namespace Sys2Proof.Machine

/-! ## The launch of a member (R34, R92, R111) -/

/-- A member of a group that launches, its first sample about to be counted (R92). -/
def flaggedChannel (ch : Channel) : Channel :=
  { ch with play := { ch.play.modGroup (fun m => { m with launched := true }) with sampleCount := 0 } }

/-- A launched member with its first step about to start and `count` as its channel sample count: latches cleared, a paused reader gone
on (R34, R92, R111). -/
def launchedChannel (ch : Channel) (ctx : StepContext) (count : Nat) : Channel :=
  { ch with
    fetch := resumedFetch ch.fetch ctx
    play := { ch.play.modGroup (fun m => { m with launched := true }) with
      state := .running, wait := .none, stepExpiries := 0, sampleCount := count }
    level := { ch.level with stepClips := 0, markers := bothMarkers (fun m => { m with latch := false }) ch.level.markers } }

section Member

variable {e : Ev} {c : Chan} {ctx : StepContext} {ch : Channel}

/-- The count before the launch's own expiry, of which that expiry makes 0 (R66, R92). -/
theorem countedChannel_launched (ch : Channel) (ctx : StepContext) :
    countedChannel (launchedChannel ch ctx 281474976710655) = launchedChannel ch ctx 0 := by
  simp [countedChannel, launchedChannel]

theorem flaggedChannel_headStep (ch : Channel) : (flaggedChannel ch).headStep = ch.headStep := rfl

/-- One member launches: it becomes RUNNING, asks for its status block, and makes its first expiry (R34, R92). -/
theorem Ev.launchMember_eq (hch : e.st.chans[c.val]'c.isLt = flaggedChannel ch) (hs : ch.play.state = .armed) (hstep : ch.headStep = some ctx) :
    ∃ p, (e.st.port.grows (fun t => t.chan? ≠ some c) p)
      ∧ (ch.fetch.reader ≠ .decisionPause ∨ e.st.port.idleEmpty → p = e.st.port.after (e.st.resumeReads c ctx))
      ∧ e.launchMember c = ((e.act c (launchedChannel ch ctx 0) p [] true).runExpiry c ctx).coded c := by
  let entered : Channel := { flaggedChannel ch with
    play := { (flaggedChannel ch).play with state := .running, wait := .none, stepExpiries := 0 }
    level := { ch.level with stepClips := 0, markers := bothMarkers (fun m => { m with latch := false }) ch.level.markers } }
  have hbegin : ((e.mod (·.clearLatches c)).setState c .running .none).becomePlaying c = e.act c entered e.st.port [] true := by
    have hclear : e.mod (·.clearLatches c) = e.act c { flaggedChannel ch with level := { ch.level with
        markers := bothMarkers (fun m => { m with latch := false }) ch.level.markers } } e.st.port [] false := by
      refine Ev.mod_act _ _ _ _ ?_
      simp [State.clearLatches, hch, flaggedChannel]
    have hask : (!decide ((flaggedChannel ch).play.state = .running ∧ (flaggedChannel ch).play.wait = .none)) = true := by
      have : (flaggedChannel ch).play.state = .armed := hs
      simp [this]
    rw [hclear, Ev.becomePlaying]
    simp only [Ev.setState_act, Ev.modPlay_act, Ev.modLevel_act, Ev.act_act, Ev.act_st, State.put_chan, State.put_port,
      List.append_nil, Bool.or_false, Bool.false_or, hask]
    rfl
  have hfetch : ((e.st.put c entered e.st.port).chans[c.val]'c.isLt).fetch = ch.fetch := by rw [State.put_chan]; rfl
  have hreads : (e.st.put c entered e.st.port).resumeReads c ctx = e.st.resumeReads c ctx :=
    State.resumeReads_congr rfl (by rw [hfetch, hch]; rfl)
  obtain ⟨p, hp, hresume⟩ := (e.st.put c entered e.st.port).resumeReader_put c ctx
  have hgrows := (e.st.put c entered e.st.port).resumeReader_grows (K := fun t => t.chan? ≠ some c) c ctx
  rw [hresume] at hgrows
  refine ⟨p, hgrows, fun h => ?_, ?_⟩
  · by_cases hidle : e.st.port.idleEmpty
    · rw [← hreads]
      exact (hp hidle).1
    · have hpause := h.resolve_right hidle
      have hnone : (e.st.put c entered e.st.port).resumeReader c ctx = e.st.put c entered e.st.port :=
        if_neg fun h' => hpause (by rw [← hfetch]; exact h'.2)
      have hno : e.st.resumeReads c ctx = [] := by
        rw [← hreads]
        unfold State.resumeReads
        split
        · exact if_neg fun h' => hpause (by rw [← hfetch]; exact h'.2.1)
        · rfl
      rw [hno]
      have hput := hresume.symm.trans hnone
      exact congrArg State.port hput
  · have hhead : (e.chan c).headStep = some ctx := by rw [Ev.chan_eq, hch, flaggedChannel_headStep, hstep]
    have hmod : (e.act c entered e.st.port [] true).mod (·.resumeReader c ctx) = e.act c (launchedChannel ch ctx 0) p [] true := by
      refine Eq.trans (Ev.mod_act _ c _ _ hresume) ?_
      rw [Ev.act_act, State.put_chan]
      rfl
    unfold Ev.launchMember
    rw [hhead]
    dsimp only
    rw [hbegin, hmod]
    rfl

end Member

end Sys2Proof.Machine

namespace Sys2Proof.Machine

/-! ## A group that launches at an expiry (R60, R91) -/

section Group

variable {s v : State} {g : GenIx} {m : Membership}

/-- An ARMED group of which every member is ready and whose launch condition holds (R91). -/
structure State.launchesAll (s : State) (m : Membership) : Prop where
  leads : m.mask.getLsbD m.leader.val = true
  condition : m.condition = .immediate ∨ m.latch = true
  members : ∀ c : Chan, m.mask.getLsbD c.val = true →
    (s.chans[c.val]'c.isLt).play.state = .armed ∧ (s.chans[c.val]'c.isLt).play.group = some m ∧ s.memberReady c = true

theorem State.launchesAll.ready (h : s.launchesAll m) : s.groupReady m = true := by
  unfold State.groupReady
  exact List.all_eq_true.2 fun c hc => (h.members c (mem_members.1 hc)).2.2

/-- Of the members the leader alone brings the launch about (R91, R142). -/
theorem State.launchesAll.due (h : s.launchesAll m) {c : Chan} (hc : m.mask.getLsbD c.val = true) :
    s.launchDue c = decide (c = m.leader) := by
  obtain ⟨hs, hg, -⟩ := h.members c hc
  have hcondition : (decide (m.condition = .immediate) || m.latch) = true := by
    simpa using h.condition
  by_cases hlead : m.leader = c
  · have harmed : (s.chans[c]'c.isLt).armedLeader c = some m := (Channel.armedLeader_iff _ _ _).2 ⟨hs, hg, hlead⟩
    unfold State.launchDue
    rw [harmed]
    dsimp only
    rw [h.ready, hcondition, decide_eq_true hlead.symm]
    rfl
  · have hnone : (s.chans[c]'c.isLt).armedLeader c = none := by
      refine Option.eq_none_iff_forall_ne_some.2 fun m' hm' => hlead ?_
      obtain ⟨-, hg', hlead'⟩ := (Channel.armedLeader_iff _ _ _).1 hm'
      rw [Fin.getElem_fin] at hg'
      cases hg.symm.trans hg'
      exact hlead'
    unfold State.launchDue
    rw [hnone, decide_eq_false (Ne.symm hlead)]

theorem filter_members_leader (h : m.mask.getLsbD m.leader.val = true) :
    (members m.mask).filter (fun c => decide (c = m.leader)) = [m.leader] := by
  unfold members
  rw [List.filter_filter]
  have hsame : (fun c : Chan => decide (c = m.leader) && inMask m.mask c) = fun c => decide (c = m.leader) := funext fun c => by
    by_cases hc : c = m.leader
    · rw [hc]
      simpa [inMask] using h
    · simp [hc]
  rw [hsame]
  exact (by decide : ∀ c : Chan, allChans.filter (fun d => decide (d = c)) = [c]) m.leader

/-- An expiry at which every channel of the generator is a member of one group that launches: the launch is its one event (R91). -/
theorem exec_expiry_launch (hrun : s.gens[g].running = true) (hatt : s.attached g = members m.mask)
    (hv : v = (members m.mask).foldl State.countExpiry (s.modGen g Gen.reload)) (h : v.launchesAll m) :
    exec (.expiry g) s = .next ((Ev.of v true).launchGroup m.leader).expiryEnd := by
  obtain ⟨s', hs'⟩ : ∃ s', s' = s.modGen g Gen.reload := ⟨_, rfl⟩
  have hatt' : s'.attached g = members m.mask := by rw [hs', ← hatt]; rfl
  have hlaunching : v.launching (members m.mask) = [m.leader] := by
    rw [← filter_members_leader h.leads]
    exact List.filter_congr fun c hc => h.due (mem_members.1 hc)
  have hgroup : v.chans[m.leader].play.group = some m := (h.members m.leader h.leads).2.1
  have hothers : (members m.mask).filter (fun c => !v.launches [m.leader] c) = [] := by
    refine List.filter_eq_nil_iff.2 fun c hc => ?_
    have hin : inMask m.mask c = true := mem_members.1 hc
    have hlaunches : v.launches [m.leader] c = true := by
      unfold State.launches
      rw [List.any_cons, hgroup]
      dsimp only
      rw [hin]
      rfl
    simp [hlaunches]
  show Host.Outcome.next (s.expire g) = _
  unfold State.expire State.expireChannels
  rw [if_pos hrun, ← hs', hatt']
  dsimp only
  rw [← hs'] at hv
  rw [← hv, hlaunching, hothers]
  simp [ExpiryRun.event, Ev.expiryEnd]

/-- Every channel of a list counts the expiry, each on its own (R38, R66). -/
theorem State.countExpiry_all {l : List Chan} (hl : l.Nodup) {s : State} (h : ∀ c ∈ l, (s.chans[c.val]'c.isLt).play.state.counts = true) :
    ∃ p, l.foldl State.countExpiry s
      = { s with chans := vec8 fun c => if c ∈ l then s.countedAt c else (s.chans[c]'c.isLt), port := p } := by
  induction l generalizing s with
  | nil => exact ⟨s.port, by simp only [List.not_mem_nil, if_false, Fin.getElem_fin, vec8_self, List.foldl_nil]⟩
  | cons c rest ih =>
    obtain ⟨hc, hrest⟩ := List.nodup_cons.1 hl
    obtain ⟨p, -, hfirst⟩ := State.countExpiry_put (h c (List.mem_cons_self ..))
    have hkept : ∀ d ∈ rest, (s.countExpiry c).chans[d.val]'d.isLt = s.chans[d.val]'d.isLt := fun d hd => by
      have hne : c ≠ d := fun h => hc (h ▸ hd)
      rw [hfirst, State.put_other _ _ _ hne]
    obtain ⟨q, hfold⟩ := ih hrest (s := s.countExpiry c) fun d hd => by
      rw [hkept d hd]
      exact h d (List.mem_cons_of_mem _ hd)
    refine ⟨q, ?_⟩
    rw [List.foldl_cons, hfold]
    have hcounted : ∀ d ∈ rest, (s.countExpiry c).countedAt d = s.countedAt d := fun d hd =>
      congrArg countedChannel (State.polled_chan_congr (by rw [hfirst]; rfl) (hkept d hd))
    have hchans : (vec8 fun d => if d ∈ rest then (s.countExpiry c).countedAt d else ((s.countExpiry c).chans[d]'d.isLt))
        = vec8 fun d => if d ∈ c :: rest then s.countedAt d else (s.chans[d]'d.isLt) := by
      rw [← chans_set_each (g := s.countedAt) hc]
      refine chans_ext fun d => ?_
      rw [vec8_get, vec8_get]
      by_cases hd : d ∈ rest
      · rw [if_pos hd, if_pos hd, hcounted d hd]
      · rw [if_neg hd, if_neg hd, hfirst]
        rfl
    rw [hchans, hfirst]
    rfl

/-- Counting an expiry changes nothing that a launch looks at (R60, R91). -/
theorem State.launchesAll.counted (h : s.launchesAll m) (he : v.engine = s.engine)
    (hv : ∀ c : Chan, m.mask.getLsbD c.val = true → (v.chans[c.val]'c.isLt).sameLaunch (s.chans[c.val]'c.isLt)) : v.launchesAll m := by
  refine ⟨h.leads, h.condition, fun c hc => ?_⟩
  obtain ⟨hs, hg, hr⟩ := h.members c hc
  obtain ⟨-, -, hstate, hgroup⟩ := hv c hc
  exact ⟨hstate.trans hs, hgroup.trans hg, (State.memberReady_same he (hv c hc)).trans hr⟩

theorem State.countedAt_sameLaunch (s : State) (c : Chan) : (s.countedAt c).sameLaunch (s.chans[c.val]'c.isLt) := by
  obtain ⟨poll, reader, p, hpolled⟩ := s.polled_put c
  unfold State.countedAt
  rw [hpolled, State.put_chan]
  exact ⟨rfl, rfl, rfl, rfl⟩

end Group

end Sys2Proof.Machine

namespace Sys2Proof.Machine

/-! ## The launch of a group of one (R92) -/

section Sole

variable {e : Ev} {s u v w : State} {g : GenIx} {c : Chan} {m : Membership} {ctx : StepContext} {ch y b : Channel}

/-- A launch up to its members' step starts: the counts and the launched flags are set, the LAUNCH record raised (R92, R145). -/
def Ev.launchBegun (e : Ev) (m : Membership) : Ev :=
  (e.forEach (members m.mask) fun e c => e.modPlay c fun p =>
    { p.modGroup (fun g => { g with launched := true }) with sampleCount := 0 }).addChanRecord m.leader .launch
      (e.chan m.leader).play.startSlot m.mask.toNat m.generator.val

theorem Ev.launchGroup_eq (h : (e.chan c).play.group = some m) (hlead : m.leader = c) :
    e.launchGroup c = (e.launchBegun m).forEach (members m.mask) Ev.launchMember := by
  subst hlead
  unfold Ev.launchGroup
  rw [h]
  rfl

theorem Ev.modPlay_flags (e : Ev) (c : Chan) :
    (e.modPlay c fun p => { p.modGroup (fun g => { g with launched := true }) with sampleCount := 0 })
      = e.act c (flaggedChannel (e.st.chans[c.val]'c.isLt)) e.st.port [] false := Ev.modPlay_act ..

theorem Ev.launchBegun_sole (hm : members m.mask = [c]) (hlead : m.leader = c) :
    e.launchBegun m = e.act c (flaggedChannel (e.st.chans[c.val]'c.isLt)) e.st.port
      [chanRecord c .launch 0 (e.st.chans[c.val]'c.isLt).play.startSlot m.mask.toNat m.generator.val] false := by
  subst hlead
  have hflags : ∀ f, e.forEach (members m.mask) f = f e m.leader := fun f => by
    rw [hm]
    rfl
  unfold Ev.launchBegun
  rw [hflags, Ev.modPlay_flags, Ev.addChanRecord_act, Ev.act_act, Ev.act_st, State.put_chan, State.put_port]
  rfl

/-- The launch of a group of one is the event of its member's entry into RUNNING, its LAUNCH record before it (R92). -/
theorem Ev.launchGroup_sole (hm : members m.mask = [c]) (hlead : m.leader = c) (hch : v.chans[c.val]'c.isLt = countedChannel y)
    (hs : y.play.state = .armed) (hg : y.play.group = some m) (hstep : y.headStep = some ctx) :
    ∃ p, (y.fetch.reader ≠ .decisionPause ∨ v.port.idleEmpty → p = v.port.after (v.resumeReads c ctx))
      ∧ (Ev.of v true).launchGroup c = ((((Ev.of v true).act c (launchedChannel y ctx 0) p
          [chanRecord c .launch 0 y.play.startSlot m.mask.toNat m.generator.val] true).runExpiry c ctx).coded c) := by
  have hbegun : (Ev.of v true).launchBegun m = (Ev.of v true).act c (flaggedChannel y) v.port
      [chanRecord c .launch 0 y.play.startSlot m.mask.toNat m.generator.val] false := by
    rw [Ev.launchBegun_sole hm hlead, Ev.of_st, hch]
    rfl
  have hgroup : (Ev.of v true).chan c = countedChannel y := hch
  obtain ⟨p, -, hp, hlaunch⟩ := Ev.launchMember_eq (e := (Ev.of v true).launchBegun m) (c := c) (ctx := ctx) (ch := y)
    (by rw [hbegun]; exact State.put_chan ..) hs hstep
  refine ⟨p, fun h => ?_, ?_⟩
  · have hport : ((Ev.of v true).launchBegun m).st.port = v.port := by rw [hbegun]; rfl
    have hreads : ((Ev.of v true).launchBegun m).st.resumeReads c ctx = v.resumeReads c ctx := by
      rw [hbegun]
      refine State.resumeReads_congr rfl ?_
      rw [Ev.act_st, State.put_chan, hch]
      rfl
    rw [hport, hreads] at hp
    exact hp h
  · rw [Ev.launchGroup_eq (by rw [hgroup]; exact hg) hlead, hm]
    refine hlaunch.trans ?_
    rw [hbegun, Ev.act_act, Bool.false_or, List.append_nil]

/-- The expiry at which a group of one launches is its member's entry into RUNNING, the expiry counted as the first (R34, R38, R92). -/
theorem exec_expiry_launch_sole (hsole : s.soleOn g c) (hs : (s.chans[c.val]'c.isLt).play.state = .armed)
    (hg : (s.chans[c.val]'c.isLt).play.group = some m) (hmask : ∀ d : Chan, m.mask.getLsbD d.val = true ↔ d = c) (hlead : m.leader = c)
    (hcond : m.condition = .immediate ∨ m.latch = true) (hready : s.memberReady c = true) (hstep : (s.chans[c.val]'c.isLt).headStep = some ctx)
    (hreader : (s.chans[c.val]'c.isLt).fetch.reader ≠ .atFrontier ∧ (s.chans[c.val]'c.isLt).fetch.reader ≠ .decisionPause ∨ s.port.idleEmpty)
    (hu : u = { s.polled c with
      gens := s.gens.set g (reloaded s.gens[g])
      port := (s.polled c).port.after (s.resumeReads c ctx) }) :
    exec (.expiry g) s = .next (((u.entering c (launchedChannel ((s.polled c).chans[c.val]'c.isLt) ctx 281474976710655)
      [chanRecord c .launch 0 (s.chans[c.val]'c.isLt).play.startSlot m.mask.toNat m.generator.val] true).runExpiry c ctx).coded c).expiryEnd := by
  obtain ⟨hrun, honly⟩ := hsole
  obtain ⟨w, hw⟩ : ∃ w, w = { s.polled c with gens := s.gens.set g (reloaded s.gens[g]) } := ⟨_, rfl⟩
  have hm : members m.mask = [c] := members_sole hmask
  have hgens : s.modGen g Gen.reload = { s with gens := s.gens.set g (reloaded s.gens[g]) } := by
    simp [State.modGen, Gen.reload, reloaded]
  have hcount : (s.modGen g Gen.reload).countExpiry c = w.counted c := by
    rw [State.countExpiry_eq (s := s.modGen g Gen.reload) (by rw [hgens]; show (s.chans[c.val]'c.isLt).play.state.counts = true; rw [hs]; rfl)
      (by rw [hgens]; exact hreader.imp (fun h => h.1) id), hgens, State.polled_gens, hw]
  have hfirst : s.launchesAll m := ⟨(hmask _).2 hlead, hcond, fun d hd => by rw [(hmask d).1 hd]; exact ⟨hs, hg, hready⟩⟩
  have hengine : (w.counted c).engine = s.engine := State.polled_engine (u := w) hw
  have hlaunches : (w.counted c).launchesAll m := hfirst.counted hengine fun d _ => State.counted_sameLaunch hw d
  obtain ⟨hplay, hhead, -, -, -⟩ := State.polled_spares hw
  obtain ⟨poll, reader, q, hpolled⟩ := s.polled_put c
  have hwchan : w.chans[c.val]'c.isLt = (s.polled c).chans[c.val]'c.isLt := by rw [hw]
  have hwfetch : ((w.counted c).chans[c.val]'c.isLt).fetch = ((s.polled c).chans[c.val]'c.isLt).fetch := by
    rw [State.counted, State.put_chan, hwchan]
    rfl
  have hreads : (w.counted c).resumeReads c ctx = s.resumeReads c ctx :=
    State.polled_resumeReads (r := w.counted c) hengine hwfetch
  obtain ⟨p, hp, hgroup⟩ := Ev.launchGroup_sole (v := w.counted c) (y := w.chans[c.val]'c.isLt) (ctx := ctx) hm hlead (State.put_chan ..)
    (by rw [hplay]; exact hs) (by rw [hplay]; exact hg) (by rw [hhead]; exact hstep)
  have hport : p = u.port := by
    rw [hp ?_, hreads, hu]
    · show w.port.after _ = _
      rw [hw]
    · obtain ⟨-, -, -, -, -, hpause⟩ := s.polled_same c
      refine hreader.imp (fun h => ?_) fun h => ?_
      · rw [hwchan]
        exact fun h' => h.2 (hpause.1 h')
      · show w.port.idleEmpty
        rw [hw]
        exact State.polled_idleEmpty h
  rw [exec_expiry_launch hrun ((State.attached_sole honly).trans hm.symm) (by rw [hm]; exact hcount.symm) hlaunches, hlead]
  have hentering : ∀ x rs, (Ev.of (w.counted c) true).act c x p rs true = (Ev.of u true).act c x u.port rs true := fun x rs => by
    rw [State.counted_act, hport, hw, hu]
    rfl
  rw [hgroup, hentering, hplay, hwchan, State.entering, countedChannel_launched]

end Sole

end Sys2Proof.Machine

namespace Sys2Proof.Machine

section Sole

variable {s u : State} {g : GenIx} {c : Chan} {m : Membership} {ctx : StepContext} {ch b : Channel} {position : Nat × Nat × Nat}
  {raw : Int} {pool : Pool} {obtained missed fed : Bool}

/-- The first expiry of a launched member counts 0 (R66, R92). -/
theorem startedChannel_launched {y : Channel} (hg : y.play.group = some m) :
    startedChannel (launchedChannel y ctx 281474976710655) ctx =
      { startedChannel
          { enteredChannel { y with fetch := resumedFetch y.fetch ctx } with
            level := { y.level with
              stepClips := 0
              markers := #v[{ y.level.markers[0] with latch := false }, { y.level.markers[1] with latch := false }] } } ctx
        with play := { (startedChannel (enteredChannel { y with fetch := resumedFetch y.fetch ctx }) ctx).play with
          sampleCount := 0, group := some { m with launched := true } } } := by
  simp [startedChannel, launchedChannel, enteredChannel, Play.modGroup, hg, bothMarkers]

/-- The expiry at which a group of one launches, given whole (R34, R91, R92, R165, R176). -/
theorem launch_sole_whole (hsole : s.soleOn g c) (hm : s.unmirrored c) (hs : (s.chans[c]'c.isLt).play.state = .armed)
    (hg : (s.chans[c]'c.isLt).play.group = some m) (hmask : ∀ d : Chan, m.mask.getLsbD d.val = true ↔ d = c) (hlead : m.leader = c)
    (hcond : m.condition = .immediate ∨ m.latch = true) (hready : s.memberReady c = true) (hstep : (s.chans[c]'c.isLt).headStep = some ctx)
    (hreader : (s.chans[c]'c.isLt).fetch.reader ≠ .atFrontier ∧ (s.chans[c]'c.isLt).fetch.reader ≠ .decisionPause ∨ s.port.idleEmpty)
    (hfollow : ∀ d : Chan, (s.chans[d]'d.isLt).follows d c = false)
    (hu : u = { s.polled c with
      gens := s.gens.set g (reloaded s.gens[g])
      port := (s.polled c).port.after (s.resumeReads c ctx) })
    (hch : ch = { s.chans[c]'c.isLt with fetch := resumedFetch (u.chans[c]'c.isLt).fetch ctx })
    (hb : b = { startedChannel
            { enteredChannel ch with
              level := { ch.level with
                stepClips := 0
                markers := #v[{ ch.level.markers[0] with latch := false }, { ch.level.markers[1] with latch := false }] } } ctx
          with play := { (startedChannel (enteredChannel ch) ctx).play with
            sampleCount := 0, group := some { m with launched := true } } })
    (hw : b.play.offset < ctx.wEff) (hn : nextPosition b.play ctx = some position)
    (ho : b.obtains ctx raw pool obtained missed fed) :
    exec (.expiry g) s = .next (State.writeStatusBlock
      (u.afterAction c (playedChannel b ctx raw pool obtained missed position) fed
        (chanRecord c .launch 0 ch.play.startSlot m.mask.toNat m.generator.val
          :: playingRecords c b ctx obtained)) c) := by
  obtain ⟨w, hpolledw⟩ : ∃ w, w = { s.polled c with gens := s.gens.set g (reloaded s.gens[g]) } := ⟨_, rfl⟩
  obtain ⟨-, -, -, hmirror, hfollows⟩ := State.polled_spares hpolledw
  have huw : u.chans = w.chans := by rw [hu, hpolledw]
  have hplain : w.unmirrored c := hmirror hm (by rw [← Fin.getElem_fin, hs]; decide)
  have hmirrors : u.unmirrored c := by
    unfold State.unmirrored State.mirrorsOf at hplain ⊢
    rw [huw]
    exact hplain
  have hfollowers : ∀ d : Chan, (u.chans[d]'d.isLt).follows d c = false := by
    rw [huw]
    exact hfollows hfollow
  obtain ⟨poll, reader, q, hpolled⟩ := s.polled_put c
  have huchan : u.chans[c.val]'c.isLt = (s.polled c).chans[c.val]'c.isLt := by rw [hu]
  have hchan : (s.polled c).chans[c.val]'c.isLt = { s.chans[c.val]'c.isLt with fetch := ((s.polled c).chans[c.val]'c.isLt).fetch } := by
    rw [hpolled, State.put_chan]
  have hch' : ch = { (s.polled c).chans[c.val]'c.isLt with fetch := resumedFetch ((s.polled c).chans[c.val]'c.isLt).fetch ctx } := by
    rw [hch, Fin.getElem_fin, Fin.getElem_fin, huchan, hchan]
  have hgroup : ((s.polled c).chans[c.val]'c.isLt).play.group = some m := by rw [hchan]; exact hg
  have hslot : ch.play.startSlot = (s.chans[c.val]'c.isLt).play.startSlot := by rw [hch]; rfl
  rw [exec_expiry_launch_sole hsole hs hg hmask hlead hcond hready hstep hreader hu, ← hslot]
  rw [hch', ← startedChannel_launched hgroup] at hb
  have hnext := running_next (entered := true) hmirrors rfl hb (fun _ => hfollowers) hw ho hn
    (before := [chanRecord c .launch 0 ch.play.startSlot m.mask.toNat m.generator.val]) rfl
  exact congrArg Host.Outcome.next hnext

end Sole

end Sys2Proof.Machine

namespace Sys2Proof.Machine

/-! ## A member's first expiry as the other channels see it (R92, R105) -/

section Step

variable {e e' : Ev} {c d x : Chan} {ctx : StepContext} {ch y : Channel} {raw : Int} {pool : Pool} {obtained missed fed : Bool}

/-- The channel mirrors `x`. -/
def Channel.mirrors (ch : Channel) (x : Chan) : Prop := ch.play.state = .mirroring ∧ ch.level.mirror = some x

/-- A channel that mirrors another source is not moved with `c`. -/
theorem Ev.moved_spares_unless (e : Ev) (c : Chan) (f : Channel → Channel) (h : ¬(e.st.chans[d.val]'d.isLt).mirrors c) :
    e.spares (e.moved c f) d := by
  refine ⟨?_, State.mirrorsMoved_sameButChannels .., ⟨[], by simp, by simp⟩, Port.grows_refl _ _⟩
  rw [Ev.moved_st, State.mirrorsMoved_get, if_neg fun hd => h (mem_mirrorsOf.1 hd)]

/-- A member whose launch has begun, its first step with more to play than one expiry. -/
structure Ev.launchable (e : Ev) (c : Chan) (ch : Channel) (ctx : StepContext) : Prop where
  flagged : e.st.chans[c.val]'c.isLt = flaggedChannel ch
  armed : ch.play.state = .armed
  head : ch.headStep = some ctx
  window : 1 ≤ ctx.wEff
  more : 1 < ctx.hold ∨ 1 < ctx.wEff ∨ 1 < ctx.body.rep

/-- The channel of a launched member as its first expiry is counted. -/
def Channel.launchStart (ch : Channel) (ctx : StepContext) : Channel := startedChannel (launchedChannel ch ctx 281474976710655) ctx

theorem Channel.launchStart_play (ch : Channel) (ctx : StepContext) : (ch.launchStart ctx).play =
    { (launchedChannel ch ctx 0).play with offset := 0, holdCount := 0, pass := 1, advanceSeen := false, takeMissed := false } := by
  simp [Channel.launchStart, startedChannel, launchedChannel]

/-- A first step with more to play than one expiry goes on (R68, R79). -/
theorem Ev.launchable.next (h : e.launchable c ch ctx) : ∃ position, nextPosition (ch.launchStart ctx).play ctx = some position := by
  have hmore := h.more
  rw [Channel.launchStart_play]
  unfold nextPosition
  simp only [Bool.false_eq_true, and_false, if_false, Nat.zero_add]
  split
  · exact ⟨_, rfl⟩
  · split
    · exact ⟨_, rfl⟩
    · split
      · exact ⟨_, rfl⟩
      · rw [if_pos (by omega)]
        exact ⟨_, rfl⟩

/-- One member launches and outputs its first sample, with which its mirrors move (R67, R92, R105). -/
theorem Ev.launchable.plays (h : e.launchable c ch ctx) (ho : (ch.launchStart ctx).obtains ctx raw pool obtained missed fed) :
    ∃ p starts position, (e.st.port.grows (fun t => t.chan? ≠ some c) p) ∧ e.launchMember c =
      { ((e.act c (launchedChannel ch ctx 0) p [] true).played c (ch.launchStart ctx) ctx raw pool obtained missed fed position).coded c
        with starts := starts } := by
  obtain ⟨p, hgrows, -, hlaunch⟩ := Ev.launchMember_eq h.flagged h.armed h.head
  obtain ⟨position, hn⟩ := h.next
  have hplay := ch.launchStart_play ctx
  have hstate : (ch.launchStart ctx).play.state = .running := by rw [hplay]; rfl
  have hoffset : (ch.launchStart ctx).play.offset < ctx.wEff := by
    rw [hplay]
    exact h.window
  obtain ⟨starts, -, hnext, -⟩ := Ev.runExpiry_cases (e := e.act c (launchedChannel ch ctx 0) p [] true) (c := c)
    (q := launchedChannel ch ctx 281474976710655) (by rw [Ev.act_st, State.put_chan, countedChannel_launched]) rfl hstate hoffset ho
  refine ⟨p, starts, position, hgrows, ?_⟩
  rw [hlaunch, hnext position hn]
  rfl

/-- What the launch of one member leaves of the others and of the rest. -/
structure Ev.launchStep (e e' : Ev) (c : Chan) : Prop where
  spares : ∀ d, d ≠ c → ¬(e.st.chans[d.val]'d.isLt).mirrors c → e.spares e' d
  rest : e.st.sameButChannels e'.st
  recs : ∃ rs, e'.recs = e.recs ++ rs ∧ ∀ r ∈ rs, r.source = .channel c
  counted : e'.counted = e.counted
  lost : e'.lost = e.lost

theorem Ev.launchable.step (h : e.launchable c ch ctx) : e.launchStep (e.launchMember c) c := by
  obtain ⟨raw, pool, obtained, missed, fed, ho⟩ := (ch.launchStart ctx).obtains_exists ctx
  obtain ⟨p, starts, position, hgrows, hplays⟩ := h.plays ho
  obtain ⟨e1, he1⟩ : ∃ e1, e1 = e.act c (launchedChannel ch ctx 0) p [] true := ⟨_, rfl⟩
  obtain ⟨e2, he2⟩ : ∃ e2, e2 = e1.played c (ch.launchStart ctx) ctx raw pool obtained missed fed position := ⟨_, rfl⟩
  rw [← he1, ← he2] at hplays
  have hrecs : e2.recs = e.recs ++ playingRecords c (ch.launchStart ctx) ctx obtained := by
    rw [he2, he1]
    simp [Ev.played]
  rw [hplays]
  have hrecs' : (e2.coded c).recs = e.recs ++ playingRecords c (ch.launchStart ctx) ctx obtained := by
    rw [Ev.coded, Ev.modLevel_act, Ev.act_recs, hrecs, List.append_nil]
  have hsource := playingRecords_source c (ch.launchStart ctx) ctx obtained
  refine ⟨fun d hd hm => ?_, ?_, ⟨_, hrecs', hsource⟩, by rw [he2, he1]; rfl, by rw [he2, he1]; rfl⟩
  · have hact : e.spares e1 d := he1 ▸ e.act_spares (Ne.symm hd) (by simp) hgrows
    have hmoved := e1.moved_spares_unless c (fun m => mirrorShowing m
      (e1.st.playedAt c (ch.launchStart ctx) ctx raw pool obtained missed fed position) raw) (by rw [hact.chan]; exact hm)
    have hplayed : e1.spares e2 d := he2 ▸ hmoved.trans (Ev.act_spares _ (Ne.symm hd) hsource
      (State.withSample_grows e1.st c _ raw pool missed fed))
    exact (hact.trans (hplayed.trans (Ev.coded_spares _ (Ne.symm hd)))).bits _ _
  · have hfirst : e.st.sameButChannels e1.st := he1 ▸ State.put_sameButChannels ..
    have hsecond : e1.st.sameButChannels e2.st :=
      he2 ▸ State.sameButChannels_trans (State.mirrorsMoved_sameButChannels ..) (State.put_sameButChannels ..)
    have hthird : e2.st.sameButChannels (e2.coded c).st := by
      rw [Ev.coded, Ev.modLevel_act]
      exact State.put_sameButChannels ..
    exact State.sameButChannels_trans hfirst (State.sameButChannels_trans hsecond hthird)

end Step

end Sys2Proof.Machine

namespace Sys2Proof.Machine

section Launched

variable {e e' : Ev} {c d x : Chan} {ctx : StepContext} {ch t : Channel} {raw gain offset : Int} {pool : Pool}
  {obtained missed fed : Bool} {m : Membership} {position : Nat × Nat × Nat}

/-! ## What a launched member shows (R92, R98, R111) -/

theorem OneShot.takeSetting_latch (m : OneShot) (setting : MarkerSetting) : (m.takeSetting setting).latch = m.latch := by
  unfold OneShot.takeSetting OneShot.start
  dsimp only
  split
  · split
    · rfl
    · split <;> rfl
  · rfl

theorem OneShot.count_latch (m : OneShot) : m.count.latch = m.latch := by
  unfold OneShot.count OneShot.delayElapsed OneShot.widthElapsed
  split
  · rfl
  · dsimp only
    split <;> rfl
  · dsimp only
    split <;> rfl

/-- A member that has launched with the membership `m`, its lane showing the sample `raw` under the gain and offset (R92, R98, R111). -/
structure Channel.launchedWith (t : Channel) (m : Membership) (raw gain offset : Int) : Prop where
  running : t.play.state = .running ∧ t.play.wait = .none
  sampleCount : t.play.sampleCount = 0
  group : t.play.group = some { m with launched := true }
  first : t.play.stepExpiries = 1 ∧ t.play.heldRaw = raw ∧ t.play.advanceSeen = false
  lane : t.level.lane = levelCode raw gain offset
  latches : t.level.markers[0].latch = false ∧ t.level.markers[1].latch = false

/-- The conditions of a channel are no part of its launch. -/
theorem Channel.launchedWith.congr {t' : Channel} (h : t.launchedWith m raw gain offset) (hp : t'.play = t.play)
    (hl : t'.level = t.level) : t'.launchedWith m raw gain offset := by
  obtain ⟨h1, h2, h3, h4, h5, h6⟩ := h
  rw [← hp] at h1 h2 h3 h4
  rw [← hl] at h5 h6
  exact ⟨h1, h2, h3, h4, h5, h6⟩

theorem playedChannel_level (b : Channel) (ctx : StepContext) (raw : Int) (pool : Pool) (obtained missed : Bool)
    (position : Nat × Nat × Nat) :
    (playedChannel b ctx raw pool obtained missed position).level.lane = levelCode raw b.level.gain b.level.offset
      ∧ (playedChannel b ctx raw pool obtained missed position).level.markers
        = #v[(b.level.markers[0].present true).count, (b.level.markers[1].present true).count] := by
  rw [levelCode_eq]
  unfold playedChannel shownChannel
  dsimp only
  split <;> exact ⟨rfl, rfl⟩

theorem playedChannel_first (b : Channel) (ctx : StepContext) (raw : Int) (pool : Pool) (obtained missed : Bool)
    (position : Nat × Nat × Nat) :
    (playedChannel b ctx raw pool obtained missed position).play.wait = b.play.wait
      ∧ (playedChannel b ctx raw pool obtained missed position).play.sampleCount = b.play.sampleCount
      ∧ (playedChannel b ctx raw pool obtained missed position).play.group = b.play.group
      ∧ (playedChannel b ctx raw pool obtained missed position).play.stepExpiries = b.play.stepExpiries + 1
      ∧ (playedChannel b ctx raw pool obtained missed position).play.heldRaw = raw := by
  unfold playedChannel shownChannel
  dsimp only
  split <;> exact ⟨rfl, rfl, rfl, rfl, rfl⟩

theorem playedChannel_launched (hg : ch.play.group = some m)
    (hgain : gain = if ctx.body.levelsPresent then ctx.body.gain else ch.level.defGain)
    (hoffset : offset = if ctx.body.levelsPresent then ctx.body.offset else ch.level.defOffset) :
    (playedChannel (ch.launchStart ctx) ctx raw pool obtained missed position).launchedWith m raw gain offset := by
  obtain ⟨-, -, -, hadvance, hstate⟩ := playedChannel_play (ch.launchStart ctx) ctx raw pool obtained missed position
  obtain ⟨hwait, hcount, hgroup, hexpiries, hraw⟩ := playedChannel_first (ch.launchStart ctx) ctx raw pool obtained missed position
  obtain ⟨hlane, hmarkers⟩ := playedChannel_level (ch.launchStart ctx) ctx raw pool obtained missed position
  rw [Channel.launchStart_play] at hadvance hstate hwait hcount hgroup hexpiries
  have hlevels : (ch.launchStart ctx).level.gain = gain ∧ (ch.launchStart ctx).level.offset = offset := by
    rw [hgain, hoffset]
    exact ⟨rfl, rfl⟩
  refine ⟨⟨hstate, hwait⟩, hcount, hgroup.trans ?_, ⟨hexpiries, hraw, hadvance⟩, ?_, ?_⟩
  · show ch.play.group.map _ = _
    rw [hg]
    rfl
  · rw [hlane, hlevels.1, hlevels.2]
  · rw [hmarkers]
    exact ⟨(OneShot.count_latch _).trans (OneShot.takeSetting_latch _ _), (OneShot.count_latch _).trans (OneShot.takeSetting_latch _ _)⟩

/-- A member's own channel after its launch, and the channel of one of its mirrors (R92, R105). -/
theorem Ev.launchable.own (h : e.launchable c ch ctx) (ho : (ch.launchStart ctx).obtains ctx raw pool obtained missed fed)
    (hg : ch.play.group = some m) (hgain : gain = if ctx.body.levelsPresent then ctx.body.gain else ch.level.defGain)
    (hoffset : offset = if ctx.body.levelsPresent then ctx.body.offset else ch.level.defOffset) :
    ((e.launchMember c).st.chans[c.val]'c.isLt).launchedWith m raw gain offset
      ∧ ∀ d : Chan, (e.st.chans[d.val]'d.isLt).mirrors c →
        ((e.launchMember c).st.chans[d.val]'d.isLt) = mirrorShowing (e.st.chans[d.val]'d.isLt) ((e.launchMember c).st.chans[c.val]'c.isLt) raw := by
  obtain ⟨p, starts, position, -, hplays⟩ := h.plays ho
  obtain ⟨e1, he1⟩ : ∃ e1, e1 = e.act c (launchedChannel ch ctx 0) p [] true := ⟨_, rfl⟩
  obtain ⟨X, hX⟩ : ∃ X, X = e1.st.playedAt c (ch.launchStart ctx) ctx raw pool obtained missed fed position := ⟨_, rfl⟩
  have hact : (e1.played c (ch.launchStart ctx) ctx raw pool obtained missed fed position).coded c
      = (e1.moved c fun y => mirrorShowing y X raw).act c (X.withCode X.level.lane)
        (e1.st.withSample c (ch.launchStart ctx) raw pool missed fed).port (playingRecords c (ch.launchStart ctx) ctx obtained) false := by
    rw [hX]
    exact Ev.coded_act _
  have hst : (e.launchMember c).st = ((e1.moved c fun y => mirrorShowing y X raw).act c (X.withCode X.level.lane)
      (e1.st.withSample c (ch.launchStart ctx) raw pool missed fed).port (playingRecords c (ch.launchStart ctx) ctx obtained) false).st := by
    rw [hplays, ← he1, hact]
  have hchan : (e.launchMember c).st.chans[c.val]'c.isLt = X.withCode X.level.lane := by
    rw [hst, Ev.act_st, State.put_chan]
  refine ⟨?_, fun d hd => ?_⟩
  · rw [hchan]
    refine (playedChannel_launched hg hgain hoffset).congr (t := playedChannel (ch.launchStart ctx) ctx raw pool obtained missed position) ?_ ?_
    · rw [hX]
      rfl
    · rw [hX]
      rfl
  · have hne : c ≠ d := by
      rintro rfl
      have hstate := hd.1
      rw [h.flagged] at hstate
      have harmed : ch.play.state = .mirroring := hstate
      rw [h.armed] at harmed
      cases harmed
    have hkept : e1.st.chans[d.val]'d.isLt = e.st.chans[d.val]'d.isLt := by rw [he1, Ev.act_st, State.put_other _ _ _ hne]
    rw [hchan, hst, Ev.act_st, State.put_other _ _ _ hne, Ev.moved_st, State.mirrorsMoved_get,
      if_pos (mem_mirrorsOf.2 (by rw [hkept]; exact hd)), hkept]
    exact mirrorShowing_lines rfl rfl _ _

end Launched

end Sys2Proof.Machine

namespace Sys2Proof.Machine

section All

variable {e e' : Ev} {c d x : Chan} {l : List Chan} {ctx : StepContext} {ch : Channel} {raw gain offset : Int} {pool : Pool}
  {obtained missed fed : Bool} {m : Membership}

/-! ## The members of a group launch in turn (R92) -/

/-- Every channel of a list can launch. -/
def Ev.allLaunchable (e : Ev) (l : List Chan) : Prop := ∀ x ∈ l, ∃ ch ctx, e.launchable x ch ctx

theorem Ev.launchable.same (h : e.launchable x ch ctx) (hs : e.spares e' x) : e'.launchable x ch ctx :=
  ⟨hs.chan.trans h.flagged, h.armed, h.head, h.window, h.more⟩

theorem Ev.launchable.mirrors_none (h : e.launchable x ch ctx) (c : Chan) : ¬(e.st.chans[x.val]'x.isLt).mirrors c := by
  intro hm
  have hstate := hm.1
  rw [h.flagged] at hstate
  have harmed : ch.play.state = .mirroring := hstate
  rw [h.armed] at harmed
  cases harmed

/-- What the launches of a list of members leave of the other channels and of the rest. -/
structure Ev.launchSteps (e e' : Ev) (l : List Chan) : Prop where
  spares : ∀ d, d ∉ l → (∀ x ∈ l, ¬(e.st.chans[d.val]'d.isLt).mirrors x) → e.spares e' d
  rest : e.st.sameButChannels e'.st
  recs : ∃ rs, e'.recs = e.recs ++ rs ∧ ∀ r ∈ rs, ∃ x ∈ l, r.source = .channel x
  counted : e'.counted = e.counted
  lost : e'.lost = e.lost

/-- Once one member has launched the others still can. -/
theorem Ev.launchable.leaves (h : e.launchable c ch ctx) (hl : e.allLaunchable l) (hc : c ∉ l) : (e.launchMember c).allLaunchable l := by
  intro x hx
  obtain ⟨ch', ctx', hx'⟩ := hl x hx
  exact ⟨ch', ctx', hx'.same (h.step.spares x (fun h => hc (h ▸ hx)) (hx'.mirrors_none c))⟩

theorem Ev.allLaunchable.steps (hl : l.Nodup) (h : e.allLaunchable l) : e.launchSteps (e.forEach l Ev.launchMember) l := by
  induction l generalizing e with
  | nil => exact ⟨fun d _ _ => e.spares_refl d, e.st.sameButChannels_refl, ⟨[], by simp [Ev.forEach], by simp⟩, rfl, rfl⟩
  | cons c rest ih =>
    obtain ⟨hc, hrest⟩ := List.nodup_cons.1 hl
    obtain ⟨ch, ctx, hfirst⟩ := h c (List.mem_cons_self ..)
    obtain ⟨hsp, hre, ⟨rs, hrs, hsrc⟩, hco, hlo⟩ := hfirst.step
    obtain ⟨hsp', hre', ⟨rs', hrs', hsrc'⟩, hco', hlo'⟩ :=
      ih hrest (hfirst.leaves (fun x hx => h x (List.mem_cons_of_mem _ hx)) hc)
    have hcons : e.forEach (c :: rest) Ev.launchMember = (e.launchMember c).forEach rest Ev.launchMember := rfl
    rw [hcons]
    refine ⟨fun d hd hm => ?_, State.sameButChannels_trans hre hre', ⟨rs ++ rs', ?_, fun r hr => ?_⟩, hco'.trans hco, hlo'.trans hlo⟩
    · obtain ⟨hne, hd'⟩ := not_or.1 fun h => hd (List.mem_cons.2 h)
      have hspares := hsp d hne (hm c (List.mem_cons_self ..))
      refine hspares.trans (hsp' d hd' fun x hx => ?_)
      rw [hspares.chan]
      exact hm x (List.mem_cons_of_mem _ hx)
    · rw [hrs', hrs, List.append_assoc]
    · rcases List.mem_append.1 hr with hr | hr
      · exact ⟨c, List.mem_cons_self .., hsrc r hr⟩
      · obtain ⟨x, hx, hsource⟩ := hsrc' r hr
        exact ⟨x, List.mem_cons_of_mem _ hx, hsource⟩

/-- A member and its mirrors once every member has launched (R92, R105). -/
theorem Ev.launchable.among (h : e.launchable c ch ctx) (hl : l.Nodup) (hc : c ∈ l) (hall : e.allLaunchable l)
    (ho : (ch.launchStart ctx).obtains ctx raw pool obtained missed fed) (hg : ch.play.group = some m)
    (hgain : gain = if ctx.body.levelsPresent then ctx.body.gain else ch.level.defGain)
    (hoffset : offset = if ctx.body.levelsPresent then ctx.body.offset else ch.level.defOffset) :
    ((e.forEach l Ev.launchMember).st.chans[c.val]'c.isLt).launchedWith m raw gain offset
      ∧ ∀ d : Chan, (e.st.chans[d.val]'d.isLt).mirrors c → ((e.forEach l Ev.launchMember).st.chans[d.val]'d.isLt)
        = mirrorShowing (e.st.chans[d.val]'d.isLt) ((e.forEach l Ev.launchMember).st.chans[c.val]'c.isLt) raw := by
  obtain ⟨l1, l2, rfl⟩ := List.append_of_mem hc
  obtain ⟨hl1, hl2, hdisj⟩ := List.nodup_append.1 hl
  obtain ⟨hc2, hl2⟩ := List.nodup_cons.1 hl2
  have hc1 : c ∉ l1 := fun h => hdisj c h c (List.mem_cons_self ..) rfl
  obtain ⟨e1, he1⟩ : ∃ e1, e1 = e.forEach l1 Ev.launchMember := ⟨_, rfl⟩
  have hsplit : e.forEach (l1 ++ c :: l2) Ev.launchMember = (e1.launchMember c).forEach l2 Ev.launchMember := by
    unfold Ev.forEach at he1 ⊢
    rw [List.foldl_append, List.foldl_cons, he1]
  have hbefore : e.launchSteps e1 l1 :=
    he1 ▸ Ev.allLaunchable.steps hl1 fun x hx => hall x (List.mem_append_left _ hx)
  have hsame : e.spares e1 c := hbefore.spares c hc1 fun x _ => h.mirrors_none x
  have hnow : e1.launchable c ch ctx := h.same hsame
  have hlater : e1.allLaunchable l2 := fun x hx => by
    obtain ⟨ch', ctx', hx'⟩ := hall x (List.mem_append_right _ (List.mem_cons_of_mem _ hx))
    refine ⟨ch', ctx', hx'.same (hbefore.spares x (fun h1 => ?_) fun y _ => hx'.mirrors_none y)⟩
    exact hdisj x h1 x (List.mem_cons_of_mem _ hx) rfl
  have hafter := Ev.allLaunchable.steps hl2 (hnow.leaves hlater hc2)
  obtain ⟨hown, hmirrors⟩ := hnow.own ho hg hgain hoffset
  have hcafter : (e1.launchMember c).spares ((e1.launchMember c).forEach l2 Ev.launchMember) c := by
    refine hafter.spares c hc2 fun x _ hx => ?_
    have hstate := hx.1
    rw [hown.running.1] at hstate
    cases hstate
  rw [hsplit, hcafter.chan]
  refine ⟨hown, fun d hd => ?_⟩
  have hnone : ∀ x ∈ l1 ++ c :: l2, d ≠ x := fun x hx hdx => by
    obtain ⟨ch', ctx', hx'⟩ := hall x hx
    exact hx'.mirrors_none c (hdx ▸ hd)
  have hmirror : ∀ x : Chan, x ≠ c → ∀ y : Channel, y.mirrors c → ¬y.mirrors x := fun x hx y hy hyx =>
    hx (Option.some.inj (hyx.2.symm.trans hy.2))
  have hdbefore : e.spares e1 d := hbefore.spares d (fun h1 => hnone d (List.mem_append_left _ h1) rfl) fun x hx =>
    hmirror x (fun h' => hc1 (h' ▸ hx)) _ hd
  have hdnow := hmirrors d (by rw [hdbefore.chan]; exact hd)
  have hdafter : (e1.launchMember c).spares ((e1.launchMember c).forEach l2 Ev.launchMember) d := by
    refine hafter.spares d (fun h2 => hnone d (List.mem_append_right _ (List.mem_cons_of_mem _ h2)) rfl) fun x hx => ?_
    rw [hdnow, hdbefore.chan]
    exact hmirror x (fun h' => hc2 (h' ▸ hx)) _ hd
  rw [hdafter.chan, hdnow, hdbefore.chan]

end All

end Sys2Proof.Machine

namespace Sys2Proof.Machine

section Groups

variable {e : Ev} {s t v : State} {c d z : Chan} {g : GenIx} {l : List Chan} {ctx : StepContext} {ch : Channel} {raw gain offset : Int}
  {m : Membership}

/-! ## A leader step start that no channel takes (R73, R78) -/

/-- A leader's step start passes the channel by: a mirror, or a channel that makes its own step start now (R73, R78). -/
def Channel.passedBy (ch : Channel) : Prop :=
  ch.play.state = .mirroring ∨ ch.play.state = .running ∧ ch.play.stepExpiries < 2

theorem Ev.offerTo_passes {leader : Chan} {counted : BitVec 8} (h : (e.st.chans[z.val]'z.isLt).passedBy) : Ev.offerTo leader counted e z = e := by
  have hwait : ¬((e.chan z).play.state = .waiting ∧ (e.chan z).play.wait = .leader ∧ inMask counted z = true) := by
    rw [Ev.chan_eq]
    rintro ⟨hs, -⟩
    rcases h with h | h
    · cases hs.symm.trans h
    · cases hs.symm.trans h.1
  have hadvance : ¬((e.chan z).attendsAdvance .leader = true ∧ 2 ≤ (e.chan z).play.stepExpiries) := by
    rw [Ev.chan_eq]
    rintro ⟨ha, hx⟩
    rcases h with h | h
    · cases ((Channel.attendsAdvance_iff _ _).1 ha).1.symm.trans h
    · omega
  unfold Ev.offerTo
  dsimp only
  rw [if_neg hwait, if_neg hadvance]
  split <;> rfl

/-- The offers of leader step starts leave such a channel, and all but the channels, the port and the records, as they are. -/
theorem offers_pass (l : List Chan) (counted : BitVec 8) (s : State) :
    let t := l.foldl (fun s d => s.event fun e => e.offerLeaderStart d counted) s
    s.sameRest t ∧ ∀ z : Chan, (s.chans[z.val]'z.isLt).passedBy → (t.chans[z.val]'z.isLt) = s.chans[z.val]'z.isLt := by
  refine List.foldlRecOn (motive := fun t : State => s.sameRest t ∧ ∀ z : Chan, (s.chans[z.val]'z.isLt).passedBy → (t.chans[z.val]'z.isLt) = s.chans[z.val]'z.isLt)
    l _ ⟨⟨rfl, rfl, rfl, rfl, rfl, rfl, rfl, rfl⟩, fun _ _ => rfl⟩ fun t ⟨hrest, hchan⟩ lead _ => ?_
  have hevent : t.event (fun e => e.offerLeaderStart lead counted) = ((Ev.of t false).offerLeaderStart lead counted).finish := rfl
  have hspares : ∀ z : Chan, (∀ e, (Ev.of t false).spares e z → Ev.offerTo lead counted e z = e) →
      (Ev.of t false).spares ((Ev.of t false).offerLeaderStart lead counted) z := fun z hz => by
    rw [Ev.offerLeaderStart_eq]
    refine Ev.forEach_spares fun e he d _ => ?_
    by_cases hd : d = z
    · subst hd
      rw [hz e he]
      exact e.spares_refl d
    · exact e.offerTo_spares lead counted hd
  rw [hevent]
  refine ⟨?_, fun z hz => ?_⟩
  · have hbut : (Ev.of t false).st.sameButChannels ((Ev.of t false).offerLeaderStart lead counted).st := by
      refine List.foldlRecOn (motive := fun e : Ev => t.sameButChannels e.st) _ _ t.sameButChannels_refl fun e he d _ => ?_
      obtain ⟨x, hx⟩ : ∃ x : Chan, d ≠ x := (by decide : ∀ d : Chan, ∃ x : Chan, d ≠ x) d
      exact State.sameButChannels_trans he (e.offerTo_spares lead counted hx).rest
    exact hrest.trans (hbut.sameRest.trans (Ev.finish_records _).sameRest)
  · have hnow : (Ev.of t false).spares ((Ev.of t false).offerLeaderStart lead counted) z := hspares z fun e he =>
      Ev.offerTo_passes (by rw [he.chan, Ev.of_st, hchan z hz]; exact hz)
    exact (hnow.finish_same (by simp)).trans (hchan z hz)

/-! ## The launch of a whole group (R91, R92) -/

/-- The first sample of a launch, where it is there (R58, R67). -/
theorem Channel.launchStart_obtains (h : ctx.resident = false ∧ ch.pool.queue.head? = some raw
    ∨ ctx.resident = true ∧ ch.pool.bankRead ctx 0 = some raw) :
    ∃ pool obtained missed fed, (ch.launchStart ctx).obtains ctx raw pool obtained missed fed := by
  have hplay := ch.launchStart_play ctx
  rcases h with ⟨hres, hq⟩ | ⟨hres, hread⟩
  · obtain ⟨rest, hqueue⟩ := List.head?_eq_some_iff.1 hq
    exact ⟨_, _, _, _, Or.inl ⟨hres, by rw [hplay], ⟨rest, hqueue, rfl⟩, rfl, rfl, rfl⟩⟩
  · refine ⟨_, _, _, _, Or.inr (Or.inr (Or.inr (Or.inl ⟨hres, ?_, rfl, rfl, rfl, rfl⟩)))⟩
    rw [hplay]
    exact hread

/-- The launch's flags are set in the members alone, and its record is the leader's (R92). -/
theorem Ev.launchBegun_eq (e : Ev) (m : Membership) : ∃ r : Record, r.source = .channel m.leader ∧ e.launchBegun m = { e with
    st := { e.st with
      chans := vec8 fun d => if d ∈ members m.mask then flaggedChannel (e.st.chans[d]'d.isLt) else (e.st.chans[d]'d.isLt) }
    recs := e.recs ++ [r] } := by
  have hflags : (e.forEach (members m.mask) fun e c => e.modPlay c fun p =>
      { p.modGroup (fun g => { g with launched := true }) with sampleCount := 0 }) = { e with st := { e.st with
        chans := vec8 fun d => if d ∈ members m.mask then flaggedChannel (e.st.chans[d]'d.isLt) else (e.st.chans[d]'d.isLt) } } := by
    refine (Ev.forEach_eachChan (g := fun d => flaggedChannel (e.st.chans[d]'d.isLt)) (h := fun _ p => p) (r := fun _ => [])
      (a := fun _ => 0#8) (fun _ => True) (members_nodup _) trivial (fun _ _ _ _ _ => trivial) fun t d _ _ hsame => ?_).trans ?_
    · rw [Ev.modPlay_flags, ← Fin.getElem_fin, hsame]
      simp [Ev.act, askedBit, State.put]
    · have hnone : (members m.mask).flatMap (fun _ : Chan => ([] : List Record)) = [] := by simp
      simp only [hnone, List.append_nil, BitVec.or_zero, List.foldl_fixed]
  unfold Ev.launchBegun
  rw [hflags]
  exact ⟨_, rfl, rfl⟩

end Groups

end Sys2Proof.Machine

namespace Sys2Proof.Machine

section Launch

variable {s v : State} {g : GenIx} {c d : Chan} {ctx : StepContext} {raw gain offset : Int} {m : Membership}

/-- A whole group is about to launch on the generator that all its members, and no other channel, are attached to (R91, R92). -/
structure State.groupDue (s : State) (g : GenIx) (m : Membership) : Prop where
  running : s.gens[g].running = true
  launches : s.launchesAll m
  attached : ∀ c : Chan, (s.chans[c.val]'c.isLt).play.generator = g ↔ m.mask.getLsbD c.val = true
  more : ∀ (c : Chan) (ctx : StepContext), m.mask.getLsbD c.val = true → (s.chans[c.val]'c.isLt).headStep = some ctx →
    1 ≤ ctx.wEff ∧ (1 < ctx.hold ∨ 1 < ctx.wEff ∨ 1 < ctx.body.rep)

/-- The state in which the members have counted the launch's expiry (R38, R66, R115). -/
theorem State.groupDue.counted (h : s.groupDue g m) : ∃ v p, v = { s with
      gens := s.gens.set g (reloaded s.gens[g])
      chans := vec8 fun c => if c ∈ members m.mask then s.countedAt c else (s.chans[c]'c.isLt)
      port := p }
    ∧ v.launchesAll m ∧ exec (.expiry g) s = .next ((Ev.of v true).launchGroup m.leader).expiryEnd := by
  have hgens : s.modGen g Gen.reload = { s with gens := s.gens.set g (reloaded s.gens[g]) } := by
    simp [State.modGen, Gen.reload, reloaded]
  have hcounted : ∀ c, (s.modGen g Gen.reload).countedAt c = s.countedAt c := fun c =>
    congrArg countedChannel (State.polled_chan_congr rfl rfl)
  obtain ⟨p, hcount⟩ := State.countExpiry_all (members_nodup m.mask) (s := s.modGen g Gen.reload) fun c hc => by
    show (s.chans[c.val]'c.isLt).play.state.counts = true
    rw [(h.launches.members c (mem_members.1 hc)).1]
    rfl
  obtain ⟨v, hv⟩ : ∃ v, v = (members m.mask).foldl State.countExpiry (s.modGen g Gen.reload) := ⟨_, rfl⟩
  have hvs : v = { s with
      gens := s.gens.set g (reloaded s.gens[g])
      chans := vec8 fun c => if c ∈ members m.mask then s.countedAt c else (s.chans[c]'c.isLt)
      port := p } := by
    rw [hv, hcount]
    simp only [hcounted]
    rw [hgens]
  have hlaunches : v.launchesAll m := by
    refine h.launches.counted (by rw [hvs]) fun c hc => ?_
    have hchan : v.chans[c.val]'c.isLt = s.countedAt c := by
      rw [hvs]
      exact (vec8_get _ c).trans (if_pos (mem_members.2 hc))
    rw [hchan]
    exact s.countedAt_sameLaunch c
  have hatt : s.attached g = members m.mask :=
    List.filter_congr fun c _ => Bool.eq_iff_iff.2 (decide_eq_true_iff.trans (h.attached c))
  exact ⟨v, p, hvs, hlaunches, exec_expiry_launch h.running hatt hv hlaunches⟩

/-- The launch's event once it has begun: the members flagged, the LAUNCH record raised, all else as the expiry found it (R92). -/
structure State.begun (s : State) (g : GenIx) (m : Membership) (e : Ev) : Prop where
  flagged : ∀ c : Chan, m.mask.getLsbD c.val = true → (e.st.chans[c.val]'c.isLt) = flaggedChannel (s.countedAt c)
  stands : ∀ d : Chan, ¬m.mask.getLsbD d.val = true → (e.st.chans[d.val]'d.isLt) = s.chans[d.val]'d.isLt
  rest : State.sameRest { s with gens := s.gens.set g (reloaded s.gens[g]) } e.st
  recs : ∃ r : Record, e.recs = [r] ∧ r.source = .channel m.leader
  lost : e.lost = 0

theorem State.groupDue.begins (h : s.groupDue g m) :
    ∃ e, s.begun g m e ∧ exec (.expiry g) s = .next (e.forEach (members m.mask) Ev.launchMember).expiryEnd := by
  obtain ⟨v, p, hv, hlaunches, hexec⟩ := h.counted
  have hmember : ∀ c : Chan, m.mask.getLsbD c.val = true → (v.chans[c.val]'c.isLt) = s.countedAt c := fun c hc => by
    rw [hv]
    exact (vec8_get _ c).trans (if_pos (mem_members.2 hc))
  have hother : ∀ d : Chan, ¬m.mask.getLsbD d.val = true → (v.chans[d.val]'d.isLt) = s.chans[d.val]'d.isLt := fun d hd => by
    rw [hv]
    exact (vec8_get _ d).trans (if_neg fun h => hd (mem_members.1 h))
  obtain ⟨record, hsource, hbegun⟩ := (Ev.of v true).launchBegun_eq m
  have hgroup : ((Ev.of v true).chan m.leader).play.group = some m := (hlaunches.members m.leader hlaunches.leads).2.1
  refine ⟨(Ev.of v true).launchBegun m, ⟨fun c hc => ?_, fun d hd => ?_, ?_, ⟨record, by rw [hbegun]; rfl, hsource⟩, by rw [hbegun]; rfl⟩,
    by rw [hexec, Ev.launchGroup_eq hgroup rfl]⟩
  · rw [← hmember c hc, hbegun]
    exact (vec8_get _ c).trans (if_pos (mem_members.2 hc))
  · rw [← hother d hd, hbegun]
    exact (vec8_get _ d).trans (if_neg fun h => hd (mem_members.1 h))
  · rw [hbegun, hv]
    exact ⟨rfl, rfl, rfl, rfl, rfl, rfl, rfl, rfl⟩

/-- The channel `c` has launched and shows `raw`, and its mirrors of `s` show it with their own levels (R92, R105). -/
def State.showsLaunch (s t : State) (m : Membership) (c : Chan) (raw gain offset : Int) : Prop :=
  (t.chans[c.val]'c.isLt).launchedWith m raw gain offset
    ∧ ∀ d : Chan, (s.chans[d.val]'d.isLt).mirrors c → (t.chans[d.val]'d.isLt) = mirrorShowing (s.chans[d.val]'d.isLt) (t.chans[c.val]'c.isLt) raw

/-- A launch stays shown where the member keeps its playing state and levels, and its mirrors stand. -/
theorem State.showsLaunch.congr {t t' : State} (h : s.showsLaunch t m c raw gain offset)
    (hplay : (t'.chans[c.val]'c.isLt).play = (t.chans[c.val]'c.isLt).play) (hlevel : (t'.chans[c.val]'c.isLt).level = (t.chans[c.val]'c.isLt).level)
    (hmirrors : ∀ d : Chan, (s.chans[d.val]'d.isLt).mirrors c → (t'.chans[d.val]'d.isLt) = t.chans[d.val]'d.isLt) : s.showsLaunch t' m c raw gain offset := by
  obtain ⟨hown, hshown⟩ := h
  refine ⟨hown.congr hplay hlevel, fun d hd => (hmirrors d hd).trans ((hshown d hd).trans ?_)⟩
  exact mirrorShowing_lines (by rw [hlevel]) (by rw [hlevel]) _ _

theorem State.groupDue.unmirroring (h : s.groupDue g m) (hd : (s.chans[d.val]'d.isLt).mirrors c) : ¬m.mask.getLsbD d.val = true := fun hm => by
  cases hd.1.symm.trans (h.launches.members d hm).1

section Begun

variable {e : Ev} (h : s.groupDue g m) (hb : s.begun g m e)

include h hb

/-- Every member can launch once the launch has begun. -/
theorem State.begun.launchable (hc : m.mask.getLsbD c.val = true) (hstep : (s.chans[c.val]'c.isLt).headStep = some ctx) :
    e.launchable c (s.countedAt c) ctx := by
  obtain ⟨hhead, -, hstate, -⟩ := s.countedAt_sameLaunch c
  obtain ⟨hwindow, hmore⟩ := h.more c ctx hc hstep
  exact ⟨hb.flagged c hc, hstate.trans (h.launches.members c hc).1, hhead.trans hstep, hwindow, hmore⟩

theorem State.begun.allLaunchable : e.allLaunchable (members m.mask) := fun c hc => by
  obtain ⟨ctx, hstep, -⟩ := (State.memberReady_iff s c).1 (h.launches.members c (mem_members.1 hc)).2.2
  exact ⟨_, ctx, State.begun.launchable h hb (mem_members.1 hc) hstep⟩

/-- The members launch in turn, each with its mirrors (R92, R105). -/
theorem State.begun.shows (hc : m.mask.getLsbD c.val = true) (hstep : (s.chans[c.val]'c.isLt).headStep = some ctx)
    (hraw : ctx.resident = false ∧ (s.chans[c.val]'c.isLt).pool.queue.head? = some raw
      ∨ ctx.resident = true ∧ (s.chans[c.val]'c.isLt).pool.bankRead ctx 0 = some raw)
    (hgain : gain = if ctx.body.levelsPresent then ctx.body.gain else (s.chans[c.val]'c.isLt).level.defGain)
    (hoffset : offset = if ctx.body.levelsPresent then ctx.body.offset else (s.chans[c.val]'c.isLt).level.defOffset) :
    s.showsLaunch (e.forEach (members m.mask) Ev.launchMember).st m c raw gain offset := by
  obtain ⟨-, hpool, -, hgroup⟩ := s.countedAt_sameLaunch c
  have hlevel : (s.countedAt c).level = (s.chans[c.val]'c.isLt).level := (s.polled_same c).2.2.1
  obtain ⟨pool, obtained, missed, fed, ho⟩ := Channel.launchStart_obtains (ch := s.countedAt c) (by rw [hpool]; exact hraw)
  obtain ⟨hown, hmirrors⟩ := (State.begun.launchable h hb hc hstep).among (gain := gain) (offset := offset) (members_nodup _) (mem_members.2 hc)
    (State.begun.allLaunchable h hb) ho (hgroup.trans (h.launches.members c hc).2.1) (by rw [hlevel]; exact hgain)
    (by rw [hlevel]; exact hoffset)
  refine ⟨hown, fun d hd => ?_⟩
  have hstands := hb.stands d (h.unmirroring hd)
  rw [← hstands]
  exact hmirrors d (by rw [hstands]; exact hd)

/-- No mirror of a source raises a record at the launch (R165). -/
theorem State.begun.quiet {E : Ev} (hE : e.launchSteps E (members m.mask)) (hd : ¬m.mask.getLsbD d.val = true) :
    E.finish.chans[d.val]'d.isLt = E.st.chans[d.val]'d.isLt := by
  obtain ⟨rs, hrs, hsrc⟩ := hE.recs
  obtain ⟨record, hrecord, hsource⟩ := hb.recs
  refine Ev.finish_quiet fun r hr hrd => hd ?_
  rw [hrs, hrecord] at hr
  rcases List.mem_append.1 hr with hr | hr
  · rw [List.mem_singleton.1 hr, hsource] at hrd
    exact Source.channel.inj hrd ▸ h.launches.leads
  · obtain ⟨x, hx, hrx⟩ := hsrc r hr
    exact Source.channel.inj (hrx.symm.trans hrd) ▸ mem_members.1 hx

end Begun

theorem Channel.launchedWith.passedBy {t : Channel} (h : t.launchedWith m raw gain offset) : t.passedBy :=
  Or.inr ⟨h.running.1, by rw [h.first.1]; decide⟩

/-- An expiry at which no leader is lost ends with the offers of its leaders' step starts (R73). -/
theorem Ev.expiryEnd_offers {E : Ev} (hlost : E.lost = 0) :
    E.expiryEnd = (members E.starts).foldl (fun s d => s.event fun e => e.offerLeaderStart d E.counted) E.finish := by
  have hnone : members E.lost = [] := by
    rw [hlost]
    decide
  rw [Ev.expiryEnd, hnone, List.foldl_nil]

/-- At the end of its expiry a launch is shown as it was made: the leader step starts pass the members and the mirrors by (R78). -/
theorem State.showsLaunch.finish {E : Ev} (h : s.showsLaunch E.st m c raw gain offset)
    (hquiet : ∀ d : Chan, (s.chans[d.val]'d.isLt).mirrors c → (E.finish.chans[d.val]'d.isLt) = E.st.chans[d.val]'d.isLt) (hlost : E.lost = 0) :
    s.showsLaunch E.expiryEnd m c raw gain offset := by
  have hfinish := E.finish_chan c
  have hfirst : s.showsLaunch E.finish m c raw gain offset := h.congr (by rw [hfinish]) (by rw [hfinish]) hquiet
  obtain ⟨-, hpassed⟩ := offers_pass (members E.starts) E.counted E.finish
  rw [← Ev.expiryEnd_offers hlost] at hpassed
  have hc := hpassed c hfirst.1.passedBy
  refine hfirst.congr (by rw [hc]) (by rw [hc]) fun d hd => hpassed d (Or.inl ?_)
  rw [hfirst.2 d hd]
  exact hd.1

theorem Ev.expiryEnd_rest {E : Ev} (hlost : E.lost = 0) : E.st.sameRest E.expiryEnd := by
  obtain ⟨hpass, -⟩ := offers_pass (members E.starts) E.counted E.finish
  rw [Ev.expiryEnd_offers hlost]
  exact E.finish_records.sameRest.trans hpass

/-- What the launch of a whole group leaves (R91, R92, R105). -/
theorem State.groupDue.launch (h : s.groupDue g m) : ∃ t, exec (.expiry g) s = .next t
    ∧ State.sameRest { s with gens := s.gens.set g (reloaded s.gens[g]) } t
    ∧ ∀ (c : Chan) (ctx : StepContext) (raw gain offset : Int), m.mask.getLsbD c.val = true → (s.chans[c.val]'c.isLt).headStep = some ctx →
        (ctx.resident = false ∧ (s.chans[c.val]'c.isLt).pool.queue.head? = some raw
          ∨ ctx.resident = true ∧ (s.chans[c.val]'c.isLt).pool.bankRead ctx 0 = some raw) →
        gain = (if ctx.body.levelsPresent then ctx.body.gain else (s.chans[c.val]'c.isLt).level.defGain) →
        offset = (if ctx.body.levelsPresent then ctx.body.offset else (s.chans[c.val]'c.isLt).level.defOffset) →
        s.showsLaunch t m c raw gain offset := by
  obtain ⟨e, hb, hexec⟩ := h.begins
  have hsteps := Ev.allLaunchable.steps (members_nodup m.mask) (State.begun.allLaunchable h hb)
  have hlost := hsteps.lost.trans hb.lost
  refine ⟨_, hexec, hb.rest.trans (hsteps.rest.sameRest.trans (Ev.expiryEnd_rest hlost)), ?_⟩
  intro c ctx raw gain offset hc hstep hraw hgain hoffset
  exact (State.begun.shows h hb hc hstep hraw hgain hoffset).finish
    (fun d hd => State.begun.quiet h hb hsteps (h.unmirroring hd)) hlost

end Launch

/-- Settles O41: the launch is one event, in which the members become RUNNING and make their first expiries in turn; for a group of one
it is the event of its member's entry into RUNNING. -/
theorem readyGroupLaunchesTogether : Obligations.ReadyGroupLaunchesTogether := by
  refine ⟨?group, ?sole, ?ready, dataPresent_iff⟩
  case group =>
    intro g s m hrun hlead hcond _ hatt hmembers hmore
    have hdue : s.groupDue g m := ⟨hrun, ⟨hlead, hcond, fun c hc => by
      obtain ⟨hs, hg, hr, -⟩ := hmembers c hc
      exact ⟨hs, hg, hr⟩⟩, hatt, hmore⟩
    obtain ⟨t, hexec, ⟨hengine, horders, hgens, htrig, hpins, hphase, hfree, hpending⟩, hmember⟩ := hdue.launch
    refine ⟨t, hexec, hgens, fun c ctx raw gain offset hc hstep hraw hgain hoffset => ?_, hengine, horders, htrig, hpins, hphase, hfree,
      hpending⟩
    obtain ⟨⟨⟨hstate, hwait⟩, hcount, hgroup, ⟨hexpiries, hheld, hadvance⟩, hlane, h0, h1⟩, hmirrors⟩ :=
      hmember c ctx raw gain offset hc hstep hraw hgain hoffset
    exact ⟨hstate, hwait, hcount, hgroup, hexpiries, hheld, hadvance, hlane, h0, h1, fun d hs hm => hmirrors d ⟨hs, hm⟩⟩
  case sole =>
    intro g c s u m ctx ch b position raw pool obtained missed fed hsole hm hs hg hmask hlead hcond hready hstep hreader hfollow hu hch hb
      hw hn ho
    exact launch_sole_whole hsole hm hs hg hmask hlead hcond hready hstep hreader hfollow hu hch hb hw hn ho
  case ready =>
    intro s c
    rw [State.memberReady_iff]
    simp only [firstStepReady_iff]
    rfl

end Sys2Proof.Machine
